-- ==== Sys2Proof/Word.lean ====
section
/-! DEFINITION. The machine's word and byte (00_scope.md R11, R16) and the plainest facts of their arithmetic. -/

namespace Sys2Proof

/-- A register word: registers are 32 bits wide (00_scope.md R16). -/
abbrev Word := BitVec 32

/-- The smallest addressable unit of every memory of the part. -/
abbrev Byte := BitVec 8

end Sys2Proof
end

