-- ==== Sys2Proof/Syntax.lean ====
section
/-! DEFINITION. The commands the block takes, as data: one constructor of `Instr` per row of spec/opcode_table.json.
A command carries what the outside world decides and the block cannot know: who makes an access and with which word,
what a pin, a measurement, a sensor, another chip or the board's NVM delivers, and when. -/

namespace Sys2Proof

/-- The register masters (01 Table 01.7), as STW_ACCESS_INFO.MASTER codes them. -/
inductive Master where
  | steward | host | spi | debug | i2c
deriving DecidableEq, Repr

/-- The width of an access (01 STW_ACCESS_INFO.SIZE). -/
inductive AccSize where
  | b8 | b16 | b32 | burst
deriving DecidableEq, Repr

/-- What an access names: a Steward-space address, or the Pixel Pen, which has no address (02 R82); `mover` and `link`
are the two requesters of R82 that are no register masters. -/
inductive AccTarget where
  | addr (a : Word)
  | pen
deriving DecidableEq, Repr

/-- The rails the supply supervisor watches (06 R177); the code is event 0x0301's. -/
inductive Rail where
  | core | aon
deriving DecidableEq, Repr

/-- The two PLLs (04 Table 04.1). -/
inductive Pll where
  | main | barn
deriving DecidableEq, Repr

/-- The element a calibration of 01 Table 01.4 belongs to. -/
inductive CalElem where
  | column (stall : Fin 96)
  | mic (m : Fin 16)
  | dark (b : Fin 4)
  | line (b : Fin 4)
  | sweep
  | isen (n : Fin 4)
deriving DecidableEq, Repr

/-- A loss check of light (13 Table 13.7): stage 0 to 4, bay, line or column, and how far its ratio lies below its reference, in 0.1 dB. -/
structure Loss where
  stage : Fin 5
  bay : Fin 4
  place : Fin 32
  drop : Nat
deriving DecidableEq, Repr

/-- What a sense-offset calibration measures (06 R188): the pad read back high impedance for the 16 periods, the 16
codes of those periods, the 64 codes after them. -/
structure IsenMeas where
  hiZ : Bool
  codes16 : List (BitVec 10)
  codes64 : List (BitVec 10)
deriving DecidableEq, Repr

/-- A PWM period of the core rail (06 R184, R185): the ISEN code of each phase, its duty in 1/1,024, and the VSENSE± voltage in
millivolts. -/
structure RailPeriod where
  codes : List (BitVec 10)
  duties : List (BitVec 10)
  vsense : Nat
deriving DecidableEq, Repr

/-- The IO banks with an undervoltage detector (17 R485), in the order of 17's bank list. -/
inductive Bank where
  | a | nvm | aud | cam | phy
deriving DecidableEq, Repr

/-- A token bucket of the Gate (02 R69); head i is GATE_HEADi's index. -/
inductive Bucket where
  | records | bytes
  | head (i : Fin 48)
deriving DecidableEq, Repr

/-- The result of an indicator-LED path test (08 R248, 09 R281). -/
inductive LedPath where
  | good | openPath | shorted
deriving DecidableEq, Repr

/-- A change of a microphone clock at a 1 ms boundary (08 R236). -/
inductive ClockSwitch where
  | listening | full | clk1Start
deriving DecidableEq, Repr

/-- An output stream of a microphone (08 R238). -/
inductive Stream where
  | lp16 | hq16 | hq48
deriving DecidableEq, Repr

/-- How a CSI-2 packet header arrives (09 Table 09.5): whole, corrected by its ECC, or uncorrectable. -/
inductive PktHdr where
  | good | corrected | fatal
deriving DecidableEq, Repr

/-- A long packet or DVP line of a camera port (09 R278, R279). A DVP line has no header and no CRC. -/
structure CamPacket where
  vc : BitVec 2
  dt : BitVec 6
  hdr : PktHdr
  crcOk : Bool
  payload : List Byte
deriving DecidableEq, Repr

/-- One measurement of a sensor-port presence probe (09 R264, R265): the voltages of its two samples, in millivolts. -/
structure ProbeSample where
  a : Nat
  b : Nat
deriving DecidableEq, Repr

/-- A target that answers ENTDAA (09 R261). -/
structure I3cTarget where
  bcr : Byte
  dcr : Byte
deriving DecidableEq, Repr

/-- Why a head rail faults (09 R269). -/
inductive RailFaultKind where
  | short | overcurrent
deriving DecidableEq, Repr

/-- The measurement of a microphone calibration (08 R251): the sum of `count` last-stage values over 1 s, before offset and gain, in units
of 2^−31 of full scale; the 1 kHz to 4 kHz self-noise levels of the enabled microphones of its path. -/
structure MicMeas where
  sum : Int
  count : Nat
  levels : List (Fin 16 × Word)
deriving DecidableEq, Repr

/-- The outcome of a program-and-verify run (12 R351): the rows retried, with how often, and the row that did not verify. -/
structure ProgMeas where
  retried : List (BitVec 8 × Fin 4)
  failRow : Option (BitVec 8)
deriving DecidableEq, Repr

/-- The measurement of a column-offset calibration (12 R359): every input driver's monitor reports zero drive; per column the sum
of its 64 zero-input conversions. -/
structure ColMeas where
  quiet : Bool
  sums : List Int
deriving DecidableEq, Repr

/-- The measurement of a bay's dark levels (13 R383): how far each blanked modulator's monitor reads below its line's comb monitor, in
0.1 dB; the 32 means in Q8.8. -/
structure DarkMeas where
  depth : List Nat
  dark : List (BitVec 16)
deriving DecidableEq, Repr

/-- A ring as a sweep finds it (13 R384): its number, the heater code of its resonance centre, its width in heater codes and its extinction
in dB. -/
structure RingMeas where
  ring : Nat
  centre : BitVec 12
  width : Nat
  extinction : Nat
deriving DecidableEq, Repr

/-- The measurement of a ring sweep (13 R384): every comb line reads within R369's limits; the rings found; the gains of the columns
swept. -/
structure SweepMeas where
  combLocked : Bool
  rings : List RingMeas
  gains : List (BitVec 16)
deriving DecidableEq, Repr

/-- The two small host ports that take commands (15 R432). -/
inductive SmallPort where
  | spi | i2c
deriving DecidableEq, Repr

/-- A frame as a receiving hop has it after decryption (15 Tables 15.7, 15.8): the header fields, the payload, and
whether its CRC and its tag passed. -/
structure LinkFrame where
  lseq : BitVec 16
  crcOk : Bool
  tagOk : Bool
  taint : BitVec 2
  channel : BitVec 4
  src : BitVec 6
  dst : Byte
  hops : Byte
  ctr : BitVec 64
  payload : List Byte
deriving DecidableEq, Repr

/-- What a start finds outside itself (03 R103, R106): BOOTSEL and GEGER_ID at t0; the last step that this command runs; the
sense-offset calibrations of step 2 and the RC cycles of a carry; the key slots that fail erase at step 3; the AON BIST (none
where it passes, false for the AON logic, true for the Yard SRAM), the LOFT domains and the stalls that fail their BIST; the
outcome of each stall's programming; the ring sweep, none where the comb does not lock; the port probes; the time from t0 to
SEAL in milliseconds. `failing` are the domains that do not report ready when the start needs them (05 R172). -/
structure StartEnv where
  bootsel : BitVec 2
  chip : BitVec 6
  stopAt : Fin 13
  failing : List (Fin 24)
  isen : List (Fin 4 × IsenMeas)
  rcCycles : Word
  killed : List (Fin 4)
  aonBist : Option Bool
  loftBist : List (Fin 4)
  stallBist : List (Fin 96)
  prog : List (Fin 96 × ProgMeas)
  sweep : Option SweepMeas
  ports : List (Fin 8 × List ProbeSample)
  sealMs : Nat
deriving DecidableEq, Repr


/-- The commands of the part: one constructor per row of spec/opcode_table.json, in the order of its rows but for 34 commands without
operands that stand last: a compiled Lean constructor with fields may not lie past the 244th place. -/
inductive Instr where
  /-- REGISTER_WRITE (00 R13). A master writes a register that has no row of its own; the write acts according to the field access types. -/
  | registerWrite (m : Master) (addr v : Word)
  /-- RC_READ (00 R13). A read of an RC field returns its value and then clears it. -/
  | rcRead (m : Master) (addr : Word)
  /-- FAULTING_ACCESS (01 R45). An unmapped, out-of-rights or wrong-width access completes without effect, reads 0, and is recorded, counted and logged. -/
  | faultingAccess (m : Master) (target : AccTarget) (size : AccSize) (write : Bool)
  /-- SPAN_COUNT_READ (04 R132). A read of SPN_COUNT_LO returns bits [31:0] and latches bits [63:32] into the reading master's shadow. -/
  | spanCountRead (m : Master)
  /-- TICK (04 R138). A management tick elapses and the Steward does its per-tick work. -/
  | tick (tj : Byte) (losses : List Loss)
  /-- STEWARD_WDT (01 R46). The AON watchdog is not serviced for 16 ticks and a warm reset with cause STEWARD_WDT follows. -/
  | stewardWdt
  /-- CALIBRATION_RETRY (01 R32). The back-off timer of a rejected calibration expires and the calibration runs again. -/
  | calibrationRetry (e : CalElem)
  /-- POWER_ON (03 R110). VIN_AON rises and a cold start follows with boot counters cleared and the event log reinitialised. -/
  | powerOn
  /-- RESET_N (03 R114). RESET_N is asserted; any start in progress is abandoned and a cold start with cause RESET_N begins. -/
  | resetN
  /-- COLD_START (03 R103). The internal reset releases at t0 and the cold-start steps run in order up to entry to START_STATE. -/
  | coldStart (env : StartEnv)
  /-- SEAL_TIMEOUT (03 R113). SEAL has not occurred 5 s after t0 and the start fails. -/
  | sealTimeout
  /-- WARM_START (03 R106). A warm start runs its reduced steps, using the retained header digest. -/
  | warmStart (env : StartEnv)
  /-- WARM_REQ (03 R110). A keyed write to STW_START_REQ requests a warm start with cause WARM_REQ. -/
  | warmReq (m : Master) (v : Word)
  /-- NVM_REQ (03 R92). NVM_REQ_N is asserted by another master after SEAL. -/
  | nvmReq
  /-- NVM_GRANT (03 R92). The NVM operation in progress ends and the Z96 asserts NVM_GNT_N. -/
  | nvmGrant
  /-- NVM_RELEASE (03 R92). NVM_REQ_N is released and held NVM operations may start. -/
  | nvmRelease (writes : List (Nat × List Byte))
  /-- STATE_AREA_WRITE (03 R96). The Steward starts a state-area write to the bank that does not hold the newest copy. -/
  | stateAreaWrite
  /-- STATE_WRITE_DONE (03 R96). A state-area write ends and its bank is read back and checked. -/
  | stateWriteDone (ok : Bool)
  /-- STATE_WRITE_RETRY (03 R121). One second after a failed read-back, the write is retried once to the same bank. -/
  | stateWriteRetry
  /-- CAL_INTERVAL_END (03 R97). CAL_INTERVAL_S elapses and changed calibration results may be written to the state area. -/
  | calIntervalEnd
  /-- CORE_RESTORE (03 R109). The start loader restores CORE_MGMT from the image and the save store at a non-start wake. -/
  | coreRestore
  /-- SPAN_ALIGN (04 R136). On the first XT32 edge after the root restarts, the carried time is folded into the span counter and counting resumes. -/
  | spanAlign (rcCycles : Word)
  /-- RATE_WINDOW (04 R133). A 65,536-cycle XT32 window closes, and SPAN_RATE is updated or the measurement is rejected. -/
  | rateWindow (count : BitVec 22)
  /-- XT32_LOST (04 R144). No XT32 edge arrives for 8 RC cycles during a stop; the chip wakes and aligns from the RC estimate. -/
  | xt32Lost (rcCycles : Word)
  /-- XT32_STOPPED (04 R145). XT32 stops while the root runs; XT_STOPPED is set and measurement stops. -/
  | xt32Stopped
  /-- PLL_UNLOCK (04 R146). The main PLL loses lock and data-plane issue halts. -/
  | pllUnlock (p : Pll)
  /-- PLL_RELOCK (04 R146). The main PLL relocks, SPN_TICK restarts from 0 and issue resumes. -/
  | pllRelock (p : Pll)
  /-- STATE_REQUEST (05 R153). A chip-state request enters the pending slot through PWR_STATE_REQ. -/
  | stateRequest (m : Master) (v : Word)
  /-- ENTRY_COMMIT (05 R169). The preparation of a transition ends and the pending request becomes in flight. -/
  | entryCommit
  /-- STATE_ENTERED (05 R174). A chip transition completes, the new state is logged, and the next pending request is handled. -/
  | stateEntered
  /-- VOTE_WRITE (05 R159). A write to PWR_STW_VOTE0 or PWR_STW_VOTE1 sets the slot-0 votes and the domain levels are recomputed. -/
  | voteWrite (m : Master) (hi : Bool) (v : Word)
  /-- DOMAIN_HOLD_END (05 R160). The drop hold of a domain expires and the domain's fall proceeds. -/
  | domainHoldEnd (d : Fin 24)
  /-- DOMAIN_READY (05 R162). A waking domain reports ready; stalled accesses and dependents proceed. -/
  | domainReady (d : Fin 24)
  /-- DOMAIN_DROPPED (05 R162). A domain's drop, including its pre-action, completes and its switch opens. -/
  | domainDropped (d : Fin 24)
  /-- DOMAIN_TIMEOUT (05 R172). A domain is not ready within twice its wake time; it is retried or marked failed. -/
  | domainTimeout (d : Fin 24)
  /-- FIRST_ACCESS_WAKE (05 R161). An access to a ROW, LOFT, PEN or BARN domain below on raises a slot-7 vote and stalls until the domain is ready. -/
  | firstAccessWake (d : Fin 24)
  /-- WAKE_IN (05 R164). The WAKE_IN pin becomes active or has an edge, and latches or requests a wake per its mode. -/
  | wakeIn (level : Bool)
  /-- SLEEP_TIMER (05 R165). The sleep timer expires, sets its latch and requests a wake to TIMER_TARGET. -/
  | sleepTimer
  /-- WAKE_RESAMPLE (05 R166). After a downward transition, level and latched sources are sampled again and an active one causes a wake. -/
  | wakeResample
  /-- BRACE_ENTER (06 R179). An armed rail falls below warning and the Z96 enters Brace. -/
  | braceEnter (rail : Rail) (code : Byte)
  /-- BRACE_EXIT (06 R180). Both rails stay above warning release for 50 µs, and Brace ends and its holds release. -/
  | braceExit (coreMin aonMin coreNow aonNow : Byte)
  /-- DIP_LONG (06 R181). Brace outlasts DIP_MAX_MS and a warm reset with cause DIP_LONG follows. -/
  | dipLong
  /-- CORE_BROWNOUT (06 R182). VDD_CORE reaches its reset threshold; every switched domain opens and the rail stops. -/
  | coreBrownout (code : Byte)
  /-- BROWNOUT_DELAY (06 R182). 1 ms after a core brownout, a warm start with cause BROWNOUT begins. -/
  | brownoutDelay
  /-- AON_BROWNOUT (06 R182). VIN_AON reaches reset, AON retention is lost, and a cold start follows its recovery. -/
  | aonBrownout
  /-- STORM_END (06 R183). No Brace has begun for STORM_HOLD_S; the storm forced request ends. -/
  | stormEnd
  /-- PHASE_OPEN (06 R196). A phase carries under 10 % of the average current for 8 periods and is shed. -/
  | phaseOpen (n : Fin 4) (p : RailPeriod)
  /-- SENSE_FAILED (06 R197). A phase's current sense fails for 64 periods; the phase becomes blind or is shed. -/
  | senseFailed (n : Fin 4) (p : RailPeriod)
  /-- OC_LIMIT (06 R203). A PWM period truncates a phase or the total at its current limit. -/
  | ocLimit (n : Fin 5) (p : RailPeriod)
  /-- LIGHT_LOAD_ENTER (06 R186). The total current stays below 3 A for 256 periods and the controller runs a single phase. -/
  | lightLoadEnter (p : RailPeriod)
  /-- LIGHT_LOAD_EXIT (06 R186). The total current reaches 4 A, or Brace begins, and multiphase operation resumes. -/
  | lightLoadExit (p : RailPeriod)
  /-- RAIL_THROTTLE_STEP (06 R199). The rail throttle share falls on a period at or above budget, or rises after 32 periods below. -/
  | railThrottleStep (p : RailPeriod)
  /-- ISEN_CAL (06 R188). A current-sense offset calibration of a phase runs at rail enable or on its light-load period. -/
  | isenCal (n : Fin 4) (meas : IsenMeas)
  /-- VSENSE_LOCAL (06 R202). VSENSE± stays out of range for 8 periods and the controller regulates on internal sense. -/
  | vsenseLocal
  /-- SOFT_START_DONE (06 R205). VDD_CORE reaches 0.720 V; the thresholds arm and CORE_PG releases. -/
  | softStartDone
  /-- SOFT_START_RETRY (06 R205). VDD_CORE has not reached 0.720 V 1 ms into a soft-start; the rail stops and retries after 10 ms. -/
  | softStartRetry
  /-- BANK_UNDERVOLT (17 R485). An IO bank falls below 1.2 V; its outputs go to high impedance and its inputs read inactive. -/
  | bankUndervolt (b : Bank)
  /-- SLOT_TIMER (07 R209). A watch-program slot's timer fires and a run starts at instruction 0. -/
  | slotTimer (slot : Fin 16)
  /-- HALT (07 R212). The HALT instruction ends the run. -/
  | halt (slot : Fin 16)
  /-- WAIT (07 R212). The WAIT instruction suspends the slot until its condition holds. -/
  | wait (slot : Fin 16)
  /-- WAIT_END (07 R212). The condition of a WAIT is met and the slot resumes. -/
  | waitEnd (slot : Fin 16)
  /-- WAIT_TIMEOUT (07 R212). WAIT_MAX elapses on a WAIT; TIMEOUT is set and the slot resumes. -/
  | waitTimeout (slot : Fin 16)
  /-- SAMPLE (07 R212). The SAMPLE instruction starts a port script once the port's sequencer is idle. -/
  | sample (slot : Fin 16)
  /-- LOAD (07 R212). The LOAD instruction reads a data-space word into a register. -/
  | load (slot : Fin 16)
  /-- YARD_STORE (07 R212). The STORE instruction writes a register to a data-space word with the run taint. -/
  | yardStore (slot : Fin 16)
  /-- MOVI (07 R212). The MOVI instruction loads an immediate into a register. -/
  | movi (slot : Fin 16)
  /-- ADD (07 R212). The ADD instruction adds the operand to a register. -/
  | add (slot : Fin 16)
  /-- SUB (07 R212). The SUB instruction subtracts the operand from a register. -/
  | sub (slot : Fin 16)
  /-- MUL (07 R212). The MUL instruction multiplies a register by the operand. -/
  | mul (slot : Fin 16)
  /-- AND (07 R212). The AND instruction ANDs the operand into a register. -/
  | and (slot : Fin 16)
  /-- OR (07 R212). The OR instruction ORs the operand into a register. -/
  | or (slot : Fin 16)
  /-- SHIFT (07 R212). The SHIFT instruction shifts a register left, or arithmetically right. -/
  | shift (slot : Fin 16)
  /-- CMP (07 R212). The CMP instruction makes a signed compare and sets LT, EQ or GT. -/
  | cmp (slot : Fin 16)
  /-- BR (07 R212). The BR instruction branches if its condition holds. -/
  | br (slot : Fin 16)
  /-- LOOPN (07 R212). The LOOPN instruction repeats its body a fixed number of times. -/
  | loopn (slot : Fin 16)
  /-- FEAT (07 R214). The FEAT instruction starts a feature operation on a slot descriptor once the feature unit is free. -/
  | feat (slot : Fin 16)
  /-- FEAT_DONE (07 R214). A feature operation completes and its slot resumes. -/
  | featDone
  /-- NET (07 R212). The NET instruction starts the slot's micro-net once the net unit is free. -/
  | net (slot : Fin 16)
  /-- NET_DONE (07 R216). A micro-net completes; the scores are written and the confidence detector is updated. -/
  | netDone
  /-- VOTE (07 R212). The VOTE instruction sets the slot's vote for a domain. -/
  | vote (slot : Fin 16)
  /-- WAKE (07 R218). The WAKE instruction sets the wake votes, queues a wake record and asserts WAKE_OUT. -/
  | wake (slot : Fin 16)
  /-- WAKE_QUEUE_RESUME (07 R218). A wake-queue entry frees and a WAKE stalled at step 2 writes its record. -/
  | wakeQueueResume (slot : Fin 16)
  /-- WAKE_QUEUE_MOVE (07 R219). With CORE_MGMT ready, the dispatcher moves a wake record into its class-0 DATA ring and releases WAKE_OUT when the queue is empty. -/
  | wakeQueueMove
  /-- REQ (07 R212). The REQ instruction makes the Yard's chip-state request. -/
  | req (slot : Fin 16)
  /-- RECORD (07 R220). The RECORD instruction presents a Yard verdict record to the Gate. -/
  | record (slot : Fin 16)
  /-- MARK (07 R212). The MARK instruction logs event 0x0410. -/
  | mark (slot : Fin 16)
  /-- ARM (07 R212). The ARM instruction starts a run of another slot unless that slot is running. -/
  | arm (slot : Fin 16)
  /-- CLEAR (07 R212). The CLEAR instruction resets the slot's detector. -/
  | clear (slot : Fin 16)
  /-- CYCLE_MAX_EXCEEDED (07 R228). A run exceeds CYCLE_MAX cycles and the slot faults with cause 5. -/
  | cycleMaxExceeded (slot : Fin 16)
  /-- WAKE_CLR (07 R217). A write to YRD_WAKE_CLR withdraws the latched wake votes of the named slots. -/
  | wakeClr (m : Master) (v : Word)
  /-- LOG_WRITE (07 R222). The log writer takes the oldest intake entry and writes it to the event log. -/
  | logWrite
  /-- GATE_TAKE (02 R67). An outbox entry is free and the Gate takes a waiting emitted record for checking. -/
  | gateTake (h : Fin 48)
  /-- TOKEN_REFILL (02 R69). A refill interval elapses and a Gate record, byte or head bucket gains tokens. -/
  | tokenRefill (b : Bucket)
  /-- FRAME_START (02 R52). A camera frame start arrives; the next FREE slot begins FILLING or the frame is skipped. -/
  | frameStart (p : Fin 2) (vc : BitVec 2) (hdr : PktHdr)
  /-- LINE_PACKET (09 R278). A camera long packet or DVP line arrives and its payload is stored in the slot. -/
  | linePacket (p : Fin 2) (pkt : CamPacket)
  /-- FRAME_END (02 R52). A correct frame ends; the slot becomes READY and its tally gains 1. -/
  | frameEnd (p : Fin 2) (vc : BitVec 2) (hdr : PktHdr)
  /-- FRAME_TIMEOUT (09 R279). No frame end arrives within FRAME_TMO_MS and the frame is abandoned. -/
  | frameTimeout (p : Fin 2)
  /-- PEN_TTL (02 R54). A READY slot reaches TTL_MS without retiring and is wiped. -/
  | penTtl (p : Fin 2) (slot : Fin 4)
  /-- SLOT_WIPE_DONE (02 R55). A slot wipe completes and the slot returns to FREE. -/
  | slotWipeDone (p : Fin 2) (slot : Fin 4)
  /-- PEN_WIPE (02 R56). A whole-Pen wipe completes; it is logged with its cause and its span time is recorded. -/
  | penWipe
  /-- CLOCK_SWITCH (08 R236). At the next 1 ms boundary, a PDM clock starts or changes rate and SETTLE begins. -/
  | clockSwitch (kind : ClockSwitch)
  /-- SETTLE_END (08 R236). SETTLE_MS elapses after a clock switch and samples are kept again. -/
  | settleEnd (clk : Fin 2)
  /-- STREAM_FRAME (08 R238). A 1 ms output frame of a microphone stream is complete. -/
  | streamFrame (mic : Fin 16) (stream : Stream) (samples : List Word)
  /-- LOGMEL_FRAME (08 R240). A 10 ms hop ends and a 40-band log-mel frame is computed. -/
  | logmelFrame (mic : Fin 16)
  /-- PATTERN_EVAL (08 R241). A recogniser pattern's micro-net runs on its context frames. -/
  | patternEval (p : Fin 8)
  /-- REFRACT_END (08 R241). REFRACT_MS elapses after a match and the pattern may match again. -/
  | refractEnd (p : Fin 8)
  /-- PREROLL_BLOCK (08 R243). A pre-roll block is full, is encrypted, and overwrites the oldest ring block. -/
  | prerollBlock (mic : Fin 16)
  /-- UNLOAD (08 R246). A keyed write to EAR_PREROLL_CMD starts a pre-roll unload. -/
  | unload (m : Master) (v : Word)
  /-- MUTE_LED_TEST (08 R248). The mute LED path is tested and a fault holds mute. -/
  | muteLedTest (r : LedPath)
  /-- MIC_CAL_START (08 R251). A microphone DC and gain calibration becomes due and starts its quiet check. -/
  | micCalStart (m : Fin 16) (hq : Bool)
  /-- MIC_CAL_END (08 R251). The calibration's measurement ends; the coefficients are applied or rejected. -/
  | micCalEnd (m : Fin 16) (meas : MicMeas)
  /-- PROBE (09 R264). A sensor-port presence probe starts its five measurements. -/
  | probe (port : Fin 8)
  /-- PROBE_DONE (09 R265). A probe ends with a class, or is repeated when its samples disagree. -/
  | probeDone (port : Fin 8) (samples : List ProbeSample)
  /-- PROBE_PERIOD (09 R266). A port that is not PRESENT is probed again every 1,024,000 span ticks. -/
  | probePeriod (port : Fin 8)
  /-- RAIL_GOOD (09 R268). A head rail reaches 3.0 V and the head bring-up runs to READY. -/
  | railGood (port : Fin 8) (intFloats : Bool) (targets : List I3cTarget)
  /-- RAIL_FAULT (09 R269). A head rail shorts or overcurrents; it is latched off and back-off begins. -/
  | railFault (port : Fin 8) (kind : RailFaultKind)
  /-- RAIL_BACKOFF_END (09 R269). The rail back-off wait ends; the port probes and may switch the rail on again. -/
  | railBackoffEnd (port : Fin 8)
  /-- FAIL_COUNT_CLEAR (09 R269). A rail has run 10 s without a fault and its failure count clears. -/
  | failCountClear (port : Fin 8)
  /-- FAULT_CLR (09 R270). A keyed write to SPT_FAULT_CLR clears FAULT on the named ports and starts a probe. -/
  | faultClr (m : Master) (v : Word)
  /-- FAULT_RESET_TIMER (09 R270). Under policy 1, RESET_S seconds after FAULT, the fault clears. -/
  | faultResetTimer (port : Fin 8)
  /-- SCRIPT_WRITE (09 R273). The WRITE script step writes bytes on the port's bus. -/
  | scriptWrite (port : Fin 8)
  /-- SCRIPT_READ (09 R273). The READ script step reads bytes into the port buffer. -/
  | scriptRead (port : Fin 8)
  /-- BUS_TRANSFER_DONE (09 R275). A bus step ends with an ACK or a NACK, and the script continues or ends. -/
  | busTransferDone (port : Fin 8) (ack : Bool) (data : List Byte)
  /-- WAIT_INT (09 R273). The WAIT_INT script step waits for INT active. -/
  | waitInt (port : Fin 8)
  /-- WAIT_INT_TIMEOUT (09 R273). TMO span ticks elapse in WAIT_INT and the script ends with TIMEOUT. -/
  | waitIntTimeout (port : Fin 8)
  /-- DELAY (09 R273). The DELAY script step starts a wait. -/
  | delay (port : Fin 8)
  /-- DELAY_END (09 R273). A DELAY elapses and the script continues. -/
  | delayEnd (port : Fin 8)
  /-- LOOP (09 R273). The LOOP script step goes back to an earlier step COUNT more times. -/
  | loop (port : Fin 8)
  /-- SCRIPT_STORE (09 R273). The STORE script step copies buffer bytes to the Yard data space or the Loft with P taint. -/
  | scriptStore (port : Fin 8)
  /-- SIGNAL_TALLY (09 R273). A SIGNAL step of kind 0 adds VALUE to a tally, or is held while CORE_MGMT is off. -/
  | signalTally (port : Fin 8)
  /-- SIGNAL_LINE (09 R273). A SIGNAL step of kind 1 drives or releases SPn_D, or ends INVALID in SPI mode. -/
  | signalLine (port : Fin 8)
  /-- HELD_SIGNAL_APPLY (09 R274). CORE_MGMT is ready and a held kind-0 SIGNAL is applied. -/
  | heldSignalApply (port : Fin 8)
  /-- INT_ACTIVE (09 R262). A port's INT line becomes active and serves WAIT_INT, the Yard trigger and WAIT kind 1. -/
  | intActive (port : Fin 8) (level : Bool)
  /-- IBI (09 R261). An I3C in-band interrupt from an assigned address counts as INT active for one span tick. -/
  | ibi (port : Fin 8) (addr : BitVec 7)
  /-- BUS_STUCK (09 R285). A bus line is held low for 35 ms; the script ends and bus recovery runs. -/
  | busStuck (port : Fin 8) (line : Fin 2) (recovered : Bool)
  /-- INT_TEST (09 R286). The INT line test pulls SPn_C up and down to detect a floating line. -/
  | intTest (port : Fin 8) (floats : Bool)
  /-- CAM_LED_FAULT (09 R281). The camera LED path faults; both ports are held and filling frames are abandoned. -/
  | camLedFault (kind : LedPath)
  /-- CAM_LED_TEST (09 R281). The periodic camera LED pulse test runs during the hold. -/
  | camLedTest (r : LedPath)
  /-- NOP (10 R296). A NOP layer descriptor completes at once. -/
  | nop (stall : Fin 96)
  /-- MATMUL (11 R325). A MATMUL descriptor is checked and runs on the digital array with group scales and outliers. -/
  | matmul (stall : Fin 96)
  /-- CIM_MATMUL (11 R323). A CIM_MATMUL descriptor runs on the CIM macro with digital offset removal. -/
  | cimMatmul (stall : Fin 96)
  /-- VEC_REQUANT (11 R330). A VECTOR descriptor with FUNC REQUANT requantises its input through the output stage. -/
  | vecRequant (stall : Fin 96)
  /-- VEC_ADD (10 R296). A VECTOR descriptor with FUNC ADD adds SRC and WGT. -/
  | vecAdd (stall : Fin 96)
  /-- VEC_MUL (10 R296). A VECTOR descriptor with FUNC MUL multiplies its operands. -/
  | vecMul (stall : Fin 96)
  /-- VEC_MAX (10 R296). A VECTOR descriptor with FUNC MAX takes the element-wise maximum. -/
  | vecMax (stall : Fin 96)
  /-- VEC_MAXPOOL (10 R296). A VECTOR descriptor with FUNC MAXPOOL max-pools its input. -/
  | vecMaxpool (stall : Fin 96)
  /-- VEC_AVGPOOL (10 R296). A VECTOR descriptor with FUNC AVGPOOL average-pools its input. -/
  | vecAvgpool (stall : Fin 96)
  /-- VEC_LUT (10 R296). A VECTOR descriptor with FUNC LUT maps its input through a 256-entry table. -/
  | vecLut (stall : Fin 96)
  /-- VEC_SOFTMAX (10 R296). A VECTOR descriptor with FUNC SOFTMAX computes a softmax. -/
  | vecSoftmax (stall : Fin 96)
  /-- BACKWARD (11 R337). A BACKWARD descriptor computes a requantised weight-gradient block. -/
  | backward (stall : Fin 96)
  /-- UPDATE (11 R338). An UPDATE descriptor applies momentum and the learning rate and writes a new state block. -/
  | update (stall : Fin 96)
  /-- EMIT (10 R296). An EMIT descriptor presents a verdict record to the Gate and waits for an outbox entry. -/
  | emit (stall : Fin 96)
  /-- TILE_COMPLETE (10 R299). A tile's LAST descriptor completes; its writes become visible, TALLY_ADD applies and the completion returns to the ring. -/
  | tileComplete (stall : Fin 96)
  /-- ECC_CORRECTED (10 R291). A single-bit stall SRAM error is corrected, written back and counted. -/
  | eccCorrected (stall : Fin 96) (word : BitVec 14)
  /-- ECC_UNCORRECTABLE (10 R291). A double-bit stall SRAM error fences the stall. -/
  | eccUncorrectable (stall : Fin 96) (word : BitVec 14)
  /-- WINDOW_CLOSE (10 R302). A range-monitor window of 4,096 outputs closes and its out-of-envelope count is evaluated. -/
  | windowClose (stall : Fin 96) (g : Nat)
  /-- DESC_WATCHDOG (10 R314). A descriptor exceeds its WDOG and the stall is fenced with cause 4. -/
  | descWatchdog (stall : Fin 96)
  /-- PROGRAM_START (12 R351). A stall begins CIM program-and-verify once fewer than 24 stalls are programming. -/
  | programStart (stall : Fin 96)
  /-- PROGRAMMED (12 R351). A stall's programming ends, its column sums are measured and its record is written VALID. -/
  | programmed (stall : Fin 96) (meas : ProgMeas)
  /-- PROGRAM_TIMEOUT (12 R352). A stall's programming exceeds 130 ms outside Brace and fails verify. -/
  | programTimeout (stall : Fin 96)
  /-- COMMIT_INTERVAL_END (12 R356). COMMIT_INTERVAL_H has elapsed since the last commit and a waiting request proceeds. -/
  | commitIntervalEnd (wset : BitVec 16)
  /-- COMMIT (12 R357). A commit requantises the state block, checks wear, records it and programs the changed rows. -/
  | commit (wset : BitVec 16)
  /-- COMMIT_DONE (12 R357). The commit's programming ends; the scales and the digital image are written and event 0x0A04 is logged. -/
  | commitDone (wset : BitVec 16)
  /-- COLUMN_CAL (12 R359). A due column-offset calibration runs between tiles and applies or rejects new offsets. -/
  | columnCal (stall : Fin 96) (meas : ColMeas)
  /-- CIM_CAL_PERIOD (12 R358). PERIOD_S elapses with the ROW on and the column calibration becomes due. -/
  | cimCalPeriod (stall : Fin 96)
  /-- RING_UNLOCK (13 R390). A Barn ring stays outside UNLOCK_TOL for 64 visits and is handled as a loss. -/
  | ringUnlock (ring : BitVec 13) (diff : Byte)
  /-- ROTATION_STEP (13 R382). A bay's rotation step falls due; the bay is held and dark-level calibration starts. -/
  | rotationStep (b : Fin 4)
  /-- DARK_LEVEL_DONE (13 R383). The bay's dark-level calibration ends, passing or rejected. -/
  | darkLevelDone (b : Fin 4) (meas : DarkMeas)
  /-- LINE_SWEEP_DONE (13 R384). The sweep of the out line ends, passing or rejected. -/
  | lineSweepDone (b : Fin 4) (meas : SweepMeas)
  /-- PILOT_DONE (13 R388). The pilot check of the step ends and any loss is located. -/
  | pilotDone (b : Fin 4) (losses : List Loss)
  /-- LINE_MOVE_DONE (13 R382). The moved weight rings lock, the map table switches and issue to the bay resumes. -/
  | lineMoveDone (b : Fin 4) (diff : Byte)
  /-- SWEEP_DONE (13 R384). A full sweep of all 4,224 rings completes. -/
  | sweepDone (meas : SweepMeas)
  /-- RELOCK_DONE (13 R385). A warm re-lock from stored setpoints ends. -/
  | relockDone (missing : List (BitVec 13)) (gains : List (BitVec 16))
  /-- BAY_WATCHDOG (13 R391). A Barn descriptor exceeds its WDOG and is re-issued once to another bay. -/
  | bayWatchdog (b : Fin 4)
  /-- BARN_MATMUL (13 R377). A BARN_MATMUL descriptor computes its outputs on an eligible bay, loading its map first if needed. -/
  | barnMatmul (b : Fin 4)
  /-- BARN_LOAD (13 R376). A BARN_LOAD descriptor loads a map into a bay. -/
  | barnLoad (b : Fin 4)
  /-- MAP_LOAD_DONE (13 R376). Every ring of a loaded map is locked and the load completes. -/
  | mapLoadDone (b : Fin 4) (diff : Byte)
  /-- BARN_HINT (13 R376). A BARN_HINT raises the dispatcher's BARN_ARRAY vote and completes at once. -/
  | barnHint (ring : BitVec 11)
  /-- RING_DOORBELL (14 R399). A write to RNG_DOORBELL adds COUNT to a ring's PI. -/
  | ringDoorbell (m : Master) (v : Word)
  /-- ENTRY_NOP (14 R400). A NOP ring entry completes at once. -/
  | entryNop (ring : BitVec 11)
  /-- TILE (14 R400). A TILE ring entry with its gate satisfied is issued to a stall or bay under the class order. -/
  | tile (ring : BitVec 11)
  /-- HEAD (14 R400). A HEAD ring entry issues the fabric verdict head of a head-store slot. -/
  | head (ring : BitVec 11)
  /-- MOVE (14 R409). A MOVE ring entry queues a Mover descriptor on its channel. -/
  | move (ring : BitVec 11)
  /-- COPY (14 R414). A Mover COPY runs, choosing its traversal direction for overlapping spans. -/
  | copy (ch : Fin 16)
  /-- FILL (14 R410). A Mover FILL writes a byte pattern over the destination, making whole plots clean. -/
  | fill (ch : Fin 16)
  /-- TRANSPOSE (14 R410). A Mover TRANSPOSE transposes elements plane by plane. -/
  | transpose (ch : Fin 16)
  /-- MOVE_DONE (14 R402). A Mover descriptor writes its last byte and its entry completes. -/
  | moveDone (ch : Fin 16)
  /-- ENTRY_TALLY_ADD (14 R404). A TALLY entry with OP ADD adds its value to a tally. -/
  | entryTallyAdd (ring : BitVec 11)
  /-- ENTRY_TALLY_SUB (14 R404). A TALLY entry with OP SUB subtracts its value from a tally. -/
  | entryTallySub (ring : BitVec 11)
  /-- ENTRY_TALLY_SET (14 R404). A TALLY entry with OP SET writes a tally. -/
  | entryTallySet (ring : BitVec 11)
  /-- PORT (09 R271). A PORT ring entry starts a port script, waiting while the sequencer is busy. -/
  | port (ring : BitVec 11)
  /-- WAIT_NOTIFY (14 R405). A WAIT_NOTIFY entry registers a tally waiter for the host. -/
  | waitNotify (ring : BitVec 11)
  /-- DOORBELL (14 R399). A DOORBELL ring entry rings another ring's doorbell as owner 0. -/
  | doorbell (ring : BitVec 11)
  /-- DATA_ENTRY (14 R398). A DATA ring entry is copied to ARG and the ring's handler tile is issued. -/
  | dataEntry (ring : BitVec 11)
  /-- TLY_ADD (14 R404). A TLY_OP write with OP 0 adds TLY_VALUE to a tally. -/
  | tlyAdd (m : Master) (tally : BitVec 12)
  /-- TLY_SUB (14 R404). A TLY_OP write with OP 1 subtracts TLY_VALUE from a tally. -/
  | tlySub (m : Master) (tally : BitVec 12)
  /-- TLY_SET (14 R404). A TLY_OP write with OP 2 sets a tally to TLY_VALUE. -/
  | tlySet (m : Master) (tally : BitVec 12)
  /-- TILE_CUT (14 R407). A class 1 to 3 tile reaches a preemption point and is cut for class-0 work. -/
  | tileCut (stall : Fin 96)
  /-- HEARTBEAT_LOSS (10 R307). Eight ticks pass without a member's heartbeat and the member is dropped from the live set. -/
  | heartbeatLoss (chip : BitVec 6)
  /-- JOB_DRAINED (10 R309). A losing chip's job rings are empty and it sends RELEASE. -/
  | jobDrained (job : BitVec 8)
  /-- MB_VOTE (15 R431). The mailbox VOTE command sets the slot-5 vote for a domain. -/
  | mbVote (seq : Byte) (domain : Byte) (level : Byte)
  /-- MB_STATE (15 R431). The mailbox STATE command makes the Steward write PWR_STATE_REQ. -/
  | mbState (seq : Byte) (target : Byte)
  /-- MB_PORT_CLEAR (15 R431). The mailbox PORT_CLEAR command makes the Steward write SPT_FAULT_CLR. -/
  | mbPortClear (seq : Byte) (mask : Byte)
  /-- MB_ATTACH (15 R424). The mailbox ATTACH command with ARG0 1 attaches the PCIe output. -/
  | mbAttach (seq : Byte)
  /-- MB_DETACH (15 R424). The mailbox ATTACH command with ARG0 0 detaches the PCIe output. -/
  | mbDetach (seq : Byte)
  /-- MB_WARM (15 R431). The mailbox WARM command makes the Steward request a warm start. -/
  | mbWarm (seq : Byte)
  /-- HOST_DOORBELL (15 R428). A BAR0 HOST_DOORBELL write rings an owner-1 ring. -/
  | hostDoorbell (v : Word)
  /-- REC_ACK (15 R428). A REC_ACK write advances the PCIe consumer index and may free outbox entries. -/
  | recAck (v : Word)
  /-- STATUS (15 R432). The STATUS target command returns the output's waiting count, flags and index. -/
  | status (o : SmallPort)
  /-- READ_RECORD (15 R433). The READ_RECORD target command returns the oldest waiting entry and consumes it on completion. -/
  | readRecord (o : SmallPort) (completed : Bool)
  /-- READ_REG (15 R432). The READ_REG target command reads LOG or IMG registers. -/
  | readReg (o : SmallPort) (addr : Word)
  /-- OUTPUT_DETACHED (15 R424). An SPI or I²C output has not advanced for DETACH_S while an entry waits, and it detaches. -/
  | outputDetached (o : SmallPort)
  /-- PCIE_UP (15 R449). The PCIe link trains. -/
  | pcieUp (gen : BitVec 3) (width : BitVec 2)
  /-- D_STATE_CHANGE (15 R424). The host moves the endpoint out of D0, which detaches PCIe. -/
  | dStateChange (d : BitVec 2)
  /-- LANE_LOCKED (15 R437). A Geger lane sees 64 valid headers and locks, and the port width is recomputed. -/
  | laneLocked (port : Fin 2) (lane : Fin 4)
  /-- LANE_LOST (15 R448). A lane loses lock and is dropped from its port. -/
  | laneLost (port : Fin 2) (lane : Fin 4)
  /-- DATA_FRAME (15 R442). A DATA frame arrives; it is checked and forwarded, or written with its taint, or refused. -/
  | dataFrame (port : Fin 2) (f : LinkFrame)
  /-- DOORBELL_FRAME (15 R442). A DOORBELL frame rings its ring as owner 3. -/
  | doorbellFrame (port : Fin 2) (f : LinkFrame)
  /-- HEARTBEAT (15 R443). A HEARTBEAT frame arrives and updates membership and admission. -/
  | heartbeat (port : Fin 2) (f : LinkFrame)
  /-- MEMBERSHIP (15 R443). A MEMBERSHIP frame with a newer EPOCH is applied and job ownership is recomputed. -/
  | membership (port : Fin 2) (f : LinkFrame)
  /-- RELEASE (15 R444). A RELEASE frame of the applied EPOCH lets the gaining chip arm the job's rings. -/
  | release (port : Fin 2) (f : LinkFrame)
  /-- REFUSE (15 R442). A REFUSE frame ends the sending channel with REFUSED. -/
  | refuse (port : Fin 2) (f : LinkFrame)
  /-- ACK (15 R440). An ACK block releases the acknowledged frames and may ring a channel's DONE_RING. -/
  | ack (port : Fin 2) (lseq : BitVec 16)
  /-- NAK (15 R440). A NAK block makes the sender resend from LSEQ. -/
  | nak (port : Fin 2) (lseq : BitVec 16)
  /-- CREDIT (15 R440). A CREDIT block returns freed frame buffers. -/
  | credit (port : Fin 2) (n : Byte)
  /-- RESEND_TIMEOUT (15 R440). 20 µs pass without an ACK and the frame is resent. -/
  | resendTimeout (port : Fin 2)
  /-- CHANNEL_SEND (15 R441). A transfer channel's gate is satisfied and it sends its DATA frames and a DOORBELL. -/
  | channelSend (ch : Fin 16)
  /-- ROOT_CLOCK_FAULT (04 R147). The root is stopped or out of range outside Rest and the root-clock source is raised. -/
  | rootClockFault (stopped : Bool)
  /-- TEMP_SAMPLE (16 R457). A junction temperature sample is taken, and two out-of-range samples raise the temperature source. -/
  | tempSample (t : Byte)
  /-- ZEROISE_ERASE_DONE (16 R460). Every key slot has verified erased or been killed, and ZEROISE_PENDING clears. -/
  | zeroiseEraseDone (killed : List (Fin 4))
  /-- LC_REQUEST (16 R451). A keyed debug write to SEC_LC_REQ fuses a forward lifecycle change. -/
  | lcRequest (m : Master) (v : Word) (killed : List (Fin 4))
  /-- OTP_STAGE (16 R452). A debug write to SEC_OTP_STAGEk stages hash bytes in BLANK. -/
  | otpStage (m : Master) (k : Fin 16) (v : Word)
  /-- KEY_INSTALL (16 R456). SEC_KEY_CMD INSTALL unwraps a group-key envelope with the identity key. -/
  | keyInstall (m : Master) (v : Word)
  /-- ERASE_GROUP (16 R456). SEC_KEY_CMD ERASE_GROUP erases the group key. -/
  | eraseGroup (m : Master) (v : Word) (failed : Bool)
  /-- DBG_UNLOCK (16 R465). DBG_UNLOCK presents a token that is checked for a debug unlock. -/
  | dbgUnlock (token : List Byte)
  /-- DBG_AP (16 R464). A DBG_AP Update-DR with go set performs a debug access to the Steward address space. -/
  | dbgAp (write : Bool) (addr data : Word)
  /-- C0_RUN_OVER (14 R408). A class-0 tile runs past C0_RUN_MAX × 1,024 FCLK cycles, runs on under its watchdog, and event 0x0C06 is logged and counted. -/
  | c0RunOver (stall : Fin 96)
  /-- MAILBOX_ERROR (15 R431). An MB_CMD write with an unlisted command code, or one made while a command is pending, is answered with BAD_CMD or BUSY and logs event 0x0D02. -/
  | mailboxError (cmd : Byte) (seq : Byte)
  /-- BANK_RESTORED (17 R485). An IO bank rises back above its 1.2 V detector; it classifies its voltage again, its outputs leave high impedance and its inputs read the pins. -/
  | bankRestored (b : Bank) (v33 : Bool)
  /-- HOST_WINDOW_WRITE (15 R429). A host PCIe write through the BAR2 host window stores data in a clean Loft plot, such as an owner-1 ring entry or the data it names. -/
  | hostWindowWrite (off : Word) (data : List Byte)
  /-- MIC_QUIET_CHECK_END (08 R251). The 100 ms quiet check of a microphone calibration ends; it rejects with back-off, or passes and the 1 s measurement begins. -/
  | micQuietCheckEnd (m : Fin 16) (rms peak : Word)
  /-- AUTO_UNLOAD (08 R246). After Watch, the destination LOFT is on and an AUTO_UNLOAD starts. -/
  | autoUnload
  /-- PREROLL_UNLOADED (08 R246). An unload completes, its tally gains 1 and the session ends. -/
  | prerollUnloaded
  /-- PREROLL_KEEP_END (08 R246). KEEP_MS after leaving Watch, the pre-roll session ends. -/
  | prerollKeepEnd
  /-- MUTE_ON (08 R247). MUTE_SW becomes active; the mic clocks, MICVDD and TDM input stop and MUTE_LED is driven. -/
  | muteOn
  /-- MUTE_SW_RELEASE (08 R249). MUTE_SW goes inactive with a good LED path and the 200 ms unmute wait begins. -/
  | muteSwRelease
  /-- MUTE_OFF (08 R249). The unmute wait ends; the mute holds release and the clocks restart. -/
  | muteOff
  /-- MICVDD_FAULT (08 R250). MICVDD exceeds its current limit for 100 µs and is latched off. -/
  | micvddFault
  /-- TDM_FRAMING (08 R255). A TDM frame sync arrives at the wrong bit count and the port resynchronises. -/
  | tdmFraming
  /-- CAM_ACTIVE (09 R280). A camera port becomes active; CAM_LED is driven and the LED test begins. -/
  | camActive
  /-- CAM_EN_ASSERT (09 R280). The LED test passes for 1 ms and CAM_EN is asserted. -/
  | camEnAssert
  /-- CAM_SETTLED (09 R280). SETTLE_MS after CAM_EN, the port accepts the next frame start. -/
  | camSettled
  /-- CAM_INACTIVE (09 R280). No camera port is active and CAM_EN is released. -/
  | camInactive
  /-- COMB_LOCKED (13 R369). The comb completes power-up and locks. -/
  | combLocked
  /-- COMB_LOCK_LOSS (13 R391). The comb loses lock; the bays hold issue and the comb restarts. -/
  | combLockLoss
  /-- HINT_EXPIRY (13 R376). HINT_MS elapses without Barn work and the hint vote drops. -/
  | hintExpiry
  /-- MAP_FETCH (13 R380). At a Barn wake after the map store was lost, the Steward reads the section again from the NVM. -/
  | mapFetch
  /-- C0_TOKEN_REFILL (14 R408). C0_REFILL span ticks elapse and the class-0 bucket gains a token. -/
  | c0TokenRefill
  /-- NOTIFY (15 R428). A read of NOTIFY pops one notification from the queue. -/
  | notify
  /-- UART_RECORD (15 R435). The UART sends a framed record with its CRC and consumes the entry. -/
  | uartRecord
  /-- PCIE_DOWN (15 R447). The PCIe link goes down and PCIe detaches. -/
  | pcieDown
  /-- MESH_BREAK (16 R457). The shield pattern mismatches twice and the mesh alarm source is raised. -/
  | meshBreak
  /-- CORE_GLITCH (16 R457). VDD_CORE glitches beyond its limits while armed and the source is raised. -/
  | coreGlitch
  /-- AON_GLITCH (16 R457). VIN_AON glitches beyond its limits and the source is raised. -/
  | aonGlitch
  /-- L3_FILL_DONE (16 R460). The L3 memory fills complete; every switched domain opens and event 0x0E03 is logged. -/
  | l3FillDone
  /-- ZEROISE_HOLD_END (16 R460). The 10 ms zeroise hold ends and a cold start with cause ALARM_L3 begins. -/
  | zeroiseHoldEnd
  /-- EXTEST (01 R24). EXTEST connects the boundary-scan register and the sensor holds apply until the next cold start. -/
  | extest
  /-- SAMPLE_PRELOAD (01 R24). SAMPLE/PRELOAD connects the boundary-scan register with the sensor holds. -/
  | samplePreload
  /-- IDCODE (16 R463). IDCODE selects the 32-bit identification register. -/
  | idcode
  /-- HIGHZ (16 R463). HIGHZ puts all outputs at high impedance and applies the sensor holds. -/
  | highz
  /-- CLAMP (16 R463). CLAMP drives outputs from the boundary-scan register and applies the sensor holds. -/
  | clamp
  /-- BYPASS (16 R463). BYPASS, or an unlisted code, selects the 1-bit bypass register. -/
  | bypass
  /-- DBG_CHAL (16 R465). DBG_CHAL returns a fresh challenge and the serial, replacing the stored challenge. -/
  | dbgChal
  /-- UART_CTS_N_LOW (15 R435). With UART_CTS_EN set, UART_CTS_N goes low and the UART may start the next byte of a held record. -/
  | uartCtsNLow
  /-- TDM_RESYNC (08 R255). After a framing error, the TDM port resynchronises on the next TDM_FS edge and good samples resume. -/
  | tdmResync
deriving DecidableEq, Repr

end Sys2Proof
end

