-- ==== Sys2Proof/Machine/Crypto.lean ====
section
/-! DEFINITION. The ciphers and hashes the spec names: AES-128 and AES-256, CTR and GCM (08 R245, 15 R440, 16 R456),
SHA-256 (02 R65, 03 R100), HKDF-SHA-256 (16 R456), CRC-32 (10 Table 10.2) and CRC-16 (15 R435). Each is the published
standard's own definition. -/

namespace Sys2Proof.Machine

/-! AES (FIPS 197) -/

/-- The S-box as one number: byte `x` lies at bits [8x + 7 : 8x]. -/
def aesBox : Nat :=
  0x16bb54b00f2d99416842e6bf0d89a18cdf2855cee9871e9b948ed9691198f8e19e1dc186b95735610ef6034866b53e708a8bbd4b1f74dde8c6b4a61c2e2578ba08ae7a65eaf4566ca94ed58d6d37c8e779e4959162acd3c25c2406490a3a32e0db0b5ede14b8ee4688902a22dc4f816073195d643d7ea7c41744975fec130ccdd2f3ff1021dab6bcf5389d928f40a351a89f3c507f02f94585334d43fbaaefd0cf584c4a39becb6a5bb1fc20ed00d153842fe329b3d63b52a05a6e1b1a2c830975b227ebe28012079a059618c323c7041531d871f1e5a534ccf73f362693fdb7c072a49cafa2d4adf04759fa7dc982ca76abd7fe2b670130c56f6bf27b777c63

/-- SubBytes of one byte. -/
def aesSub (x : Byte) : Byte := BitVec.ofNat 8 (aesBox >>> (8 * x.toNat))

/-- Multiplication by x in GF(2^8). -/
def xtime (x : Byte) : Byte := (x <<< 1) ^^^ (if x.msb then 0x1B else 0)

/-- Byte-wise exclusive or. -/
def xorBytes (a b : List Byte) : List Byte := List.zipWith (· ^^^ ·) a b

/-- One further word of the key schedule; `nk` words of key, `i` the word's number. -/
def aesNextWord (nk i : Nat) (rcon : Byte) (w : List (List Byte)) : List Byte :=
  let prev := w.getD (i - 1) []
  let t := if i % nk = 0 then xorBytes ((prev.drop 1 ++ prev.take 1).map aesSub) [rcon, 0, 0, 0]
    else if nk = 8 ∧ i % nk = 4 then prev.map aesSub else prev
  xorBytes (w.getD (i - nk) []) t

/-- The key schedule grown by `n` words. -/
def aesGrow (nk : Nat) : Nat → Byte → List (List Byte) → List (List Byte)
  | 0, _, w => w
  | n + 1, rcon, w =>
    aesGrow nk n (if w.length % nk = 0 then xtime rcon else rcon) (w ++ [aesNextWord nk w.length rcon w])

/-- The key schedule of a 16- or 32-byte key: 44 or 60 words. -/
def aesKeys (key : List Byte) : List (List Byte) :=
  let nk := key.length / 4
  aesGrow nk (4 * (nk + 7) - nk) 1 ((List.range nk).map fun i => slice key (4 * i) 4)

/-- One column of MixColumns. -/
def mixColumn (c : List Byte) : List Byte :=
  (List.range 4).map fun i =>
    let a := fun k => c.getD ((i + k) % 4) 0
    xtime (a 0) ^^^ (xtime (a 1) ^^^ a 1) ^^^ a 2 ^^^ a 3

/-- ShiftRows on the 16 bytes of a state, column by column. -/
def shiftRows (b : List Byte) : List Byte := (List.range 16).map fun i => b.getD ((i + 4 * (i % 4)) % 16) 0

/-- One round; the last round has no MixColumns. -/
def aesRound (last : Bool) (b k : List Byte) : List Byte :=
  let t := shiftRows (b.map aesSub)
  let u := if last then t
    else mixColumn (slice t 0 4) ++ mixColumn (slice t 4 4) ++ mixColumn (slice t 8 4) ++ mixColumn (slice t 12 4)
  xorBytes u k

/-- Encryption of one 16-byte block. -/
def aesBlock (key b : List Byte) : List Byte :=
  let w := aesKeys key
  let rounds := w.length / 4 - 1
  let rk := fun r => (slice (List.flatten w) (16 * r) 16)
  (List.range rounds).foldl (fun x r => aesRound (r + 1 == rounds) x (rk (r + 1))) (xorBytes b (rk 0))

/-- The bytes in runs of 16; the last may be shorter. -/
def blocks16 (b : List Byte) : List (List Byte) :=
  (List.range ((b.length + 15) / 16)).map fun i => slice b (16 * i) 16

/-- Exclusive or with the key stream whose block `i` encrypts counter block `ctr i`. -/
def ctrWith (key : List Byte) (ctr : Nat → List Byte) (data : List Byte) : List Byte :=
  (((blocks16 data).zipIdx).map fun p => xorBytes p.1 (aesBlock key (ctr p.2))).flatten

/-- The pre-roll cipher of 08 R245: nonce, block number and unit number as counter block. -/
def prerollCipher (key nonce : List Byte) (n : Nat) (data : List Byte) : List Byte :=
  ctrWith key (fun u => nonce ++ beBytes 4 n ++ beBytes 4 u) data

/-! GCM (NIST SP 800-38D) with a 96-bit nonce -/

/-- A product in GF(2^128), bit 0 of the standard being the most significant bit of the number: `n` bits of `x` are left. -/
def gcmMul : Nat → Nat → Nat → Nat → Nat
  | 0, _, _, z => z
  | n + 1, x, v, z =>
    gcmMul n x (if v.testBit 0 then (v >>> 1) ^^^ (0xE1 <<< 120) else v >>> 1) (if x.testBit n then z ^^^ v else z)

/-- GHASH over 16-byte blocks, each padded with zeros. -/
def ghash (h : Nat) (bs : List (List Byte)) : Nat :=
  bs.foldl (fun y b => gcmMul 128 (y ^^^ beNat (b ++ List.replicate (16 - b.length) 0)) h 0) 0

/-- The tag of a ciphertext and additional data. -/
def gcmTag (key nonce aad ct : List Byte) : List Byte :=
  let h := beNat (aesBlock key (List.replicate 16 0))
  let s := ghash h (blocks16 aad ++ blocks16 ct ++ [beBytes 8 (8 * aad.length) ++ beBytes 8 (8 * ct.length)])
  xorBytes (beBytes 16 s) (aesBlock key (nonce ++ beBytes 4 1))

/-- Encryption and decryption of the data. -/
def gcmData (key nonce data : List Byte) : List Byte := ctrWith key (fun i => nonce ++ beBytes 4 (i + 2)) data

/-! SHA-256 (FIPS 180-4) -/

/-- The 64 round constants, constant `i` at bits [32i + 31 : 32i]. -/
def shaK : Nat :=
  0xc67178f2bef9a3f7a4506ceb90befffa8cc7020884c8781478a5636f748f82ee682e6ff35b9cca4f4ed8aa4a391c0cb334b0bcb52748774c1e376c0819a4c116106aa070f40e3585d6990624d192e819c76c51a3c24b8b70a81a664ba2bfe8a192722c8581c2c92e766a0abb650a735453380d134d2c6dfc2e1b213827b70a851429296706ca6351d5a79147c6e00bf3bf597fc7b00327c8a831c66d983e515276f988da5cb0a9dc4a7484aa2de92c6f240ca1cc0fc19dc6efbe4786e49b69c1c19bf1749bdc06a780deb1fe72be5d74550c7dc3243185be12835b01d807aa98ab1c5ed5923f82a459f111f13956c25be9b5dba5b5c0fbcf71374491428a2f98

/-- The initial hash words. -/
def shaH : Nat :=
  0x5be0cd191f83d9ab9b05688c510e527fa54ff53a3c6ef372bb67ae856a09e667

/-- Word `i` of such a number. -/
def wordOf (n i : Nat) : Word := BitVec.ofNat 32 (n >>> (32 * i))

/-- The message schedule grown by `n` words; newest word first. -/
def shaGrow : Nat → List Word → List Word
  | 0, w => w
  | n + 1, w =>
    let a := w.getD 14 0
    let b := w.getD 1 0
    let s0 := a.rotateRight 7 ^^^ a.rotateRight 18 ^^^ (a >>> 3)
    let s1 := b.rotateRight 17 ^^^ b.rotateRight 19 ^^^ (b >>> 10)
    shaGrow n ((w.getD 15 0 + s0 + w.getD 6 0 + s1) :: w)

/-- The eight working variables. -/
structure ShaVars where
  a : Word
  b : Word
  c : Word
  d : Word
  e : Word
  f : Word
  g : Word
  h : Word
deriving DecidableEq, Repr

/-- One round with schedule word `w` and constant `k`. -/
def shaRound (v : ShaVars) (w k : Word) : ShaVars :=
  let s1 := v.e.rotateRight 6 ^^^ v.e.rotateRight 11 ^^^ v.e.rotateRight 25
  let ch := (v.e &&& v.f) ^^^ (~~~ v.e &&& v.g)
  let t1 := v.h + s1 + ch + k + w
  let s0 := v.a.rotateRight 2 ^^^ v.a.rotateRight 13 ^^^ v.a.rotateRight 22
  let maj := (v.a &&& v.b) ^^^ (v.a &&& v.c) ^^^ (v.b &&& v.c)
  ⟨t1 + s0 + maj, v.a, v.b, v.c, v.d + t1, v.e, v.f, v.g⟩

/-- One 64-byte block. -/
def shaBlock (h : ShaVars) (b : List Byte) : ShaVars :=
  let w := (shaGrow 48 ((List.range 16).map fun i => BitVec.ofNat 32 (beNat (slice b (4 * (15 - i)) 4)))).reverse
  let v := (w.zipIdx).foldl (fun v p => shaRound v p.1 (wordOf shaK p.2)) h
  ⟨h.a + v.a, h.b + v.b, h.c + v.c, h.d + v.d, h.e + v.e, h.f + v.f, h.g + v.g, h.h + v.h⟩

/-- SHA-256 of a byte string. -/
def sha256 (m : List Byte) : List Byte :=
  let padded := m ++ [0x80] ++ List.replicate ((119 - m.length % 64) % 64) 0 ++ beBytes 8 (8 * m.length)
  let i := wordOf shaH
  let v := (List.range (padded.length / 64)).foldl (fun h k => shaBlock h (slice padded (64 * k) 64))
    ⟨i 0, i 1, i 2, i 3, i 4, i 5, i 6, i 7⟩
  ([v.a, v.b, v.c, v.d, v.e, v.f, v.g, v.h].map fun x => beBytes 4 x.toNat).flatten

/-- HMAC-SHA-256 with a key of at most 64 bytes. -/
def hmac (key m : List Byte) : List Byte :=
  let k := key ++ List.replicate (64 - key.length) 0
  sha256 (k.map (· ^^^ 0x5C) ++ sha256 (k.map (· ^^^ 0x36) ++ m))

/-- HKDF-SHA-256 (RFC 5869) of 32 bytes. -/
def hkdf32 (ikm salt info : List Byte) : List Byte := hmac (hmac salt ikm) (info ++ [1])

/-! CRCs -/

/-- One bit of the reflected CRC-32 of IEEE 802.3. -/
def crc32Bit (c : Word) : Word := (c >>> 1) ^^^ (if c.getLsbD 0 then 0xEDB88320 else 0)

/-- CRC-32 of IEEE 802.3. -/
def crc32 (m : List Byte) : Word :=
  ~~~ (m.foldl (fun c b => (List.range 8).foldl (fun c _ => crc32Bit c) (c ^^^ b.setWidth 32)) 0xFFFFFFFF)

/-- CRC-16 with polynomial 0x1021 and initial value 0xFFFF (15 R435). -/
def crc16 (m : List Byte) : BitVec 16 :=
  m.foldl (fun (c : BitVec 16) (b : Byte) => (List.range 8).foldl (fun (c : BitVec 16) _ => (c <<< (1 : Nat)) ^^^ (if c.msb then 0x1021 else 0))
    (c ^^^ (b.setWidth 16 <<< (8 : Nat)))) 0xFFFF

end Sys2Proof.Machine
end

