-- ==== Sys2Proof/Machine/Numbers.lean ====
section
/-! DEFINITION. Numbers in the fabric as pure functions (11): binary16 and binary32 values, rounding, group sums, the output
stage, the macro's conversions (10 R290), and the requantisation of room adaptation. A binary32 value is an integer in units
of 2^-149; one of magnitude 2^277 stands for an infinity. -/

namespace Sys2Proof.Machine

/-! binary32 and binary16 (R325) -/

/-- num / den to the nearest integer, ties to even. -/
def rneDiv (num den : Nat) : Nat :=
  let q := num / den
  let r := num % den
  if 2 * r < den ∨ (2 * r = den ∧ q % 2 = 0) then q else q + 1

/-- The same for a signed numerator. -/
def rneDivInt (num : Int) (den : Nat) : Int :=
  let q : Int := rneDiv num.natAbs den
  if num < 0 then -q else q

/-- Toward zero. -/
def truncDivInt (num : Int) (den : Nat) : Int :=
  let q : Int := num.natAbs / den
  if num < 0 then -q else q

/-- The magnitude of an infinity. -/
def inf32 : Nat := 2 ^ 277

/-- A magnitude num / den, in units of 2^-149, rounded to binary32: to nearest with ties to even, with subnormals; past the
largest finite value an infinity. -/
def round32 (num den : Nat) : Nat :=
  let k := Nat.log2 (num / den) - 23
  min (rneDiv num (den * 2 ^ k) * 2 ^ k) inf32

/-- The same for a signed value. -/
def round32Int (num : Int) (den : Nat) : Int :=
  let q : Int := round32 num.natAbs den
  if num < 0 then -q else q

/-- An infinity. -/
def isInf32 (x : Int) : Bool := inf32 ≤ x.natAbs

/-- Sum, product and quotient in binary32. -/
def add32 (a b : Int) : Int := if isInf32 a then a else if isInf32 b then b else round32Int (a + b) 1
def mul32 (a b : Int) : Int :=
  if isInf32 a || isInf32 b then (a * b).sign * inf32 else round32Int (a * b) (2 ^ 149)
def div32 (a : Int) (b : Nat) : Int := round32Int (a * 2 ^ 149) b

/-- An integer in binary32. -/
def ofInt32 (n : Int) : Int := round32Int (n * 2 ^ 149) 1

/-- A magnitude's binary32 encoding, and back. -/
def bits32 (x : Nat) : Nat := if x < 2 ^ 23 then x else let k := Nat.log2 x - 23; k * 2 ^ 23 + x / 2 ^ k
def mag32 (b : Nat) : Nat :=
  let e := bitsOf b 23 8
  let m := bitsOf b 0 23
  if e = 0 then m else (2 ^ 23 + m) * 2 ^ (e - 1)

/-- The value of binary32 bits. -/
def val32 (w : Word) : Int := let m : Int := mag32 w.toNat; if w.getLsbD 31 then -m else m

/-- A binary16 code is NaN or infinite. -/
def bad16 (b : Nat) : Bool := bitsOf b 10 5 == 31

/-- The magnitude of a binary16 code in units of 2^-24. -/
def mag16 (b : Nat) : Nat :=
  let e := bitsOf b 10 5
  let m := bitsOf b 0 10
  if e = 0 then m else (1024 + m) * 2 ^ (e - 1)

/-- The value of a binary16 code in units of 2^-24; NaN and infinities read as 0 (R342). -/
def val16 (b : Nat) : Int := if bad16 b then 0 else let m : Int := mag16 b; if bitOf b 15 then -m else m

/-- The same in binary32. -/
def f16 (b : Nat) : Int := val16 b * 2 ^ 125

/-- The code of the smallest positive binary16 value at or above num / den units of 2^-24; past 65,504 it is 65,504 (R339). -/
def up16 (num den : Nat) : Nat :=
  let n := max 1 ((num + den - 1) / den)
  if n ≤ 1024 then n
  else
    let k := Nat.log2 n - 10
    let q := (num + den * 2 ^ k - 1) / (den * 2 ^ k)
    min (k * 1024 + q) 0x7BFF

/-! Formats and group sums (R320 to R328) -/

/-- A list in runs of `n`; the fuel is its length. -/
def runsOf {α : Type} (n : Nat) : Nat → List α → List (List α)
  | 0, _ => []
  | _, [] => []
  | k + 1, x :: xs => (x :: xs).take n :: runsOf n k ((x :: xs).drop n)

/-- Runs of `n` elements. -/
def inRuns {α : Type} (n : Nat) (l : List α) : List (List α) := runsOf n l.length l

/-- G of MODE bits 1:0. -/
def groupOf (mode : Nat) : Nat := match bitsOf mode 0 2 with | 0 => 32 | 1 => 64 | _ => 128

/-- The nibbles of a row, even k in bits [3:0] (R320). -/
def nibbles : List Byte → List Nat
  | [] => []
  | b :: bs => b.toNat % 16 :: b.toNat / 16 :: nibbles bs

/-- Weight codes of a row of K weights: 4-bit formats are WFMT 1 and 2. -/
def rowCodes (wfmt k : Nat) (row : List Byte) : List Nat :=
  if wfmt = 1 ∨ wfmt = 2 then (nibbles row).take k else (row.take k).map (·.toNat)

/-- Bytes of a weight row. -/
def rowBytes (wfmt k : Nat) : Nat := if wfmt = 1 ∨ wfmt = 2 then (k + 1) / 2 else k

/-- A code of an 8-bit activation type. -/
def actVal (uint : Bool) (b : Byte) : Int := if uint then b.toNat else b.toInt

/-- Σ a × b. -/
def dotInt : List Int → List Int → Int
  | x :: xs, y :: ys => x * y + dotInt xs ys
  | _, _ => 0

/-- The accumulator over the K-groups in ascending order (R325): group sums times scales. -/
def accum (gs ss : List Int) : Int := (gs.zip ss).foldl (fun acc p => add32 acc (mul32 p.1 p.2)) 0

/-- Group sums of an integer format, exact in binary32 (R324). -/
def intSums (g : Nat) (w a : List Int) : List Int :=
  ((inRuns g w).zip (inRuns g a)).map fun p => ofInt32 (dotInt p.1 p.2)

/-- Group sums of a codebook format: products in units of 2^-24, exact, converted to binary32 (R324, R328). -/
def bookSums (g : Nat) (w a : List Int) : List Int :=
  ((inRuns g w).zip (inRuns g a)).map fun p => round32Int (dotInt p.1 p.2 * 2 ^ 125) 1

/-! Output stage (R330, R331, R343) -/

/-- One output: its code, whether it was clipped, t, and whether t or the accumulator was infinite. -/
structure OutVal where
  code : Int
  clipped : Bool
  t : Int
  past : Bool
deriving DecidableEq, Repr

/-- The output stage's settings: rounding toward zero, RELU, unsigned outputs, ZP_OUT, and the scale in force (none is 1.0). -/
structure OutCfg where
  trunc : Bool
  relu : Bool
  uint : Bool
  zp : Int
  scale : Option Nat
deriving DecidableEq, Repr

/-- Saturation to the output type. -/
def satOut (uint : Bool) (q : Int) : Int := if uint then clampInt' 0 255 q else clampInt' (-128) 127 q
where
  clampInt' (lo hi x : Int) : Int := max lo (min hi x)

/-- Steps 2 to 5: the exact quotient t / S rounded, ZP_OUT, RELU, saturation. A scale of 0 saturates a t other than 0, an
infinite one gives 0. -/
def outFrom (c : OutCfg) (t : Int) : OutVal :=
  if isInf32 t then { code := satOut c.uint (if t < 0 then -1000 else 1000), clipped := true, t := t, past := true }
  else
    let s := c.scale.getD (2 ^ 149)
    let q0 : Int := if isInf32 s then 0 else if s = 0 then (if t = 0 then 0 else if t < 0 then -1000 else 1000)
      else if c.trunc then truncDivInt t s else rneDivInt t s
    let q1 := q0 + c.zp
    let q2 := if c.relu then max q1 c.zp else q1
    let q := satOut c.uint q2
    { code := q, clipped := q != q2, t := t, past := false }

/-- Step 1 and the rest. -/
def outStage (c : OutCfg) (outScale acc : Int) : OutVal := outFrom c (if isInf32 acc then acc else mul32 acc outScale)

/-! The macro (10 R290, R323) -/

/-- Level of cell `c` of a row's 64 bytes. -/
def cellAt (row : List Byte) (c : Nat) : Nat := bitsOf (byteAt row (c / 4)) (2 * (c % 4)) 2

/-- The conversion P of one column's levels over one block of inputs: exact in bit-serial mode; in multi-level mode the codes
of the four bit pairs saturate at 255. -/
def convert (multi : Bool) (ls us : List Nat) : Nat :=
  if multi then
    (List.range 4).foldl (fun p i =>
      p + 4 ^ i * min 255 (((ls.zip us).map fun x => x.1 * bitsOf x.2 (2 * i) 2).sum)) 0
  else ((ls.zip us).map fun x => x.1 * x.2).sum

/-- The levels of output `o` over the rows of a block: for CIM4 the pair H, L, else none and the cell. -/
def levelsH (rows : List (List Byte)) (o : Nat) : List Nat := rows.map fun r => cellAt r (2 * o)
def levelsL (cim4 : Bool) (rows : List (List Byte)) (o : Nat) : List Nat :=
  rows.map fun r => cellAt r (if cim4 then 2 * o + 1 else o)

/-- The group sum of a block (R323): P − c × U − z × C + 64 × c × z. -/
def blockSum (cim4 multi : Bool) (z : Int) (rows : List (List Byte)) (us : List Nat) (o : Nat) : Int :=
  let h := levelsH rows o
  let l := levelsL cim4 rows o
  let p : Int := if cim4 then 4 * convert multi h us + convert multi l us else convert multi l us
  let cs : Int := if cim4 then 4 * h.sum + l.sum else l.sum
  let c : Int := if cim4 then 8 else 2
  p - c * us.sum - z * cs + 64 * c * z

/-! Requantisation (R339; 12 R357) -/

/-- A group requantised: its scale's code, its codes, and whether the scale was limited to 65,504. `lim` is 127 for SRAM
tensors, 7 for CIM4 cells and 1 for CIM2 cells. -/
structure Requant where
  scale : Nat
  codes : List Int
  limited : Bool
deriving DecidableEq, Repr

/-- Each code is the exact quotient, to nearest with ties to even, saturated. A group of zeros has the scale 2^-24. -/
def requant (lim : Nat) (vs : List Int) : Requant :=
  let m := (vs.map Int.natAbs).foldl max 0
  let sc := up16 m (lim * 2 ^ 125)
  let den := mag16 sc * 2 ^ 125
  { scale := sc, codes := vs.map fun v => max (-(lim : Int)) (min lim (rneDivInt v den)),
    limited := decide (65504 * 2 ^ 149 * lim < m) }

/-- A tensor of M rows of K values requantised in groups of G: codes row by row, and scales m-major. -/
def requantRows (lim g : Nat) (rows : List (List Int)) : List (List Requant) :=
  rows.map fun r => (inRuns g r).map (requant lim)

/-- Bytes of codes, and of scales. -/
def codeBytes (q : List (List Requant)) : List Byte :=
  (q.map fun r => (r.map fun x => x.codes.map (BitVec.ofInt 8)).flatten).flatten
def scaleBytes (q : List (List Requant)) : List Byte := (q.map fun r => (r.map fun x => leBytes 2 x.scale).flatten).flatten

/-- A tensor's values: code × group scale, exact in binary32 (R338). -/
def tensorVals (g k : Nat) (codes : List Byte) (scales : List Nat) : List Int :=
  let j := (k + g - 1) / g
  codes.zipIdx.map fun p => p.1.toInt * f16 (scales.getD (p.2 / k * j + p.2 % k / g) 0)

/-- Little-endian halfwords of a byte string. -/
def halves : List Byte → List Nat
  | a :: b :: rest => leNat [a, b] :: halves rest
  | _ => []

/-! Activation scales (R333 to R336) -/

/-- The quarter-octave factors of Table 11.5, in units of 2^-149. -/
def quarter (k : Nat) : Nat := mag32 (match k with | 0 => 0x3F800000 | 1 => 0x3F9837F0 | 2 => 0x3FB504F3 | _ => 0x3FD744FD)

/-- The scale in force: S_base × F[e mod 4] × 2^⌊e/4⌋ in binary32 (R335). -/
def forceScale (base : Nat) (e : Int) : Nat :=
  (mul32 (mul32 base (quarter (e % 4).toNat)) (2 ^ (149 + e / 4).toNat)).toNat

/-- S_base of a running-max slot (R333), in binary32; HEADROOM below 1.0 is 1.0. An infinite product stays infinite. -/
def runMaxBase (headroom : Nat) (peaks : List Nat) (qspan : Nat) : Option Nat :=
  let m := peaks.foldl max 0
  let p := (mul32 (max (f16 headroom) (2 ^ 149)) m).toNat
  if m = 0 then none else if isInf32 p then some inf32 else some (round32 p qspan)

/-- The clipped share in Q0.16 (R336). -/
def clipShare (clipped outs : Nat) : Nat := if outs = 0 then 0 else min 0xFFFF (clipped * 65536 / outs)

end Sys2Proof.Machine
end

