-- ==== Sys2Proof/Machine/Flags.lean ====
section
/-! DEFINITION. Counters, bounds and the flag computations of the spec. -/

namespace Sys2Proof.Machine

/-- A counter field of `w` bits that saturates (every "saturates at" of the register tables). -/
def satAdd (w a b : Nat) : Nat := min (a + b) (2 ^ w - 1)

/-- A value that a field of `w` bits holds at most: each event parameter saturates at its width (07 R222). -/
def satTo (w v : Nat) : Nat := min v (2 ^ w - 1)

/-- A configured value of which 0 is treated as 1. -/
def orOne (v : Nat) : Nat := if v = 0 then 1 else v

/-- `x` limited to [lo, hi]. -/
def clampInt (lo hi x : Int) : Int := max lo (min hi x)

/-- Saturation to INT8 (07 R215, 11). -/
def satInt8 (x : Int) : Int := clampInt (-128) 127 x

/-- The three compare flags of CMP (07 Table 07.2): signed. -/
def cmpFlags (a b : Word) : Bool × Bool × Bool := (a.slt b, a == b, b.slt a)

/-- A quotient rounded up. -/
def ceilDiv (a b : Nat) : Nat := (a + b - 1) / b

/-- A right shift of an integer with rounding to nearest, ties away from zero (07 R215). -/
def shiftRoundAway (x : Int) (n : Nat) : Int :=
  if n = 0 then x
  else
    let m : Nat := (x.natAbs + 2 ^ (n - 1)) / 2 ^ n
    if x < 0 then - (m : Int) else m

/-- The window of `n` span ticks that a span-counter value lies in (00 R492). -/
def spanWindow (count n : Nat) : Nat := count / n

end Sys2Proof.Machine
end

