-- ==== Sys2Proof/Config.lean ====
section
/-! DEFINITION. What the spec leaves open: free values, as constants without a body. Nothing can evaluate one or prove
a value of one. -/

namespace Sys2Proof.Config

/-- What a byte holds whose memory lost its contents (05 Table 05.4 "contents lost", 02 R87): free, by loss and address
(log 5). DESIGN CHOICE: the spec gives no contents. -/
opaque lostByte : Nat → Nat → Byte

/-- A value the spec does not state, fresh at each draw: `n` is the draw's number (log 2). -/
opaque freeWord : Nat → Word

/-- Four cells of a CIM row whose programming has begun and has not passed verify, by draw, row and byte: the spec does not give the levels
that its pulses leave (log 57). -/
opaque cellByte : Nat → Nat → Nat → Byte

/-- The ADC code of a column in symbol `s` of a vector on a bay of the Barn (13 R374, R377), by draw, symbol, the column's weights and the
inputs u′ applied: the noise of R374 makes it free (log 59). -/
opaque barnCode : Nat → Nat → List Int → List Nat → Byte

/-- A random byte that the key store's DRBG draws (16 R454), by draw and place (log 2). -/
opaque drbgByte : Nat → Nat → Byte

/-- The power E of band `k` of the log-mel front end, in units of 2^−16, of 400 samples that are not all 0 (08 R240): the spec gives neither
the filters' edges nor the scale of E, so each power is a free function of the samples (log 24). -/
opaque melPower : List (BitVec 16) → Nat → Nat

/-- The binary32 scale of the slot that produced an operand of a VECTOR descriptor (11 R321), by the descriptor and the operand (0 SRC, 1
WGT): no field of the descriptor names that slot (log 48). -/
opaque vectorScale : List Byte → Nat → Word

/-- The binary32 t of an output of a VECTOR descriptor whose function the spec names without its rule, by what it is computed from
(log 48). -/
opaque vectorOut : List (List Byte) → Nat → Word

end Sys2Proof.Config
end

