-- ==== Sys2Proof/Machine/RegMap.lean ====
section
/-! DEFINITION. The register tables of spec/: every register of Table 01.6's blocks, with its address, instances,
reset value, access types (R13) and warm-start column (R15), and every named field. The access types are held as
masks, since R13 gives each of them bit by bit. -/

namespace Sys2Proof.Machine

/-- One register table. Instance `i` lies at base + i × stride. `kept` marks the bits a warm start keeps; `rw`, `wo`,
`w1c`, `rc` and `sl` mark the bits of each access type (every other bit is RO or reserved); `sl3` marks the SL bits
that the sealed register values section loads (03 R101). -/
structure RegDef where
  base : Nat
  stride : Nat := 4
  count : Nat := 1
  reset : Word := 0
  kept : Word := 0
  rw : Word := 0
  wo : Word := 0
  w1c : Word := 0
  rc : Word := 0
  sl : Word := 0
  sl3 : Word := 0
deriving DecidableEq, Repr

/-- A named field: its register, lowest bit and width. -/
structure Fld where
  reg : RegDef
  lo : Nat
  width : Nat
deriving DecidableEq, Repr

/-- SPN_COUNT_LO (spec/04_one_root_and_the_span_counter.md). -/
def R.SPN_COUNT_LO : RegDef := { base := 0x40000000, kept := 0xFFFFFFFF#32 }
/-- Field COUNT of SPN_COUNT_LO. -/
def F.SPN_COUNT_LO_COUNT : Fld := ⟨R.SPN_COUNT_LO, 0, 32⟩

/-- SPN_COUNT_HI (spec/04_one_root_and_the_span_counter.md). -/
def R.SPN_COUNT_HI : RegDef := { base := 0x40000004, kept := 0xFFFFFFFF#32 }
/-- Field COUNT of SPN_COUNT_HI. -/
def F.SPN_COUNT_HI_COUNT : Fld := ⟨R.SPN_COUNT_HI, 0, 32⟩

/-- SPN_STATUS (spec/04_one_root_and_the_span_counter.md). -/
def R.SPN_STATUS : RegDef := { base := 0x40000008, kept := 0x3E#32 }
/-- Field ORIGIN of SPN_STATUS. -/
def F.SPN_STATUS_ORIGIN : Fld := ⟨R.SPN_STATUS, 8, 1⟩
/-- Field PLL_LOCK of SPN_STATUS. -/
def F.SPN_STATUS_PLL_LOCK : Fld := ⟨R.SPN_STATUS, 7, 1⟩
/-- Field DRIVE of SPN_STATUS. -/
def F.SPN_STATUS_DRIVE : Fld := ⟨R.SPN_STATUS, 6, 1⟩
/-- Field XT_STOPPED of SPN_STATUS. -/
def F.SPN_STATUS_XT_STOPPED : Fld := ⟨R.SPN_STATUS, 5, 1⟩
/-- Field NOMINAL of SPN_STATUS. -/
def F.SPN_STATUS_NOMINAL : Fld := ⟨R.SPN_STATUS, 4, 1⟩
/-- Field RATE_VALID of SPN_STATUS. -/
def F.SPN_STATUS_RATE_VALID : Fld := ⟨R.SPN_STATUS, 3, 1⟩
/-- Field LOST of SPN_STATUS. -/
def F.SPN_STATUS_LOST : Fld := ⟨R.SPN_STATUS, 2, 1⟩
/-- Field CARRIED of SPN_STATUS. -/
def F.SPN_STATUS_CARRIED : Fld := ⟨R.SPN_STATUS, 1, 1⟩
/-- Field ALIGNING of SPN_STATUS. -/
def F.SPN_STATUS_ALIGNING : Fld := ⟨R.SPN_STATUS, 0, 1⟩

/-- SPN_RATE (spec/04_one_root_and_the_span_counter.md). -/
def R.SPN_RATE : RegDef := { base := 0x4000000C, reset := 0x1F400000#32, kept := 0xFFFFFFFF#32 }
/-- Field SPAN_RATE of SPN_RATE. -/
def F.SPN_RATE_SPAN_RATE : Fld := ⟨R.SPN_RATE, 0, 32⟩

/-- SPN_CFG (spec/04_one_root_and_the_span_counter.md). -/
def R.SPN_CFG : RegDef := { base := 0x40000010, reset := 0x2032#32, kept := 0x3FFF#32, sl := 0x3FFF#32, sl3 := 0x3FFF#32 }
/-- Field ROOT_TRIM of SPN_CFG. -/
def F.SPN_CFG_ROOT_TRIM : Fld := ⟨R.SPN_CFG, 8, 6⟩
/-- Field PPM_BOUND of SPN_CFG. -/
def F.SPN_CFG_PPM_BOUND : Fld := ⟨R.SPN_CFG, 0, 8⟩

/-- SPN_ERR_LAST (spec/04_one_root_and_the_span_counter.md). -/
def R.SPN_ERR_LAST : RegDef := { base := 0x40000014, kept := 0xFFFFFFFF#32 }
/-- Field ERR of SPN_ERR_LAST. -/
def F.SPN_ERR_LAST_ERR : Fld := ⟨R.SPN_ERR_LAST, 0, 32⟩

/-- SPN_ERR_TOTAL (spec/04_one_root_and_the_span_counter.md). -/
def R.SPN_ERR_TOTAL : RegDef := { base := 0x40000018, kept := 0xFFFFFFFF#32 }
/-- Field ERR of SPN_ERR_TOTAL. -/
def F.SPN_ERR_TOTAL_ERR : Fld := ⟨R.SPN_ERR_TOTAL, 0, 32⟩

/-- SPN_CARRIED (spec/04_one_root_and_the_span_counter.md). -/
def R.SPN_CARRIED : RegDef := { base := 0x4000001C, kept := 0xFFFFFFFF#32 }
/-- Field TICKS of SPN_CARRIED. -/
def F.SPN_CARRIED_TICKS : Fld := ⟨R.SPN_CARRIED, 0, 32⟩

/-- SPN_RC_COUNT (spec/04_one_root_and_the_span_counter.md). -/
def R.SPN_RC_COUNT : RegDef := { base := 0x40000020, kept := 0xFFFFFFFF#32 }
/-- Field COUNT of SPN_RC_COUNT. -/
def F.SPN_RC_COUNT_COUNT : Fld := ⟨R.SPN_RC_COUNT, 0, 32⟩

/-- SPN_TICK (spec/04_one_root_and_the_span_counter.md). -/
def R.SPN_TICK : RegDef := { base := 0x40000024 }
/-- Field COUNT of SPN_TICK. -/
def F.SPN_TICK_COUNT : Fld := ⟨R.SPN_TICK, 0, 32⟩

/-- SPN_MEAS (spec/04_one_root_and_the_span_counter.md). -/
def R.SPN_MEAS : RegDef := { base := 0x40000028, rc := 0xFF000000#32 }
/-- Field REJECTS of SPN_MEAS. -/
def F.SPN_MEAS_REJECTS : Fld := ⟨R.SPN_MEAS, 24, 8⟩
/-- Field LAST_COUNT of SPN_MEAS. -/
def F.SPN_MEAS_LAST_COUNT : Fld := ⟨R.SPN_MEAS, 0, 22⟩

/-- PWR_STATE (spec/05_domains_and_votes.md). -/
def R.PWR_STATE : RegDef := { base := 0x40010000, reset := 0x70000#32 }
/-- Field LAST_CAUSE of PWR_STATE. -/
def F.PWR_STATE_LAST_CAUSE : Fld := ⟨R.PWR_STATE, 16, 8⟩
/-- Field FORCED of PWR_STATE. -/
def F.PWR_STATE_FORCED : Fld := ⟨R.PWR_STATE, 11, 1⟩
/-- Field PEND_TARGET of PWR_STATE. -/
def F.PWR_STATE_PEND_TARGET : Fld := ⟨R.PWR_STATE, 8, 3⟩
/-- Field PEND_VALID of PWR_STATE. -/
def F.PWR_STATE_PEND_VALID : Fld := ⟨R.PWR_STATE, 7, 1⟩
/-- Field FLIGHT_TARGET of PWR_STATE. -/
def F.PWR_STATE_FLIGHT_TARGET : Fld := ⟨R.PWR_STATE, 4, 3⟩
/-- Field IN_FLIGHT of PWR_STATE. -/
def F.PWR_STATE_IN_FLIGHT : Fld := ⟨R.PWR_STATE, 3, 1⟩
/-- Field STATE of PWR_STATE. -/
def F.PWR_STATE_STATE : Fld := ⟨R.PWR_STATE, 0, 3⟩

/-- PWR_STATE_REQ (spec/05_domains_and_votes.md). -/
def R.PWR_STATE_REQ : RegDef := { base := 0x40010004, wo := 0x7#32 }
/-- Field TARGET of PWR_STATE_REQ. -/
def F.PWR_STATE_REQ_TARGET : Fld := ⟨R.PWR_STATE_REQ, 0, 3⟩

/-- PWR_CFG (spec/05_domains_and_votes.md). -/
def R.PWR_CFG : RegDef := { base := 0x40010008, reset := 0x640400#32, kept := 0x3FFFFFF#32, sl := 0x3FFFFFF#32, sl3 := 0x3FFFFFF#32 }
/-- Field ROW_LOFT of PWR_CFG. -/
def F.PWR_CFG_ROW_LOFT : Fld := ⟨R.PWR_CFG, 24, 2⟩
/-- Field BARN_HOLD_MS of PWR_CFG. -/
def F.PWR_CFG_BARN_HOLD_MS : Fld := ⟨R.PWR_CFG, 16, 8⟩
/-- Field DOM_HOLD of PWR_CFG. -/
def F.PWR_CFG_DOM_HOLD : Fld := ⟨R.PWR_CFG, 0, 16⟩

/-- PWR_WAKE_CFG (spec/05_domains_and_votes.md). -/
def R.PWR_WAKE_CFG : RegDef := { base := 0x4001000C, reset := 0x81#32, kept := 0xF7#32, sl := 0xF7#32, sl3 := 0xF7#32 }
/-- Field TIMER_TARGET of PWR_WAKE_CFG. -/
def F.PWR_WAKE_CFG_TIMER_TARGET : Fld := ⟨R.PWR_WAKE_CFG, 6, 2⟩
/-- Field WAKEIN_TARGET of PWR_WAKE_CFG. -/
def F.PWR_WAKE_CFG_WAKEIN_TARGET : Fld := ⟨R.PWR_WAKE_CFG, 4, 2⟩
/-- Field WAKEIN_POL of PWR_WAKE_CFG. -/
def F.PWR_WAKE_CFG_WAKEIN_POL : Fld := ⟨R.PWR_WAKE_CFG, 2, 1⟩
/-- Field WAKEIN_MODE of PWR_WAKE_CFG. -/
def F.PWR_WAKE_CFG_WAKEIN_MODE : Fld := ⟨R.PWR_WAKE_CFG, 0, 2⟩

/-- PWR_WAKE_STATUS (spec/05_domains_and_votes.md). -/
def R.PWR_WAKE_STATUS : RegDef := { base := 0x40010010, kept := 0x703#32, w1c := 0x3#32 }
/-- Field LAST_SOURCE of PWR_WAKE_STATUS. -/
def F.PWR_WAKE_STATUS_LAST_SOURCE : Fld := ⟨R.PWR_WAKE_STATUS, 8, 3⟩
/-- Field WAKEIN_LEVEL of PWR_WAKE_STATUS. -/
def F.PWR_WAKE_STATUS_WAKEIN_LEVEL : Fld := ⟨R.PWR_WAKE_STATUS, 2, 1⟩
/-- Field TIMER_FIRED of PWR_WAKE_STATUS. -/
def F.PWR_WAKE_STATUS_TIMER_FIRED : Fld := ⟨R.PWR_WAKE_STATUS, 1, 1⟩
/-- Field WAKEIN_LATCH of PWR_WAKE_STATUS. -/
def F.PWR_WAKE_STATUS_WAKEIN_LATCH : Fld := ⟨R.PWR_WAKE_STATUS, 0, 1⟩

/-- PWR_SLEEP_TIMER (spec/05_domains_and_votes.md). -/
def R.PWR_SLEEP_TIMER : RegDef := { base := 0x40010014, kept := 0xFFFFFFFF#32, rw := 0xFFFFFFFF#32 }
/-- Field MS of PWR_SLEEP_TIMER. -/
def F.PWR_SLEEP_TIMER_MS : Fld := ⟨R.PWR_SLEEP_TIMER, 0, 32⟩

/-- PWR_LEVEL0 (spec/05_domains_and_votes.md). -/
def R.PWR_LEVEL0 : RegDef := { base := 0x40010020 }
/-- Field LEVEL of PWR_LEVEL0. -/
def F.PWR_LEVEL0_LEVEL : Fld := ⟨R.PWR_LEVEL0, 0, 32⟩

/-- PWR_LEVEL1 (spec/05_domains_and_votes.md). -/
def R.PWR_LEVEL1 : RegDef := { base := 0x40010024 }
/-- Field LEVEL of PWR_LEVEL1. -/
def F.PWR_LEVEL1_LEVEL : Fld := ⟨R.PWR_LEVEL1, 0, 16⟩

/-- PWR_BUSY (spec/05_domains_and_votes.md). -/
def R.PWR_BUSY : RegDef := { base := 0x40010028 }
/-- Field IN_FLIGHT of PWR_BUSY. -/
def F.PWR_BUSY_IN_FLIGHT : Fld := ⟨R.PWR_BUSY, 0, 24⟩

/-- PWR_PEND (spec/05_domains_and_votes.md). -/
def R.PWR_PEND : RegDef := { base := 0x4001002C }
/-- Field PENDING of PWR_PEND. -/
def F.PWR_PEND_PENDING : Fld := ⟨R.PWR_PEND, 0, 24⟩

/-- PWR_FAILED (spec/05_domains_and_votes.md). -/
def R.PWR_FAILED : RegDef := { base := 0x40010030, kept := 0xFFFFFF#32 }
/-- Field FAILED of PWR_FAILED. -/
def F.PWR_FAILED_FAILED : Fld := ⟨R.PWR_FAILED, 0, 24⟩

/-- PWR_LOG_MASK (spec/05_domains_and_votes.md). -/
def R.PWR_LOG_MASK : RegDef := { base := 0x40010034, kept := 0xFFFFFF#32, sl := 0xFFFFFF#32, sl3 := 0xFFFFFF#32 }
/-- Field MASK of PWR_LOG_MASK. -/
def F.PWR_LOG_MASK_MASK : Fld := ⟨R.PWR_LOG_MASK, 0, 24⟩

/-- PWR_STW_VOTE0 (spec/05_domains_and_votes.md). -/
def R.PWR_STW_VOTE0 : RegDef := { base := 0x40010040, rw := 0xFFFFFFFF#32 }
/-- Field VOTE of PWR_STW_VOTE0. -/
def F.PWR_STW_VOTE0_VOTE : Fld := ⟨R.PWR_STW_VOTE0, 0, 32⟩

/-- PWR_STW_VOTE1 (spec/05_domains_and_votes.md). -/
def R.PWR_STW_VOTE1 : RegDef := { base := 0x40010044, rw := 0xFFFF#32 }
/-- Field VOTE of PWR_STW_VOTE1. -/
def F.PWR_STW_VOTE1_VOTE : Fld := ⟨R.PWR_STW_VOTE1, 0, 16⟩

/-- PWR_IMG_VOTE0 (spec/05_domains_and_votes.md). -/
def R.PWR_IMG_VOTE0 : RegDef := { base := 0x40010048, kept := 0xFFFFFFFF#32, sl := 0xFFFFFFFF#32, sl3 := 0xFFFFFFFF#32 }
/-- Field VOTE of PWR_IMG_VOTE0. -/
def F.PWR_IMG_VOTE0_VOTE : Fld := ⟨R.PWR_IMG_VOTE0, 0, 32⟩

/-- PWR_IMG_VOTE1 (spec/05_domains_and_votes.md). -/
def R.PWR_IMG_VOTE1 : RegDef := { base := 0x4001004C, kept := 0xFFFF#32, sl := 0xFFFF#32, sl3 := 0xFFFF#32 }
/-- Field VOTE of PWR_IMG_VOTE1. -/
def F.PWR_IMG_VOTE1_VOTE : Fld := ⟨R.PWR_IMG_VOTE1, 0, 16⟩

/-- PWR_VOTEd (spec/05_domains_and_votes.md). -/
def R.PWR_VOTEd : RegDef := { base := 0x40010100, stride := 0x4, count := 24 }
/-- Field SLOTS of PWR_VOTEd. -/
def F.PWR_VOTEd_SLOTS : Fld := ⟨R.PWR_VOTEd, 0, 32⟩

/-- SUP_CFG (spec/06_supply_watch_and_core_rail.md). -/
def R.SUP_CFG : RegDef := { base := 0x40020000, reset := 0x3C080814#32, kept := 0xFF0F0FFF#32, sl := 0xFF0F0FFF#32, sl3 := 0xFF0F0FFF#32 }
/-- Field STORM_HOLD_S of SUP_CFG. -/
def F.SUP_CFG_STORM_HOLD_S : Fld := ⟨R.SUP_CFG, 24, 8⟩
/-- Field STORM_N of SUP_CFG. -/
def F.SUP_CFG_STORM_N : Fld := ⟨R.SUP_CFG, 16, 4⟩
/-- Field BRACE_SHARE of SUP_CFG. -/
def F.SUP_CFG_BRACE_SHARE : Fld := ⟨R.SUP_CFG, 8, 4⟩
/-- Field DIP_MAX_MS of SUP_CFG. -/
def F.SUP_CFG_DIP_MAX_MS : Fld := ⟨R.SUP_CFG, 0, 8⟩

/-- SUP_STATUS (spec/06_supply_watch_and_core_rail.md). -/
def R.SUP_STATUS : RegDef := { base := 0x40020004 }
/-- Field STORM of SUP_STATUS. -/
def F.SUP_STATUS_STORM : Fld := ⟨R.SUP_STATUS, 8, 1⟩
/-- Field AON_WARN of SUP_STATUS. -/
def F.SUP_STATUS_AON_WARN : Fld := ⟨R.SUP_STATUS, 5, 1⟩
/-- Field CORE_WARN of SUP_STATUS. -/
def F.SUP_STATUS_CORE_WARN : Fld := ⟨R.SUP_STATUS, 4, 1⟩
/-- Field BRACE of SUP_STATUS. -/
def F.SUP_STATUS_BRACE : Fld := ⟨R.SUP_STATUS, 1, 1⟩
/-- Field CORE_ARMED of SUP_STATUS. -/
def F.SUP_STATUS_CORE_ARMED : Fld := ⟨R.SUP_STATUS, 0, 1⟩

/-- SUP_VMON (spec/06_supply_watch_and_core_rail.md). -/
def R.SUP_VMON : RegDef := { base := 0x40020008, reset := 0xFFFF0000#32, kept := 0xFFFF0000#32 }
/-- Field AON_MIN of SUP_VMON. -/
def F.SUP_VMON_AON_MIN : Fld := ⟨R.SUP_VMON, 24, 8⟩
/-- Field CORE_MIN of SUP_VMON. -/
def F.SUP_VMON_CORE_MIN : Fld := ⟨R.SUP_VMON, 16, 8⟩
/-- Field AON_NOW of SUP_VMON. -/
def F.SUP_VMON_AON_NOW : Fld := ⟨R.SUP_VMON, 8, 8⟩
/-- Field CORE_NOW of SUP_VMON. -/
def F.SUP_VMON_CORE_NOW : Fld := ⟨R.SUP_VMON, 0, 8⟩

/-- SUP_DIP (spec/06_supply_watch_and_core_rail.md). -/
def R.SUP_DIP : RegDef := { base := 0x4002000C, kept := 0xFFFFFFFF#32 }
/-- Field TICKS of SUP_DIP. -/
def F.SUP_DIP_TICKS : Fld := ⟨R.SUP_DIP, 0, 32⟩

/-- SUP_COUNTS (spec/06_supply_watch_and_core_rail.md). -/
def R.SUP_COUNTS : RegDef := { base := 0x40020010, kept := 0xFFFFFFFF#32, rc := 0xFFFFFFFF#32 }
/-- Field LONG of SUP_COUNTS. -/
def F.SUP_COUNTS_LONG : Fld := ⟨R.SUP_COUNTS, 24, 8⟩
/-- Field STORMS of SUP_COUNTS. -/
def F.SUP_COUNTS_STORMS : Fld := ⟨R.SUP_COUNTS, 16, 8⟩
/-- Field BRACES of SUP_COUNTS. -/
def F.SUP_COUNTS_BRACES : Fld := ⟨R.SUP_COUNTS, 0, 16⟩

/-- VRC_CFG (spec/06_supply_watch_and_core_rail.md). -/
def R.VRC_CFG : RegDef := { base := 0x40030000, reset := 0xA783201#32, kept := 0xFFFFFF01#32, sl := 0xFFFFFF01#32, sl3 := 0xFFFFFF01#32 }
/-- Field R_PATH of VRC_CFG. -/
def F.VRC_CFG_R_PATH : Fld := ⟨R.VRC_CFG, 24, 8⟩
/-- Field PVIN_DV of VRC_CFG. -/
def F.VRC_CFG_PVIN_DV : Fld := ⟨R.VRC_CFG, 16, 8⟩
/-- Field ISEN_GAIN of VRC_CFG. -/
def F.VRC_CFG_ISEN_GAIN : Fld := ⟨R.VRC_CFG, 8, 8⟩
/-- Field LIGHT_EN of VRC_CFG. -/
def F.VRC_CFG_LIGHT_EN : Fld := ⟨R.VRC_CFG, 0, 1⟩

/-- VRC_STATUS (spec/06_supply_watch_and_core_rail.md). -/
def R.VRC_STATUS : RegDef := { base := 0x40030004, reset := 0x10480000#32 }
/-- Field SHARE of VRC_STATUS. -/
def F.VRC_STATUS_SHARE : Fld := ⟨R.VRC_STATUS, 24, 5⟩
/-- Field BUDGET_A of VRC_STATUS. -/
def F.VRC_STATUS_BUDGET_A : Fld := ⟨R.VRC_STATUS, 16, 8⟩
/-- Field VSENSE_LOCAL of VRC_STATUS. -/
def F.VRC_STATUS_VSENSE_LOCAL : Fld := ⟨R.VRC_STATUS, 11, 1⟩
/-- Field CLAMP of VRC_STATUS. -/
def F.VRC_STATUS_CLAMP : Fld := ⟨R.VRC_STATUS, 10, 1⟩
/-- Field LIGHT of VRC_STATUS. -/
def F.VRC_STATUS_LIGHT : Fld := ⟨R.VRC_STATUS, 9, 1⟩
/-- Field RUNNING of VRC_STATUS. -/
def F.VRC_STATUS_RUNNING : Fld := ⟨R.VRC_STATUS, 8, 1⟩
/-- Field BLIND of VRC_STATUS. -/
def F.VRC_STATUS_BLIND : Fld := ⟨R.VRC_STATUS, 4, 4⟩
/-- Field SHED of VRC_STATUS. -/
def F.VRC_STATUS_SHED : Fld := ⟨R.VRC_STATUS, 0, 4⟩

/-- VRC_PHASEn (spec/06_supply_watch_and_core_rail.md). -/
def R.VRC_PHASEn : RegDef := { base := 0x40030010, stride := 0x4, count := 4 }
/-- Field STATE of VRC_PHASEn. -/
def F.VRC_PHASEn_STATE : Fld := ⟨R.VRC_PHASEn, 20, 2⟩
/-- Field DUTY of VRC_PHASEn. -/
def F.VRC_PHASEn_DUTY : Fld := ⟨R.VRC_PHASEn, 10, 10⟩
/-- Field ISEN of VRC_PHASEn. -/
def F.VRC_PHASEn_ISEN : Fld := ⟨R.VRC_PHASEn, 0, 10⟩

/-- VRC_OFFSETn (spec/06_supply_watch_and_core_rail.md). -/
def R.VRC_OFFSETn : RegDef := { base := 0x40030020, stride := 0x4, count := 4, kept := 0x3FFFF#32 }
/-- Field SOURCE of VRC_OFFSETn. -/
def F.VRC_OFFSETn_SOURCE : Fld := ⟨R.VRC_OFFSETn, 16, 2⟩
/-- Field OFFSET of VRC_OFFSETn. -/
def F.VRC_OFFSETn_OFFSET : Fld := ⟨R.VRC_OFFSETn, 0, 16⟩

/-- VRC_CAL_CFG (spec/06_supply_watch_and_core_rail.md). -/
def R.VRC_CAL_CFG : RegDef := { base := 0x40030030, reset := 0xE10#32, kept := 0xFFFF#32, sl := 0xFFFF#32, sl3 := 0xFFFF#32 }
/-- Field PERIOD_S of VRC_CAL_CFG. -/
def F.VRC_CAL_CFG_PERIOD_S : Fld := ⟨R.VRC_CAL_CFG, 0, 16⟩

/-- VRC_COUNTS (spec/06_supply_watch_and_core_rail.md). -/
def R.VRC_COUNTS : RegDef := { base := 0x40030034, rc := 0xFF00FFFF#32 }
/-- Field CAL_REJECTS of VRC_COUNTS. -/
def F.VRC_COUNTS_CAL_REJECTS : Fld := ⟨R.VRC_COUNTS, 24, 8⟩
/-- Field OC of VRC_COUNTS. -/
def F.VRC_COUNTS_OC : Fld := ⟨R.VRC_COUNTS, 0, 16⟩

/-- YRD_CFG (spec/07_watch_yard.md). -/
def R.YRD_CFG : RegDef := { base := 0x40040000, kept := 0xFFFF#32, sl := 0xFFFF#32 }
/-- Field SLOT_EN of YRD_CFG. -/
def F.YRD_CFG_SLOT_EN : Fld := ⟨R.YRD_CFG, 0, 16⟩

/-- YRD_STATUS (spec/07_watch_yard.md). -/
def R.YRD_STATUS : RegDef := { base := 0x40040004 }
/-- Field FAULTED of YRD_STATUS. -/
def F.YRD_STATUS_FAULTED : Fld := ⟨R.YRD_STATUS, 16, 16⟩
/-- Field BUSY of YRD_STATUS. -/
def F.YRD_STATUS_BUSY : Fld := ⟨R.YRD_STATUS, 0, 16⟩

/-- YRD_WAKE (spec/07_watch_yard.md). -/
def R.YRD_WAKE : RegDef := { base := 0x40040008, kept := 0x807F000F#32 }
/-- Field WAKE_OUT of YRD_WAKE. -/
def F.YRD_WAKE_WAKE_OUT : Fld := ⟨R.YRD_WAKE, 31, 1⟩
/-- Field QUEUED of YRD_WAKE. -/
def F.YRD_WAKE_QUEUED : Fld := ⟨R.YRD_WAKE, 16, 7⟩
/-- Field LAST_SLOT of YRD_WAKE. -/
def F.YRD_WAKE_LAST_SLOT : Fld := ⟨R.YRD_WAKE, 0, 4⟩

/-- YRD_WAKE_COUNT (spec/07_watch_yard.md). -/
def R.YRD_WAKE_COUNT : RegDef := { base := 0x4004000C, rc := 0xFFFFFFFF#32 }
/-- Field STALLS of YRD_WAKE_COUNT. -/
def F.YRD_WAKE_COUNT_STALLS : Fld := ⟨R.YRD_WAKE_COUNT, 16, 16⟩
/-- Field WAKES of YRD_WAKE_COUNT. -/
def F.YRD_WAKE_COUNT_WAKES : Fld := ⟨R.YRD_WAKE_COUNT, 0, 16⟩

/-- YRD_WAKE_CLR (spec/07_watch_yard.md). -/
def R.YRD_WAKE_CLR : RegDef := { base := 0x40040010, wo := 0xFFFF#32 }
/-- Field SLOTS of YRD_WAKE_CLR. -/
def F.YRD_WAKE_CLR_SLOTS : Fld := ⟨R.YRD_WAKE_CLR, 0, 16⟩

/-- YRD_ENGINE (spec/07_watch_yard.md). -/
def R.YRD_ENGINE : RegDef := { base := 0x40040014, rc := 0xFFFFFFFF#32 }
/-- Field CYCLES of YRD_ENGINE. -/
def F.YRD_ENGINE_CYCLES : Fld := ⟨R.YRD_ENGINE, 0, 32⟩

/-- YRD_SECTION (spec/07_watch_yard.md). -/
def R.YRD_SECTION : RegDef := { base := 0x40040018, kept := 0x1F01#32 }
/-- Field NETS of YRD_SECTION. -/
def F.YRD_SECTION_NETS : Fld := ⟨R.YRD_SECTION, 8, 5⟩
/-- Field VALID of YRD_SECTION. -/
def F.YRD_SECTION_VALID : Fld := ⟨R.YRD_SECTION, 0, 1⟩

/-- YRD_SLOTn_STAT (spec/07_watch_yard.md). -/
def R.YRD_SLOTn_STAT : RegDef := { base := 0x40040100, stride := 0x10, count := 16, rc := 0xFFFFFF00#32 }
/-- Field RUNS of YRD_SLOTn_STAT. -/
def F.YRD_SLOTn_STAT_RUNS : Fld := ⟨R.YRD_SLOTn_STAT, 16, 16⟩
/-- Field OVERRUNS of YRD_SLOTn_STAT. -/
def F.YRD_SLOTn_STAT_OVERRUNS : Fld := ⟨R.YRD_SLOTn_STAT, 8, 8⟩
/-- Field FAULT of YRD_SLOTn_STAT. -/
def F.YRD_SLOTn_STAT_FAULT : Fld := ⟨R.YRD_SLOTn_STAT, 4, 4⟩
/-- Field STATE of YRD_SLOTn_STAT. -/
def F.YRD_SLOTn_STAT_STATE : Fld := ⟨R.YRD_SLOTn_STAT, 0, 2⟩

/-- YRD_SLOTn_PERIOD (spec/07_watch_yard.md). -/
def R.YRD_SLOTn_PERIOD : RegDef := { base := 0x40040104, stride := 0x10, count := 16, kept := 0xFFFFFFFF#32, sl := 0xFFFFFFFF#32 }
/-- Field PERIOD of YRD_SLOTn_PERIOD. -/
def F.YRD_SLOTn_PERIOD_PERIOD : Fld := ⟨R.YRD_SLOTn_PERIOD, 0, 32⟩

/-- YRD_SLOTn_TRIG (spec/07_watch_yard.md). -/
def R.YRD_SLOTn_TRIG : RegDef := { base := 0x40040108, stride := 0x10, count := 16, kept := 0xF307#32, sl := 0xF307#32 }
/-- Field FLAGS of YRD_SLOTn_TRIG. -/
def F.YRD_SLOTn_TRIG_FLAGS : Fld := ⟨R.YRD_SLOTn_TRIG, 12, 4⟩
/-- Field TRIGGER of YRD_SLOTn_TRIG. -/
def F.YRD_SLOTn_TRIG_TRIGGER : Fld := ⟨R.YRD_SLOTn_TRIG, 8, 2⟩
/-- Field TRIG_INDEX of YRD_SLOTn_TRIG. -/
def F.YRD_SLOTn_TRIG_TRIG_INDEX : Fld := ⟨R.YRD_SLOTn_TRIG, 0, 3⟩

/-- EAR_CFG (spec/08_listening.md). -/
def R.EAR_CFG : RegDef := { base := 0x40050000, reset := 0xA#32, kept := 0x13F#32, sl := 0x13F#32, sl3 := 0x13F#32 }
/-- Field MICVDD_3V3 of EAR_CFG. -/
def F.EAR_CFG_MICVDD_3V3 : Fld := ⟨R.EAR_CFG, 8, 1⟩
/-- Field SETTLE_MS of EAR_CFG. -/
def F.EAR_CFG_SETTLE_MS : Fld := ⟨R.EAR_CFG, 0, 6⟩

/-- EAR_STATUS (spec/08_listening.md). -/
def R.EAR_STATUS : RegDef := { base := 0x40050004 }
/-- Field MICVDD_FAULT of EAR_STATUS. -/
def F.EAR_STATUS_MICVDD_FAULT : Fld := ⟨R.EAR_STATUS, 7, 1⟩
/-- Field MICVDD_ON of EAR_STATUS. -/
def F.EAR_STATUS_MICVDD_ON : Fld := ⟨R.EAR_STATUS, 6, 1⟩
/-- Field LED_FAULT of EAR_STATUS. -/
def F.EAR_STATUS_LED_FAULT : Fld := ⟨R.EAR_STATUS, 5, 1⟩
/-- Field UNMUTING of EAR_STATUS. -/
def F.EAR_STATUS_UNMUTING : Fld := ⟨R.EAR_STATUS, 4, 1⟩
/-- Field MUTED of EAR_STATUS. -/
def F.EAR_STATUS_MUTED : Fld := ⟨R.EAR_STATUS, 3, 1⟩
/-- Field SETTLING of EAR_STATUS. -/
def F.EAR_STATUS_SETTLING : Fld := ⟨R.EAR_STATUS, 2, 1⟩
/-- Field CLK1_RUN of EAR_STATUS. -/
def F.EAR_STATUS_CLK1_RUN : Fld := ⟨R.EAR_STATUS, 1, 1⟩
/-- Field CLK0_FULL of EAR_STATUS. -/
def F.EAR_STATUS_CLK0_FULL : Fld := ⟨R.EAR_STATUS, 0, 1⟩

/-- EAR_TDM_CFG (spec/08_listening.md). -/
def R.EAR_TDM_CFG : RegDef := { base := 0x40050008, reset := 0xBC#32, kept := 0xFFFF#32, sl := 0xFFFF#32, sl3 := 0xFFFF#32 }
/-- Field SLOT_EN of EAR_TDM_CFG. -/
def F.EAR_TDM_CFG_SLOT_EN : Fld := ⟨R.EAR_TDM_CFG, 8, 8⟩
/-- Field WIDTH of EAR_TDM_CFG. -/
def F.EAR_TDM_CFG_WIDTH : Fld := ⟨R.EAR_TDM_CFG, 6, 2⟩
/-- Field SLOTS_M1 of EAR_TDM_CFG. -/
def F.EAR_TDM_CFG_SLOTS_M1 : Fld := ⟨R.EAR_TDM_CFG, 3, 3⟩
/-- Field RATE48 of EAR_TDM_CFG. -/
def F.EAR_TDM_CFG_RATE48 : Fld := ⟨R.EAR_TDM_CFG, 2, 1⟩
/-- Field I2S of EAR_TDM_CFG. -/
def F.EAR_TDM_CFG_I2S : Fld := ⟨R.EAR_TDM_CFG, 1, 1⟩
/-- Field CONTROLLER of EAR_TDM_CFG. -/
def F.EAR_TDM_CFG_CONTROLLER : Fld := ⟨R.EAR_TDM_CFG, 0, 1⟩

/-- EAR_PREROLL_CFG (spec/08_listening.md). -/
def R.EAR_PREROLL_CFG : RegDef := { base := 0x4005000C, reset := 0x13880070#32, kept := 0xFFFF037F#32, sl := 0xFFFF037F#32, sl3 := 0xFFFF037F#32 }
/-- Field KEEP_MS of EAR_PREROLL_CFG. -/
def F.EAR_PREROLL_CFG_KEEP_MS : Fld := ⟨R.EAR_PREROLL_CFG, 16, 16⟩
/-- Field AUTO_UNLOAD of EAR_PREROLL_CFG. -/
def F.EAR_PREROLL_CFG_AUTO_UNLOAD : Fld := ⟨R.EAR_PREROLL_CFG, 9, 1⟩
/-- Field CODEC of EAR_PREROLL_CFG. -/
def F.EAR_PREROLL_CFG_CODEC : Fld := ⟨R.EAR_PREROLL_CFG, 8, 1⟩
/-- Field SIZE_M1 of EAR_PREROLL_CFG. -/
def F.EAR_PREROLL_CFG_SIZE_M1 : Fld := ⟨R.EAR_PREROLL_CFG, 4, 3⟩
/-- Field PREROLL_MICS of EAR_PREROLL_CFG. -/
def F.EAR_PREROLL_CFG_PREROLL_MICS : Fld := ⟨R.EAR_PREROLL_CFG, 0, 4⟩

/-- EAR_PREROLL_DST (spec/08_listening.md). -/
def R.EAR_PREROLL_DST : RegDef := { base := 0x40050010, kept := 0xFFF00FFF#32, sl := 0xFFF00FFF#32, sl3 := 0xFFF00FFF#32 }
/-- Field BASE_PLOT of EAR_PREROLL_DST. -/
def F.EAR_PREROLL_DST_BASE_PLOT : Fld := ⟨R.EAR_PREROLL_DST, 20, 12⟩
/-- Field TALLY of EAR_PREROLL_DST. -/
def F.EAR_PREROLL_DST_TALLY : Fld := ⟨R.EAR_PREROLL_DST, 0, 12⟩

/-- EAR_PREROLL_STATUS (spec/08_listening.md). -/
def R.EAR_PREROLL_STATUS : RegDef := { base := 0x40050014 }
/-- Field BLOCKS of EAR_PREROLL_STATUS. -/
def F.EAR_PREROLL_STATUS_BLOCKS : Fld := ⟨R.EAR_PREROLL_STATUS, 16, 12⟩
/-- Field WR_BLOCK of EAR_PREROLL_STATUS. -/
def F.EAR_PREROLL_STATUS_WR_BLOCK : Fld := ⟨R.EAR_PREROLL_STATUS, 4, 12⟩
/-- Field UNLOADING of EAR_PREROLL_STATUS. -/
def F.EAR_PREROLL_STATUS_UNLOADING : Fld := ⟨R.EAR_PREROLL_STATUS, 1, 1⟩
/-- Field SESSION of EAR_PREROLL_STATUS. -/
def F.EAR_PREROLL_STATUS_SESSION : Fld := ⟨R.EAR_PREROLL_STATUS, 0, 1⟩

/-- EAR_PREROLL_CMD (spec/08_listening.md). -/
def R.EAR_PREROLL_CMD : RegDef := { base := 0x40050018, wo := 0xFFFF0001#32 }
/-- Field KEY of EAR_PREROLL_CMD. -/
def F.EAR_PREROLL_CMD_KEY : Fld := ⟨R.EAR_PREROLL_CMD, 16, 16⟩
/-- Field UNLOAD of EAR_PREROLL_CMD. -/
def F.EAR_PREROLL_CMD_UNLOAD : Fld := ⟨R.EAR_PREROLL_CMD, 0, 1⟩

/-- EAR_CAL_CFG (spec/08_listening.md). -/
def R.EAR_CAL_CFG : RegDef := { base := 0x4005001C, reset := 0x3C000E10#32, kept := 0xFF00FFFF#32, sl := 0xFF00FFFF#32, sl3 := 0xFF00FFFF#32 }
/-- Field QUIET_DBFS of EAR_CAL_CFG. -/
def F.EAR_CAL_CFG_QUIET_DBFS : Fld := ⟨R.EAR_CAL_CFG, 24, 8⟩
/-- Field PERIOD_S of EAR_CAL_CFG. -/
def F.EAR_CAL_CFG_PERIOD_S : Fld := ⟨R.EAR_CAL_CFG, 0, 16⟩

/-- EAR_COUNTS (spec/08_listening.md). -/
def R.EAR_COUNTS : RegDef := { base := 0x40050020, kept := 0xFFFF#32, rc := 0xFFFFFFFF#32 }
/-- Field CAL_REJECTS of EAR_COUNTS. -/
def F.EAR_COUNTS_CAL_REJECTS : Fld := ⟨R.EAR_COUNTS, 24, 8⟩
/-- Field TDM_ERRORS of EAR_COUNTS. -/
def F.EAR_COUNTS_TDM_ERRORS : Fld := ⟨R.EAR_COUNTS, 16, 8⟩
/-- Field MUTES of EAR_COUNTS. -/
def F.EAR_COUNTS_MUTES : Fld := ⟨R.EAR_COUNTS, 0, 16⟩

/-- EAR_MICm_CFG (spec/08_listening.md). -/
def R.EAR_MICm_CFG : RegDef := { base := 0x40050100, stride := 0x10, count := 16, kept := 0xFFFFFFFD#32, sl := 0xFFFFFFFD#32, sl3 := 0xFFFFFFFD#32 }
/-- Field BASE_PLOT of EAR_MICm_CFG. -/
def F.EAR_MICm_CFG_BASE_PLOT : Fld := ⟨R.EAR_MICm_CFG, 20, 12⟩
/-- Field FRAMES of EAR_MICm_CFG. -/
def F.EAR_MICm_CFG_FRAMES : Fld := ⟨R.EAR_MICm_CFG, 4, 16⟩
/-- Field WIN_SEL of EAR_MICm_CFG. -/
def F.EAR_MICm_CFG_WIN_SEL : Fld := ⟨R.EAR_MICm_CFG, 2, 2⟩
/-- Field ENABLE of EAR_MICm_CFG. -/
def F.EAR_MICm_CFG_ENABLE : Fld := ⟨R.EAR_MICm_CFG, 0, 1⟩

/-- EAR_MICm_STAT (spec/08_listening.md). -/
def R.EAR_MICm_STAT : RegDef := { base := 0x40050104, stride := 0x10, count := 16 }
/-- Field WR_INDEX of EAR_MICm_STAT. -/
def F.EAR_MICm_STAT_WR_INDEX : Fld := ⟨R.EAR_MICm_STAT, 16, 16⟩
/-- Field CAL_SOURCE of EAR_MICm_STAT. -/
def F.EAR_MICm_STAT_CAL_SOURCE : Fld := ⟨R.EAR_MICm_STAT, 4, 2⟩
/-- Field WIN_FAILED of EAR_MICm_STAT. -/
def F.EAR_MICm_STAT_WIN_FAILED : Fld := ⟨R.EAR_MICm_STAT, 3, 1⟩
/-- Field CAL_STATE of EAR_MICm_STAT. -/
def F.EAR_MICm_STAT_CAL_STATE : Fld := ⟨R.EAR_MICm_STAT, 0, 3⟩

/-- EAR_PATp_CFG (spec/08_listening.md). -/
def R.EAR_PATp_CFG : RegDef := { base := 0x40050200, stride := 0x10, count := 8, kept := 0xFFFFF007#32, sl := 0xFFFFF007#32 }
/-- Field THRESH of EAR_PATp_CFG. -/
def F.EAR_PATp_CFG_THRESH : Fld := ⟨R.EAR_PATp_CFG, 24, 8⟩
/-- Field PERSIST_M1 of EAR_PATp_CFG. -/
def F.EAR_PATp_CFG_PERSIST_M1 : Fld := ⟨R.EAR_PATp_CFG, 20, 4⟩
/-- Field TARGET of EAR_PATp_CFG. -/
def F.EAR_PATp_CFG_TARGET : Fld := ⟨R.EAR_PATp_CFG, 16, 4⟩
/-- Field MIC of EAR_PATp_CFG. -/
def F.EAR_PATp_CFG_MIC : Fld := ⟨R.EAR_PATp_CFG, 12, 4⟩
/-- Field FLAGS of EAR_PATp_CFG. -/
def F.EAR_PATp_CFG_FLAGS : Fld := ⟨R.EAR_PATp_CFG, 0, 3⟩

/-- EAR_PATp_STAT (spec/08_listening.md). -/
def R.EAR_PATp_STAT : RegDef := { base := 0x40050204, stride := 0x10, count := 8, rc := 0xFFFF0000#32 }
/-- Field MATCHES of EAR_PATp_STAT. -/
def F.EAR_PATp_STAT_MATCHES : Fld := ⟨R.EAR_PATp_STAT, 16, 16⟩
/-- Field STATE of EAR_PATp_STAT. -/
def F.EAR_PATp_STAT_STATE : Fld := ⟨R.EAR_PATp_STAT, 0, 2⟩

/-- SPT_CFG (spec/09_sensor_heads_and_camera_ports.md). -/
def R.SPT_CFG : RegDef := { base := 0x40060000, reset := 0x83C#32, kept := 0xFFFF#32, sl := 0xFFFF#32, sl3 := 0xFFFF#32 }
/-- Field NACK_LIMIT of SPT_CFG. -/
def F.SPT_CFG_NACK_LIMIT : Fld := ⟨R.SPT_CFG, 8, 8⟩
/-- Field RESET_S of SPT_CFG. -/
def F.SPT_CFG_RESET_S : Fld := ⟨R.SPT_CFG, 0, 8⟩

/-- SPT_FAULT_CLR (spec/09_sensor_heads_and_camera_ports.md). -/
def R.SPT_FAULT_CLR : RegDef := { base := 0x40060004, wo := 0xFFFF00FF#32 }
/-- Field KEY of SPT_FAULT_CLR. -/
def F.SPT_FAULT_CLR_KEY : Fld := ⟨R.SPT_FAULT_CLR, 16, 16⟩
/-- Field PORTS of SPT_FAULT_CLR. -/
def F.SPT_FAULT_CLR_PORTS : Fld := ⟨R.SPT_FAULT_CLR, 0, 8⟩

/-- SPT_PORTn_CFG (spec/09_sensor_heads_and_camera_ports.md). -/
def R.SPT_PORTn_CFG : RegDef := { base := 0x40060100, stride := 0x20, count := 8, kept := 0xFF7F0F1D#32, sl := 0xFF7F0F1D#32, sl3 := 0xFF7F0F1D#32 }
/-- Field RESET_POLICY of SPT_PORTn_CFG. -/
def F.SPT_PORTn_CFG_RESET_POLICY : Fld := ⟨R.SPT_PORTn_CFG, 30, 2⟩
/-- Field INIT_EN of SPT_PORTn_CFG. -/
def F.SPT_PORTn_CFG_INIT_EN : Fld := ⟨R.SPT_PORTn_CFG, 29, 1⟩
/-- Field INIT_SCRIPT of SPT_PORTn_CFG. -/
def F.SPT_PORTn_CFG_INIT_SCRIPT : Fld := ⟨R.SPT_PORTn_CFG, 26, 3⟩
/-- Field INT_TEST_EN of SPT_PORTn_CFG. -/
def F.SPT_PORTn_CFG_INT_TEST_EN : Fld := ⟨R.SPT_PORTn_CFG, 25, 1⟩
/-- Field INT_POL of SPT_PORTn_CFG. -/
def F.SPT_PORTn_CFG_INT_POL : Fld := ⟨R.SPT_PORTn_CFG, 24, 1⟩
/-- Field I3C_BASE of SPT_PORTn_CFG. -/
def F.SPT_PORTn_CFG_I3C_BASE : Fld := ⟨R.SPT_PORTn_CFG, 16, 7⟩
/-- Field SPEED of SPT_PORTn_CFG. -/
def F.SPT_PORTn_CFG_SPEED : Fld := ⟨R.SPT_PORTn_CFG, 8, 4⟩
/-- Field SPI_MODE3 of SPT_PORTn_CFG. -/
def F.SPT_PORTn_CFG_SPI_MODE3 : Fld := ⟨R.SPT_PORTn_CFG, 4, 1⟩
/-- Field MODE of SPT_PORTn_CFG. -/
def F.SPT_PORTn_CFG_MODE : Fld := ⟨R.SPT_PORTn_CFG, 2, 2⟩
/-- Field ENABLE of SPT_PORTn_CFG. -/
def F.SPT_PORTn_CFG_ENABLE : Fld := ⟨R.SPT_PORTn_CFG, 0, 1⟩

/-- SPT_PORTn_STATUS (spec/09_sensor_heads_and_camera_ports.md). -/
def R.SPT_PORTn_STATUS : RegDef := { base := 0x40060104, stride := 0x20, count := 8, kept := 0xF000070#32 }
/-- Field FAILS of SPT_PORTn_STATUS. -/
def F.SPT_PORTn_STATUS_FAILS : Fld := ⟨R.SPT_PORTn_STATUS, 24, 4⟩
/-- Field RESULT of SPT_PORTn_STATUS. -/
def F.SPT_PORTn_STATUS_RESULT : Fld := ⟨R.SPT_PORTn_STATUS, 20, 4⟩
/-- Field SCRIPT of SPT_PORTn_STATUS. -/
def F.SPT_PORTn_STATUS_SCRIPT : Fld := ⟨R.SPT_PORTn_STATUS, 16, 3⟩
/-- Field STEP of SPT_PORTn_STATUS. -/
def F.SPT_PORTn_STATUS_STEP : Fld := ⟨R.SPT_PORTn_STATUS, 10, 6⟩
/-- Field BUSY of SPT_PORTn_STATUS. -/
def F.SPT_PORTn_STATUS_BUSY : Fld := ⟨R.SPT_PORTn_STATUS, 9, 1⟩
/-- Field INT_ACTIVE of SPT_PORTn_STATUS. -/
def F.SPT_PORTn_STATUS_INT_ACTIVE : Fld := ⟨R.SPT_PORTn_STATUS, 8, 1⟩
/-- Field INT_FLOAT of SPT_PORTn_STATUS. -/
def F.SPT_PORTn_STATUS_INT_FLOAT : Fld := ⟨R.SPT_PORTn_STATUS, 7, 1⟩
/-- Field STATE of SPT_PORTn_STATUS. -/
def F.SPT_PORTn_STATUS_STATE : Fld := ⟨R.SPT_PORTn_STATUS, 4, 3⟩
/-- Field CLASS of SPT_PORTn_STATUS. -/
def F.SPT_PORTn_STATUS_CLASS : Fld := ⟨R.SPT_PORTn_STATUS, 0, 3⟩

/-- SPT_PORTn_COUNTS (spec/09_sensor_heads_and_camera_ports.md). -/
def R.SPT_PORTn_COUNTS : RegDef := { base := 0x40060108, stride := 0x20, count := 8, rc := 0xFFFFFFFF#32 }
/-- Field RAIL_FAULTS of SPT_PORTn_COUNTS. -/
def F.SPT_PORTn_COUNTS_RAIL_FAULTS : Fld := ⟨R.SPT_PORTn_COUNTS, 24, 8⟩
/-- Field BUS_STUCK of SPT_PORTn_COUNTS. -/
def F.SPT_PORTn_COUNTS_BUS_STUCK : Fld := ⟨R.SPT_PORTn_COUNTS, 16, 8⟩
/-- Field SCRIPT_ERRORS of SPT_PORTn_COUNTS. -/
def F.SPT_PORTn_COUNTS_SCRIPT_ERRORS : Fld := ⟨R.SPT_PORTn_COUNTS, 8, 8⟩
/-- Field INT_FLOATS of SPT_PORTn_COUNTS. -/
def F.SPT_PORTn_COUNTS_INT_FLOATS : Fld := ⟨R.SPT_PORTn_COUNTS, 0, 8⟩

/-- SPT_PORTn_I3C (spec/09_sensor_heads_and_camera_ports.md). -/
def R.SPT_PORTn_I3C : RegDef := { base := 0x4006010C, stride := 0x20, count := 8, rc := 0xFFFF#32 }
/-- Field TARGETS of SPT_PORTn_I3C. -/
def F.SPT_PORTn_I3C_TARGETS : Fld := ⟨R.SPT_PORTn_I3C, 16, 3⟩
/-- Field IBIS of SPT_PORTn_I3C. -/
def F.SPT_PORTn_I3C_IBIS : Fld := ⟨R.SPT_PORTn_I3C, 0, 16⟩

/-- CAM_CFG (spec/09_sensor_heads_and_camera_ports.md). -/
def R.CAM_CFG : RegDef := { base := 0x40070000, reset := 0x64140000#32, kept := 0xFFFF0000#32, sl := 0xFFFF0000#32, sl3 := 0xFFFF0000#32 }
/-- Field FRAME_TMO_MS of CAM_CFG. -/
def F.CAM_CFG_FRAME_TMO_MS : Fld := ⟨R.CAM_CFG, 24, 8⟩
/-- Field SETTLE_MS of CAM_CFG. -/
def F.CAM_CFG_SETTLE_MS : Fld := ⟨R.CAM_CFG, 16, 8⟩

/-- CAM_STATUS (spec/09_sensor_heads_and_camera_ports.md). -/
def R.CAM_STATUS : RegDef := { base := 0x40070004 }
/-- Field CAM_EN of CAM_STATUS. -/
def F.CAM_STATUS_CAM_EN : Fld := ⟨R.CAM_STATUS, 7, 1⟩
/-- Field LED_ON of CAM_STATUS. -/
def F.CAM_STATUS_LED_ON : Fld := ⟨R.CAM_STATUS, 6, 1⟩
/-- Field LED_FAULT of CAM_STATUS. -/
def F.CAM_STATUS_LED_FAULT : Fld := ⟨R.CAM_STATUS, 4, 2⟩
/-- Field HELD of CAM_STATUS. -/
def F.CAM_STATUS_HELD : Fld := ⟨R.CAM_STATUS, 2, 1⟩
/-- Field CAM1_ACTIVE of CAM_STATUS. -/
def F.CAM_STATUS_CAM1_ACTIVE : Fld := ⟨R.CAM_STATUS, 1, 1⟩
/-- Field CAM0_ACTIVE of CAM_STATUS. -/
def F.CAM_STATUS_CAM0_ACTIVE : Fld := ⟨R.CAM_STATUS, 0, 1⟩

/-- CAM_PORTn_CFG (spec/09_sensor_heads_and_camera_ports.md). -/
def R.CAM_PORTn_CFG : RegDef := { base := 0x40070100, stride := 0x10, count := 2, kept := 0x7F7#32, sl := 0x7F7#32, sl3 := 0x7F7#32 }
/-- Field DVP_HREF_LOW of CAM_PORTn_CFG. -/
def F.CAM_PORTn_CFG_DVP_HREF_LOW : Fld := ⟨R.CAM_PORTn_CFG, 10, 1⟩
/-- Field DVP_VSYNC_LOW of CAM_PORTn_CFG. -/
def F.CAM_PORTn_CFG_DVP_VSYNC_LOW : Fld := ⟨R.CAM_PORTn_CFG, 9, 1⟩
/-- Field DVP_PCLK_FALL of CAM_PORTn_CFG. -/
def F.CAM_PORTn_CFG_DVP_PCLK_FALL : Fld := ⟨R.CAM_PORTn_CFG, 8, 1⟩
/-- Field DT of CAM_PORTn_CFG. -/
def F.CAM_PORTn_CFG_DT : Fld := ⟨R.CAM_PORTn_CFG, 6, 2⟩
/-- Field VC of CAM_PORTn_CFG. -/
def F.CAM_PORTn_CFG_VC : Fld := ⟨R.CAM_PORTn_CFG, 4, 2⟩
/-- Field LANES_M1 of CAM_PORTn_CFG. -/
def F.CAM_PORTn_CFG_LANES_M1 : Fld := ⟨R.CAM_PORTn_CFG, 2, 1⟩
/-- Field DVP of CAM_PORTn_CFG. -/
def F.CAM_PORTn_CFG_DVP : Fld := ⟨R.CAM_PORTn_CFG, 1, 1⟩
/-- Field ENABLE of CAM_PORTn_CFG. -/
def F.CAM_PORTn_CFG_ENABLE : Fld := ⟨R.CAM_PORTn_CFG, 0, 1⟩

/-- CAM_PORTn_SIZE (spec/09_sensor_heads_and_camera_ports.md). -/
def R.CAM_PORTn_SIZE : RegDef := { base := 0x40070104, stride := 0x10, count := 2, kept := 0x7FF03FF#32, sl := 0x7FF03FF#32, sl3 := 0x7FF03FF#32 }
/-- Field WIDTH of CAM_PORTn_SIZE. -/
def F.CAM_PORTn_SIZE_WIDTH : Fld := ⟨R.CAM_PORTn_SIZE, 16, 11⟩
/-- Field HEIGHT of CAM_PORTn_SIZE. -/
def F.CAM_PORTn_SIZE_HEIGHT : Fld := ⟨R.CAM_PORTn_SIZE, 0, 10⟩

/-- CAM_PORTn_COUNTS (spec/09_sensor_heads_and_camera_ports.md). -/
def R.CAM_PORTn_COUNTS : RegDef := { base := 0x40070108, stride := 0x10, count := 2, rc := 0xFFFFFFFF#32 }
/-- Field FRAMES of CAM_PORTn_COUNTS. -/
def F.CAM_PORTn_COUNTS_FRAMES : Fld := ⟨R.CAM_PORTn_COUNTS, 16, 16⟩
/-- Field ABANDONED of CAM_PORTn_COUNTS. -/
def F.CAM_PORTn_COUNTS_ABANDONED : Fld := ⟨R.CAM_PORTn_COUNTS, 8, 8⟩
/-- Field DISCARDED of CAM_PORTn_COUNTS. -/
def F.CAM_PORTn_COUNTS_DISCARDED : Fld := ⟨R.CAM_PORTn_COUNTS, 0, 8⟩

/-- CAM_PORTn_ERR (spec/09_sensor_heads_and_camera_ports.md). -/
def R.CAM_PORTn_ERR : RegDef := { base := 0x4007010C, stride := 0x10, count := 2, rc := 0xFFFFFF00#32 }
/-- Field ECC_CORRECTED of CAM_PORTn_ERR. -/
def F.CAM_PORTn_ERR_ECC_CORRECTED : Fld := ⟨R.CAM_PORTn_ERR, 24, 8⟩
/-- Field ECC_FATAL of CAM_PORTn_ERR. -/
def F.CAM_PORTn_ERR_ECC_FATAL : Fld := ⟨R.CAM_PORTn_ERR, 16, 8⟩
/-- Field CRC of CAM_PORTn_ERR. -/
def F.CAM_PORTn_ERR_CRC : Fld := ⟨R.CAM_PORTn_ERR, 8, 8⟩
/-- Field LAST_CAUSE of CAM_PORTn_ERR. -/
def F.CAM_PORTn_ERR_LAST_CAUSE : Fld := ⟨R.CAM_PORTn_ERR, 0, 3⟩

/-- PEN_CAMn_CFG (spec/02_what_never_leaves.md). -/
def R.PEN_CAMn_CFG : RegDef := { base := 0x40080000, stride := 0x10, count := 2, reset := 0x32000000#32, kept := 0xFFFFFFFF#32, sl := 0xFFFFFFFF#32, sl3 := 0xFFFFFFFF#32 }
/-- Field TTL_MS of PEN_CAMn_CFG. -/
def F.PEN_CAMn_CFG_TTL_MS : Fld := ⟨R.PEN_CAMn_CFG, 22, 10⟩
/-- Field TALLY of PEN_CAMn_CFG. -/
def F.PEN_CAMn_CFG_TALLY : Fld := ⟨R.PEN_CAMn_CFG, 10, 12⟩
/-- Field READERS_M1 of PEN_CAMn_CFG. -/
def F.PEN_CAMn_CFG_READERS_M1 : Fld := ⟨R.PEN_CAMn_CFG, 7, 3⟩
/-- Field SLOTS_M1 of PEN_CAMn_CFG. -/
def F.PEN_CAMn_CFG_SLOTS_M1 : Fld := ⟨R.PEN_CAMn_CFG, 5, 2⟩
/-- Field UNITS_M1 of PEN_CAMn_CFG. -/
def F.PEN_CAMn_CFG_UNITS_M1 : Fld := ⟨R.PEN_CAMn_CFG, 0, 5⟩

/-- PEN_STATUS (spec/02_what_never_leaves.md). -/
def R.PEN_STATUS : RegDef := { base := 0x40080020 }
/-- Field CAM1_SLOTS of PEN_STATUS. -/
def F.PEN_STATUS_CAM1_SLOTS : Fld := ⟨R.PEN_STATUS, 16, 8⟩
/-- Field CAM0_SLOTS of PEN_STATUS. -/
def F.PEN_STATUS_CAM0_SLOTS : Fld := ⟨R.PEN_STATUS, 8, 8⟩
/-- Field LAST_CAUSE of PEN_STATUS. -/
def F.PEN_STATUS_LAST_CAUSE : Fld := ⟨R.PEN_STATUS, 1, 3⟩
/-- Field WIPING of PEN_STATUS. -/
def F.PEN_STATUS_WIPING : Fld := ⟨R.PEN_STATUS, 0, 1⟩

/-- PEN_COUNTS (spec/02_what_never_leaves.md). -/
def R.PEN_COUNTS : RegDef := { base := 0x40080024, rc := 0xFFFFFFFF#32 }
/-- Field WHOLE_WIPES of PEN_COUNTS. -/
def F.PEN_COUNTS_WHOLE_WIPES : Fld := ⟨R.PEN_COUNTS, 24, 8⟩
/-- Field TTL_EXPIRED of PEN_COUNTS. -/
def F.PEN_COUNTS_TTL_EXPIRED : Fld := ⟨R.PEN_COUNTS, 16, 8⟩
/-- Field SKIPPED of PEN_COUNTS. -/
def F.PEN_COUNTS_SKIPPED : Fld := ⟨R.PEN_COUNTS, 0, 16⟩

/-- PEN_LAST_WIPE (spec/02_what_never_leaves.md). -/
def R.PEN_LAST_WIPE : RegDef := { base := 0x40080028 }
/-- Field SPAN of PEN_LAST_WIPE. -/
def F.PEN_LAST_WIPE_SPAN : Fld := ⟨R.PEN_LAST_WIPE, 0, 32⟩

/-- GATE_CFG (spec/02_what_never_leaves.md). -/
def R.GATE_CFG : RegDef := { base := 0x40090000, kept := 0xFFFF0F01#32, sl := 0xFFFF0F01#32 }
/-- Field TRUST_GROUP of GATE_CFG. -/
def F.GATE_CFG_TRUST_GROUP : Fld := ⟨R.GATE_CFG, 16, 16⟩
/-- Field POLICY_OK of GATE_CFG. -/
def F.GATE_CFG_POLICY_OK : Fld := ⟨R.GATE_CFG, 15, 1⟩
/-- Field OUTPUTS of GATE_CFG. -/
def F.GATE_CFG_OUTPUTS : Fld := ⟨R.GATE_CFG, 8, 4⟩
/-- Field SOUND_EXPORT of GATE_CFG. -/
def F.GATE_CFG_SOUND_EXPORT : Fld := ⟨R.GATE_CFG, 0, 1⟩

/-- GATE_CEIL (spec/02_what_never_leaves.md). -/
def R.GATE_CEIL : RegDef := { base := 0x40090004, reset := 0x40000100#32, kept := 0x7FFF01FF#32 }
/-- Field BYTE_TOKENS of GATE_CEIL. -/
def F.GATE_CEIL_BYTE_TOKENS : Fld := ⟨R.GATE_CEIL, 16, 15⟩
/-- Field REC_TOKENS of GATE_CEIL. -/
def F.GATE_CEIL_REC_TOKENS : Fld := ⟨R.GATE_CEIL, 0, 9⟩

/-- GATE_DROPS0 (spec/02_what_never_leaves.md). -/
def R.GATE_DROPS0 : RegDef := { base := 0x40090008, rc := 0xFFFFFFFF#32 }
/-- Field FIELD of GATE_DROPS0. -/
def F.GATE_DROPS0_FIELD : Fld := ⟨R.GATE_DROPS0, 24, 8⟩
/-- Field TYPE of GATE_DROPS0. -/
def F.GATE_DROPS0_TYPE : Fld := ⟨R.GATE_DROPS0, 16, 8⟩
/-- Field TAINT of GATE_DROPS0. -/
def F.GATE_DROPS0_TAINT : Fld := ⟨R.GATE_DROPS0, 8, 8⟩
/-- Field PROV of GATE_DROPS0. -/
def F.GATE_DROPS0_PROV : Fld := ⟨R.GATE_DROPS0, 0, 8⟩

/-- GATE_DROPS1 (spec/02_what_never_leaves.md). -/
def R.GATE_DROPS1 : RegDef := { base := 0x4009000C, rc := 0xFFFFFF#32 }
/-- Field LINK of GATE_DROPS1. -/
def F.GATE_DROPS1_LINK : Fld := ⟨R.GATE_DROPS1, 16, 8⟩
/-- Field CEILING of GATE_DROPS1. -/
def F.GATE_DROPS1_CEILING : Fld := ⟨R.GATE_DROPS1, 8, 8⟩
/-- Field HEAD_RATE of GATE_DROPS1. -/
def F.GATE_DROPS1_HEAD_RATE : Fld := ⟨R.GATE_DROPS1, 0, 8⟩

/-- GATE_PASSED (spec/02_what_never_leaves.md). -/
def R.GATE_PASSED : RegDef := { base := 0x40090010, kept := 0xFFFFFFFF#32 }
/-- Field COUNT of GATE_PASSED. -/
def F.GATE_PASSED_COUNT : Fld := ⟨R.GATE_PASSED, 0, 32⟩

/-- GATE_FIRST_FAIL (spec/02_what_never_leaves.md). -/
def R.GATE_FIRST_FAIL : RegDef := { base := 0x40090014, w1c := 0x80000000#32 }
/-- Field VALID of GATE_FIRST_FAIL. -/
def F.GATE_FIRST_FAIL_VALID : Fld := ⟨R.GATE_FIRST_FAIL, 31, 1⟩
/-- Field TYPE of GATE_FIRST_FAIL. -/
def F.GATE_FIRST_FAIL_TYPE : Fld := ⟨R.GATE_FIRST_FAIL, 16, 8⟩
/-- Field EVENT of GATE_FIRST_FAIL. -/
def F.GATE_FIRST_FAIL_EVENT : Fld := ⟨R.GATE_FIRST_FAIL, 8, 8⟩
/-- Field HEAD_ID of GATE_FIRST_FAIL. -/
def F.GATE_FIRST_FAIL_HEAD_ID : Fld := ⟨R.GATE_FIRST_FAIL, 0, 8⟩

/-- GATE_HEADi_CFG (spec/02_what_never_leaves.md). -/
def R.GATE_HEADi_CFG : RegDef := { base := 0x40090100, stride := 0x10, count := 48, kept := 0x7FFFFFF#32, sl := 0x7FFFFFF#32 }
/-- Field ARMED of GATE_HEADi_CFG. -/
def F.GATE_HEADi_CFG_ARMED : Fld := ⟨R.GATE_HEADi_CFG, 31, 1⟩
/-- Field FLAGS of GATE_HEADi_CFG. -/
def F.GATE_HEADi_CFG_FLAGS : Fld := ⟨R.GATE_HEADi_CFG, 24, 3⟩
/-- Field BURST of GATE_HEADi_CFG. -/
def F.GATE_HEADi_CFG_BURST : Fld := ⟨R.GATE_HEADi_CFG, 16, 8⟩
/-- Field TYPES of GATE_HEADi_CFG. -/
def F.GATE_HEADi_CFG_TYPES : Fld := ⟨R.GATE_HEADi_CFG, 0, 16⟩

/-- GATE_HEADi_REFILL (spec/02_what_never_leaves.md). -/
def R.GATE_HEADi_REFILL : RegDef := { base := 0x40090104, stride := 0x10, count := 48, kept := 0xFFFFFFFF#32, sl := 0xFFFFFFFF#32 }
/-- Field REFILL of GATE_HEADi_REFILL. -/
def F.GATE_HEADi_REFILL_REFILL : Fld := ⟨R.GATE_HEADi_REFILL, 0, 32⟩

/-- GATE_HEADi_LIMITS (spec/02_what_never_leaves.md). -/
def R.GATE_HEADi_LIMITS : RegDef := { base := 0x40090108, stride := 0x10, count := 48, kept := 0xFFFFFF#32, sl := 0xFFFF#32 }
/-- Field TOKENS of GATE_HEADi_LIMITS. -/
def F.GATE_HEADi_LIMITS_TOKENS : Fld := ⟨R.GATE_HEADi_LIMITS, 16, 8⟩
/-- Field MAX_COUNT of GATE_HEADi_LIMITS. -/
def F.GATE_HEADi_LIMITS_MAX_COUNT : Fld := ⟨R.GATE_HEADi_LIMITS, 8, 8⟩
/-- Field MAX_CLASS of GATE_HEADi_LIMITS. -/
def F.GATE_HEADi_LIMITS_MAX_CLASS : Fld := ⟨R.GATE_HEADi_LIMITS, 0, 8⟩

/-- GATE_HEADi_SEQ (spec/02_what_never_leaves.md). -/
def R.GATE_HEADi_SEQ : RegDef := { base := 0x4009010C, stride := 0x10, count := 48, kept := 0xFFFF#32, rc := 0xFFFF0000#32 }
/-- Field DROPS of GATE_HEADi_SEQ. -/
def F.GATE_HEADi_SEQ_DROPS : Fld := ⟨R.GATE_HEADi_SEQ, 16, 16⟩
/-- Field NEXT_SEQ of GATE_HEADi_SEQ. -/
def F.GATE_HEADi_SEQ_NEXT_SEQ : Fld := ⟨R.GATE_HEADi_SEQ, 0, 16⟩

/-- STL_CFG (spec/10_stalls_and_rows.md). -/
def R.STL_CFG : RegDef := { base := 0x400A0000, reset := 0x400#32, kept := 0xFFFF#32, sl := 0xFFFF#32, sl3 := 0xFFFF#32 }
/-- Field WDOG_DEF of STL_CFG. -/
def F.STL_CFG_WDOG_DEF : Fld := ⟨R.STL_CFG, 0, 16⟩

/-- STL_RESERVED (spec/10_stalls_and_rows.md). -/
def R.STL_RESERVED : RegDef := { base := 0x400A0004, reset := 0x3000#32, kept := 0x7F7F#32, sl := 0x7F7F#32, sl3 := 0x7F7F#32 }
/-- Field DEFAULTED of STL_RESERVED. -/
def F.STL_RESERVED_DEFAULTED : Fld := ⟨R.STL_RESERVED, 31, 1⟩
/-- Field RES1 of STL_RESERVED. -/
def F.STL_RESERVED_RES1 : Fld := ⟨R.STL_RESERVED, 8, 7⟩
/-- Field RES0 of STL_RESERVED. -/
def F.STL_RESERVED_RES0 : Fld := ⟨R.STL_RESERVED, 0, 7⟩

/-- STL_FENCEDk (spec/10_stalls_and_rows.md). -/
def R.STL_FENCEDk : RegDef := { base := 0x400A0010, stride := 0x4, count := 3, kept := 0xFFFFFFFF#32 }
/-- Field FENCED of STL_FENCEDk. -/
def F.STL_FENCEDk_FENCED : Fld := ⟨R.STL_FENCEDk, 0, 32⟩

/-- STL_COUNTS (spec/10_stalls_and_rows.md). -/
def R.STL_COUNTS : RegDef := { base := 0x400A0020, rc := 0xFFFFFFFF#32 }
/-- Field REISSUES of STL_COUNTS. -/
def F.STL_COUNTS_REISSUES : Fld := ⟨R.STL_COUNTS, 16, 16⟩
/-- Field TILE_FAILS of STL_COUNTS. -/
def F.STL_COUNTS_TILE_FAILS : Fld := ⟨R.STL_COUNTS, 8, 8⟩
/-- Field REJECTS of STL_COUNTS. -/
def F.STL_COUNTS_REJECTS : Fld := ⟨R.STL_COUNTS, 0, 8⟩

/-- STL_GROUP (spec/10_stalls_and_rows.md). -/
def R.STL_GROUP : RegDef := { base := 0x400A0030 }
/-- Field QUORUM of STL_GROUP. -/
def F.STL_GROUP_QUORUM : Fld := ⟨R.STL_GROUP, 31, 1⟩
/-- Field MAP_OK of STL_GROUP. -/
def F.STL_GROUP_MAP_OK : Fld := ⟨R.STL_GROUP, 30, 1⟩
/-- Field LIVE of STL_GROUP. -/
def F.STL_GROUP_LIVE : Fld := ⟨R.STL_GROUP, 16, 7⟩
/-- Field LEADER of STL_GROUP. -/
def F.STL_GROUP_LEADER : Fld := ⟨R.STL_GROUP, 8, 6⟩
/-- Field CHIP_ID of STL_GROUP. -/
def F.STL_GROUP_CHIP_ID : Fld := ⟨R.STL_GROUP, 0, 6⟩

/-- STL_LIVEk (spec/10_stalls_and_rows.md). -/
def R.STL_LIVEk : RegDef := { base := 0x400A0034, stride := 0x4, count := 2 }
/-- Field LIVE of STL_LIVEk. -/
def F.STL_LIVEk_LIVE : Fld := ⟨R.STL_LIVEk, 0, 32⟩

/-- STL_STALLs_STATUS (spec/10_stalls_and_rows.md). -/
def R.STL_STALLs_STATUS : RegDef := { base := 0x400A0100, stride := 0x10, count := 96, kept := 0xF0000000#32, w1c := 0xFF0000#32 }
/-- Field FENCE_CAUSE of STL_STALLs_STATUS. -/
def F.STL_STALLs_STATUS_FENCE_CAUSE : Fld := ⟨R.STL_STALLs_STATUS, 28, 4⟩
/-- Field LAST_STATUS of STL_STALLs_STATUS. -/
def F.STL_STALLs_STATUS_LAST_STATUS : Fld := ⟨R.STL_STALLs_STATUS, 24, 4⟩
/-- Field DRIFT1 of STL_STALLs_STATUS. -/
def F.STL_STALLs_STATUS_DRIFT1 : Fld := ⟨R.STL_STALLs_STATUS, 16, 8⟩
/-- Field RESERVED of STL_STALLs_STATUS. -/
def F.STL_STALLs_STATUS_RESERVED : Fld := ⟨R.STL_STALLs_STATUS, 3, 1⟩
/-- Field STATE of STL_STALLs_STATUS. -/
def F.STL_STALLs_STATUS_STATE : Fld := ⟨R.STL_STALLs_STATUS, 0, 3⟩

/-- STL_STALLs_ECC (spec/10_stalls_and_rows.md). -/
def R.STL_STALLs_ECC : RegDef := { base := 0x400A0104, stride := 0x10, count := 96, rc := 0xFFFF0000#32 }
/-- Field CORRECTED of STL_STALLs_ECC. -/
def F.STL_STALLs_ECC_CORRECTED : Fld := ⟨R.STL_STALLs_ECC, 16, 16⟩
/-- Field LAST_WORD of STL_STALLs_ECC. -/
def F.STL_STALLs_ECC_LAST_WORD : Fld := ⟨R.STL_STALLs_ECC, 0, 14⟩

/-- ROWC_ROWr_STATUS (spec/10_stalls_and_rows.md). -/
def R.ROWC_ROWr_STATUS : RegDef := { base := 0x400B0000, stride := 0x10, count := 12, kept := 0xFF00#32 }
/-- Field BUSY of ROWC_ROWr_STATUS. -/
def F.ROWC_ROWr_STATUS_BUSY : Fld := ⟨R.ROWC_ROWr_STATUS, 16, 8⟩
/-- Field FENCED of ROWC_ROWr_STATUS. -/
def F.ROWC_ROWr_STATUS_FENCED : Fld := ⟨R.ROWC_ROWr_STATUS, 8, 8⟩
/-- Field LEVEL of ROWC_ROWr_STATUS. -/
def F.ROWC_ROWr_STATUS_LEVEL : Fld := ⟨R.ROWC_ROWr_STATUS, 0, 2⟩

/-- ROWC_ROWr_BP (spec/10_stalls_and_rows.md). -/
def R.ROWC_ROWr_BP : RegDef := { base := 0x400B0004, stride := 0x10, count := 12, rc := 0xFFFFFFFF#32 }
/-- Field RD_WAIT of ROWC_ROWr_BP. -/
def F.ROWC_ROWr_BP_RD_WAIT : Fld := ⟨R.ROWC_ROWr_BP, 16, 16⟩
/-- Field WR_WAIT of ROWC_ROWr_BP. -/
def F.ROWC_ROWr_BP_WR_WAIT : Fld := ⟨R.ROWC_ROWr_BP, 0, 16⟩

/-- NUM_ADAPT_CFG (spec/11_numbers_in_the_fabric.md). -/
def R.NUM_ADAPT_CFG : RegDef := { base := 0x400C0000, reset := 0x3B33#32, kept := 0xFFFF#32, sl := 0xFFFF#32, sl3 := 0xFFFF#32 }
/-- Field BETA of NUM_ADAPT_CFG. -/
def F.NUM_ADAPT_CFG_BETA : Fld := ⟨R.NUM_ADAPT_CFG, 0, 16⟩

/-- NUM_COUNTS (spec/11_numbers_in_the_fabric.md). -/
def R.NUM_COUNTS : RegDef := { base := 0x400C0004, rc := 0xFFFFFFFF#32 }
/-- Field NONFINITE of NUM_COUNTS. -/
def F.NUM_COUNTS_NONFINITE : Fld := ⟨R.NUM_COUNTS, 24, 8⟩
/-- Field OVERFLOW of NUM_COUNTS. -/
def F.NUM_COUNTS_OVERFLOW : Fld := ⟨R.NUM_COUNTS, 16, 8⟩
/-- Field SATURATED of NUM_COUNTS. -/
def F.NUM_COUNTS_SATURATED : Fld := ⟨R.NUM_COUNTS, 8, 8⟩
/-- Field LIMITS of NUM_COUNTS. -/
def F.NUM_COUNTS_LIMITS : Fld := ⟨R.NUM_COUNTS, 0, 8⟩

/-- NUM_SLOT_OKk (spec/11_numbers_in_the_fabric.md). -/
def R.NUM_SLOT_OKk : RegDef := { base := 0x400C0010, stride := 0x4, count := 2 }
/-- Field OK of NUM_SLOT_OKk. -/
def F.NUM_SLOT_OKk_OK : Fld := ⟨R.NUM_SLOT_OKk, 0, 32⟩

/-- NUM_SLOTi_CFG (spec/11_numbers_in_the_fabric.md). -/
def R.NUM_SLOTi_CFG : RegDef := { base := 0x400C0100, stride := 0x20, count := 64, reset := 0x107F01#32, kept := 0xEFFFFFFF#32, sl := 0xEFFFFFFF#32, sl3 := 0xEFFFFFFF#32 }
/-- Field LOG of NUM_SLOTi_CFG. -/
def F.NUM_SLOTi_CFG_LOG : Fld := ⟨R.NUM_SLOTi_CFG, 31, 1⟩
/-- Field ADAPT_EN of NUM_SLOTi_CFG. -/
def F.NUM_SLOTi_CFG_ADAPT_EN : Fld := ⟨R.NUM_SLOTi_CFG, 30, 1⟩
/-- Field RUNMAX of NUM_SLOTi_CFG. -/
def F.NUM_SLOTi_CFG_RUNMAX : Fld := ⟨R.NUM_SLOTi_CFG, 29, 1⟩
/-- Field K_M1 of NUM_SLOTi_CFG. -/
def F.NUM_SLOTi_CFG_K_M1 : Fld := ⟨R.NUM_SLOTi_CFG, 24, 4⟩
/-- Field N_LOW of NUM_SLOTi_CFG. -/
def F.NUM_SLOTi_CFG_N_LOW : Fld := ⟨R.NUM_SLOTi_CFG, 16, 8⟩
/-- Field QSPAN of NUM_SLOTi_CFG. -/
def F.NUM_SLOTi_CFG_QSPAN : Fld := ⟨R.NUM_SLOTi_CFG, 8, 8⟩
/-- Field TILES_PER_STEP of NUM_SLOTi_CFG. -/
def F.NUM_SLOTi_CFG_TILES_PER_STEP : Fld := ⟨R.NUM_SLOTi_CFG, 0, 8⟩

/-- NUM_SLOTi_BASE (spec/11_numbers_in_the_fabric.md). -/
def R.NUM_SLOTi_BASE : RegDef := { base := 0x400C0104, stride := 0x20, count := 64, reset := 0x3C003C00#32, kept := 0xFFFFFFFF#32, sl := 0xFFFFFFFF#32, sl3 := 0xFFFFFFFF#32 }
/-- Field HEADROOM of NUM_SLOTi_BASE. -/
def F.NUM_SLOTi_BASE_HEADROOM : Fld := ⟨R.NUM_SLOTi_BASE, 16, 16⟩
/-- Field SCALE of NUM_SLOTi_BASE. -/
def F.NUM_SLOTi_BASE_SCALE : Fld := ⟨R.NUM_SLOTi_BASE, 0, 16⟩

/-- NUM_SLOTi_CLIP (spec/11_numbers_in_the_fabric.md). -/
def R.NUM_SLOTi_CLIP : RegDef := { base := 0x400C0108, stride := 0x20, count := 64, reset := 0x1480021#32, kept := 0xFFFFFFFF#32, sl := 0xFFFFFFFF#32, sl3 := 0xFFFFFFFF#32 }
/-- Field CLIP_HI of NUM_SLOTi_CLIP. -/
def F.NUM_SLOTi_CLIP_CLIP_HI : Fld := ⟨R.NUM_SLOTi_CLIP, 16, 16⟩
/-- Field CLIP_LO of NUM_SLOTi_CLIP. -/
def F.NUM_SLOTi_CLIP_CLIP_LO : Fld := ⟨R.NUM_SLOTi_CLIP, 0, 16⟩

/-- NUM_SLOTi_EXP (spec/11_numbers_in_the_fabric.md). -/
def R.NUM_SLOTi_EXP : RegDef := { base := 0x400C010C, stride := 0x20, count := 64, reset := 0x818#32, kept := 0x1F1F#32, sl := 0x1F1F#32, sl3 := 0x1F1F#32 }
/-- Field E_MAX of NUM_SLOTi_EXP. -/
def F.NUM_SLOTi_EXP_E_MAX : Fld := ⟨R.NUM_SLOTi_EXP, 8, 5⟩
/-- Field E_MIN of NUM_SLOTi_EXP. -/
def F.NUM_SLOTi_EXP_E_MIN : Fld := ⟨R.NUM_SLOTi_EXP, 0, 5⟩

/-- NUM_SLOTi_STAT (spec/11_numbers_in_the_fabric.md). -/
def R.NUM_SLOTi_STAT : RegDef := { base := 0x400C0110, stride := 0x20, count := 64 }
/-- Field CLIP_SHARE of NUM_SLOTi_STAT. -/
def F.NUM_SLOTi_STAT_CLIP_SHARE : Fld := ⟨R.NUM_SLOTi_STAT, 16, 16⟩
/-- Field LOW_COUNT of NUM_SLOTi_STAT. -/
def F.NUM_SLOTi_STAT_LOW_COUNT : Fld := ⟨R.NUM_SLOTi_STAT, 8, 8⟩
/-- Field E of NUM_SLOTi_STAT. -/
def F.NUM_SLOTi_STAT_E : Fld := ⟨R.NUM_SLOTi_STAT, 0, 5⟩

/-- NUM_SLOTi_SCALE (spec/11_numbers_in_the_fabric.md). -/
def R.NUM_SLOTi_SCALE : RegDef := { base := 0x400C0114, stride := 0x20, count := 64 }
/-- Field S of NUM_SLOTi_SCALE. -/
def F.NUM_SLOTi_SCALE_S : Fld := ⟨R.NUM_SLOTi_SCALE, 0, 32⟩

/-- NUM_SLOTi_STEPS (spec/11_numbers_in_the_fabric.md). -/
def R.NUM_SLOTi_STEPS : RegDef := { base := 0x400C0118, stride := 0x20, count := 64 }
/-- Field STEPS of NUM_SLOTi_STEPS. -/
def F.NUM_SLOTi_STEPS_STEPS : Fld := ⟨R.NUM_SLOTi_STEPS, 0, 32⟩

/-- CIM_BUDGET (spec/12_weights_that_stay.md). -/
def R.CIM_BUDGET : RegDef := { base := 0x400D0000, reset := 0xA0186A0#32, kept := 0xFFFFFFFF#32, sl := 0xFFFFFFFF#32, sl3 := 0xFFFFFFFF#32 }
/-- Field RESERVE of CIM_BUDGET. -/
def F.CIM_BUDGET_RESERVE : Fld := ⟨R.CIM_BUDGET, 24, 8⟩
/-- Field ROW_MAX of CIM_BUDGET. -/
def F.CIM_BUDGET_ROW_MAX : Fld := ⟨R.CIM_BUDGET, 0, 24⟩

/-- CIM_CFG (spec/12_weights_that_stay.md). -/
def R.CIM_CFG : RegDef := { base := 0x400D0004, reset := 0x181001#32, kept := 0xFFFFFF0F#32, sl := 0xFFFFFF0F#32, sl3 := 0xFFFFFF0F#32 }
/-- Field COMMIT_INTERVAL_H of CIM_CFG. -/
def F.CIM_CFG_COMMIT_INTERVAL_H : Fld := ⟨R.CIM_CFG, 16, 16⟩
/-- Field SPREAD_MAX of CIM_CFG. -/
def F.CIM_CFG_SPREAD_MAX : Fld := ⟨R.CIM_CFG, 8, 8⟩
/-- Field RETRIES of CIM_CFG. -/
def F.CIM_CFG_RETRIES : Fld := ⟨R.CIM_CFG, 0, 4⟩

/-- CIM_CAL_CFG (spec/12_weights_that_stay.md). -/
def R.CIM_CAL_CFG : RegDef := { base := 0x400D0008, reset := 0xE10#32, kept := 0xFFFF#32, sl := 0xFFFF#32, sl3 := 0xFFFF#32 }
/-- Field PERIOD_S of CIM_CAL_CFG. -/
def F.CIM_CAL_CFG_PERIOD_S : Fld := ⟨R.CIM_CAL_CFG, 0, 16⟩

/-- CIM_STATUS (spec/12_weights_that_stay.md). -/
def R.CIM_STATUS : RegDef := { base := 0x400D000C }
/-- Field QUEUED of CIM_STATUS. -/
def F.CIM_STATUS_QUEUED : Fld := ⟨R.CIM_STATUS, 16, 7⟩
/-- Field ACTIVE of CIM_STATUS. -/
def F.CIM_STATUS_ACTIVE : Fld := ⟨R.CIM_STATUS, 8, 5⟩
/-- Field COMMIT_WAIT of CIM_STATUS. -/
def F.CIM_STATUS_COMMIT_WAIT : Fld := ⟨R.CIM_STATUS, 1, 1⟩
/-- Field COMMIT of CIM_STATUS. -/
def F.CIM_STATUS_COMMIT : Fld := ⟨R.CIM_STATUS, 0, 1⟩

/-- CIM_COUNTS (spec/12_weights_that_stay.md). -/
def R.CIM_COUNTS : RegDef := { base := 0x400D0010, rc := 0xFFFFFFFF#32 }
/-- Field CAL_REJECTS of CIM_COUNTS. -/
def F.CIM_COUNTS_CAL_REJECTS : Fld := ⟨R.CIM_COUNTS, 24, 8⟩
/-- Field REFUSED of CIM_COUNTS. -/
def F.CIM_COUNTS_REFUSED : Fld := ⟨R.CIM_COUNTS, 16, 8⟩
/-- Field RETRIES of CIM_COUNTS. -/
def F.CIM_COUNTS_RETRIES : Fld := ⟨R.CIM_COUNTS, 8, 8⟩
/-- Field COMMITS of CIM_COUNTS. -/
def F.CIM_COUNTS_COMMITS : Fld := ⟨R.CIM_COUNTS, 0, 8⟩

/-- CIM_STALLs_STATE (spec/12_weights_that_stay.md). -/
def R.CIM_STALLs_STATE : RegDef := { base := 0x400D0100, stride := 0x10, count := 96, reset := 0xFFFF0000#32, kept := 0xFFFFFB00#32 }
/-- Field WSET of CIM_STALLs_STATE. -/
def F.CIM_STALLs_STATE_WSET : Fld := ⟨R.CIM_STALLs_STATE, 16, 16⟩
/-- Field VALID of CIM_STALLs_STATE. -/
def F.CIM_STALLs_STATE_VALID : Fld := ⟨R.CIM_STALLs_STATE, 15, 1⟩
/-- Field ADAPTED of CIM_STALLs_STATE. -/
def F.CIM_STALLs_STATE_ADAPTED : Fld := ⟨R.CIM_STALLs_STATE, 14, 1⟩
/-- Field TAINT_P of CIM_STALLs_STATE. -/
def F.CIM_STALLs_STATE_TAINT_P : Fld := ⟨R.CIM_STALLs_STATE, 13, 1⟩
/-- Field TAINT_S of CIM_STALLs_STATE. -/
def F.CIM_STALLs_STATE_TAINT_S : Fld := ⟨R.CIM_STALLs_STATE, 12, 1⟩
/-- Field UNVERIFIED of CIM_STALLs_STATE. -/
def F.CIM_STALLs_STATE_UNVERIFIED : Fld := ⟨R.CIM_STALLs_STATE, 11, 1⟩
/-- Field PROGRAMMING of CIM_STALLs_STATE. -/
def F.CIM_STALLs_STATE_PROGRAMMING : Fld := ⟨R.CIM_STALLs_STATE, 10, 1⟩
/-- Field OFFSET_SOURCE of CIM_STALLs_STATE. -/
def F.CIM_STALLs_STATE_OFFSET_SOURCE : Fld := ⟨R.CIM_STALLs_STATE, 8, 2⟩
/-- Field CAL_STATE of CIM_STALLs_STATE. -/
def F.CIM_STALLs_STATE_CAL_STATE : Fld := ⟨R.CIM_STALLs_STATE, 5, 3⟩

/-- CIM_STALLs_CYCLES (spec/12_weights_that_stay.md). -/
def R.CIM_STALLs_CYCLES : RegDef := { base := 0x400D0104, stride := 0x10, count := 96, kept := 0xFFFFFFFF#32 }
/-- Field CYCLES of CIM_STALLs_CYCLES. -/
def F.CIM_STALLs_CYCLES_CYCLES : Fld := ⟨R.CIM_STALLs_CYCLES, 0, 32⟩

/-- CIM_STALLs_WEAR (spec/12_weights_that_stay.md). -/
def R.CIM_STALLs_WEAR : RegDef := { base := 0x400D0108, stride := 0x10, count := 96, kept := 0xFFFFFFFF#32 }
/-- Field MAX_ROW of CIM_STALLs_WEAR. -/
def F.CIM_STALLs_WEAR_MAX_ROW : Fld := ⟨R.CIM_STALLs_WEAR, 0, 32⟩

/-- CIM_STALLs_COMMIT (spec/12_weights_that_stay.md). -/
def R.CIM_STALLs_COMMIT : RegDef := { base := 0x400D010C, stride := 0x10, count := 96, kept := 0xFFFF0000#32 }
/-- Field COMMITS of CIM_STALLs_COMMIT. -/
def F.CIM_STALLs_COMMIT_COMMITS : Fld := ⟨R.CIM_STALLs_COMMIT, 16, 16⟩

/-- BRN_CFG (spec/13_light_barn.md). -/
def R.BRN_CFG : RegDef := { base := 0x400E0000, reset := 0x1E1E6401#32, kept := 0xFFFFFF01#32, sl := 0xFFFFFF01#32, sl3 := 0xFFFFFF01#32 }
/-- Field LOSS_DB of BRN_CFG. -/
def F.BRN_CFG_LOSS_DB : Fld := ⟨R.BRN_CFG, 24, 8⟩
/-- Field BLANK_DB of BRN_CFG. -/
def F.BRN_CFG_BLANK_DB : Fld := ⟨R.BRN_CFG, 16, 8⟩
/-- Field HINT_MS of BRN_CFG. -/
def F.BRN_CFG_HINT_MS : Fld := ⟨R.BRN_CFG, 8, 8⟩
/-- Field ROT_EN of BRN_CFG. -/
def F.BRN_CFG_ROT_EN : Fld := ⟨R.BRN_CFG, 0, 1⟩

/-- BRN_ROT_CFG (spec/13_light_barn.md). -/
def R.BRN_ROT_CFG : RegDef := { base := 0x400E0004, reset := 0x1F4000#32, kept := 0xFFFFFFFF#32, sl := 0xFFFFFFFF#32, sl3 := 0xFFFFFFFF#32 }
/-- Field ROT_PERIOD of BRN_ROT_CFG. -/
def F.BRN_ROT_CFG_ROT_PERIOD : Fld := ⟨R.BRN_ROT_CFG, 0, 32⟩

/-- BRN_LOCK_CFG (spec/13_light_barn.md). -/
def R.BRN_LOCK_CFG : RegDef := { base := 0x400E0008, reset := 0x2008#32, kept := 0xFFFF#32, sl := 0xFFFF#32, sl3 := 0xFFFF#32 }
/-- Field UNLOCK_TOL of BRN_LOCK_CFG. -/
def F.BRN_LOCK_CFG_UNLOCK_TOL : Fld := ⟨R.BRN_LOCK_CFG, 8, 8⟩
/-- Field LOCK_TOL of BRN_LOCK_CFG. -/
def F.BRN_LOCK_CFG_LOCK_TOL : Fld := ⟨R.BRN_LOCK_CFG, 0, 8⟩

/-- BRN_STATUS (spec/13_light_barn.md). -/
def R.BRN_STATUS : RegDef := { base := 0x400E000C }
/-- Field BAYS_OUT of BRN_STATUS. -/
def F.BRN_STATUS_BAYS_OUT : Fld := ⟨R.BRN_STATUS, 20, 4⟩
/-- Field ROT_FIXED of BRN_STATUS. -/
def F.BRN_STATUS_ROT_FIXED : Fld := ⟨R.BRN_STATUS, 16, 4⟩
/-- Field STEPPING of BRN_STATUS. -/
def F.BRN_STATUS_STEPPING : Fld := ⟨R.BRN_STATUS, 12, 4⟩
/-- Field MAPS_VALID of BRN_STATUS. -/
def F.BRN_STATUS_MAPS_VALID : Fld := ⟨R.BRN_STATUS, 8, 1⟩
/-- Field SETPOINTS of BRN_STATUS. -/
def F.BRN_STATUS_SETPOINTS : Fld := ⟨R.BRN_STATUS, 7, 1⟩
/-- Field COMB_LOCKED of BRN_STATUS. -/
def F.BRN_STATUS_COMB_LOCKED : Fld := ⟨R.BRN_STATUS, 6, 1⟩
/-- Field STATE of BRN_STATUS. -/
def F.BRN_STATUS_STATE : Fld := ⟨R.BRN_STATUS, 0, 3⟩

/-- BRN_CHAN_OUT (spec/13_light_barn.md). -/
def R.BRN_CHAN_OUT : RegDef := { base := 0x400E0010, reset := 0x1F1F1F1F#32 }
/-- Field OUT of BRN_CHAN_OUT. -/
def F.BRN_CHAN_OUT_OUT : Fld := ⟨R.BRN_CHAN_OUT, 0, 32⟩

/-- BRN_COMB_MASK (spec/13_light_barn.md). -/
def R.BRN_COMB_MASK : RegDef := { base := 0x400E0014 }
/-- Field LOST of BRN_COMB_MASK. -/
def F.BRN_COMB_MASK_LOST : Fld := ⟨R.BRN_COMB_MASK, 0, 32⟩

/-- BRN_LOSS (spec/13_light_barn.md). -/
def R.BRN_LOSS : RegDef := { base := 0x400E0018, w1c := 0x80000000#32 }
/-- Field VALID of BRN_LOSS. -/
def F.BRN_LOSS_VALID : Fld := ⟨R.BRN_LOSS, 31, 1⟩
/-- Field STAGE of BRN_LOSS. -/
def F.BRN_LOSS_STAGE : Fld := ⟨R.BRN_LOSS, 16, 3⟩
/-- Field BAY of BRN_LOSS. -/
def F.BRN_LOSS_BAY : Fld := ⟨R.BRN_LOSS, 14, 2⟩
/-- Field ELEMENT of BRN_LOSS. -/
def F.BRN_LOSS_ELEMENT : Fld := ⟨R.BRN_LOSS, 0, 13⟩

/-- BRN_COUNTS (spec/13_light_barn.md). -/
def R.BRN_COUNTS : RegDef := { base := 0x400E001C, rc := 0xFFFFFFFF#32 }
/-- Field STEPS of BRN_COUNTS. -/
def F.BRN_COUNTS_STEPS : Fld := ⟨R.BRN_COUNTS, 16, 16⟩
/-- Field UNLOCKS of BRN_COUNTS. -/
def F.BRN_COUNTS_UNLOCKS : Fld := ⟨R.BRN_COUNTS, 8, 8⟩
/-- Field NO_BAY of BRN_COUNTS. -/
def F.BRN_COUNTS_NO_BAY : Fld := ⟨R.BRN_COUNTS, 0, 8⟩

/-- BRN_BAYb_STATUS (spec/13_light_barn.md). -/
def R.BRN_BAYb_STATUS : RegDef := { base := 0x400E0100, stride := 0x10, count := 4, reset := 0xFFFF0000#32 }
/-- Field MAP of BRN_BAYb_STATUS. -/
def F.BRN_BAYb_STATUS_MAP : Fld := ⟨R.BRN_BAYb_STATUS, 16, 16⟩
/-- Field LAST_STEP of BRN_BAYb_STATUS. -/
def F.BRN_BAYb_STATUS_LAST_STEP : Fld := ⟨R.BRN_BAYb_STATUS, 9, 3⟩
/-- Field STATE of BRN_BAYb_STATUS. -/
def F.BRN_BAYb_STATUS_STATE : Fld := ⟨R.BRN_BAYb_STATUS, 0, 3⟩

/-- BRN_BAYb_COLMASK (spec/13_light_barn.md). -/
def R.BRN_BAYb_COLMASK : RegDef := { base := 0x400E0104, stride := 0x10, count := 4 }
/-- Field MASK of BRN_BAYb_COLMASK. -/
def F.BRN_BAYb_COLMASK_MASK : Fld := ⟨R.BRN_BAYb_COLMASK, 0, 32⟩

/-- BRN_BAYb_COUNTS (spec/13_light_barn.md). -/
def R.BRN_BAYb_COUNTS : RegDef := { base := 0x400E0108, stride := 0x10, count := 4, rc := 0xFFFFFFFF#32 }
/-- Field DARK_REJECTS of BRN_BAYb_COUNTS. -/
def F.BRN_BAYb_COUNTS_DARK_REJECTS : Fld := ⟨R.BRN_BAYb_COUNTS, 24, 8⟩
/-- Field SWEEP_REJECTS of BRN_BAYb_COUNTS. -/
def F.BRN_BAYb_COUNTS_SWEEP_REJECTS : Fld := ⟨R.BRN_BAYb_COUNTS, 16, 8⟩
/-- Field TILES of BRN_BAYb_COUNTS. -/
def F.BRN_BAYb_COUNTS_TILES : Fld := ⟨R.BRN_BAYb_COUNTS, 0, 16⟩

/-- BRN_BAYb_MAPw (spec/13_light_barn.md). -/
def R.BRN_BAYb_MAPw : RegDef := { base := 0x400E0200, stride := 0x4, count := 32, reset := 0x3020100#32 }
/-- Field LINES of BRN_BAYb_MAPw. -/
def F.BRN_BAYb_MAPw_LINES : Fld := ⟨R.BRN_BAYb_MAPw, 0, 32⟩

/-- RNG_DOORBELL (spec/14_rings_tallies_and_the_mover.md). -/
def R.RNG_DOORBELL : RegDef := { base := 0x400F0000, wo := 0x7FFFFFF#32 }
/-- Field RING of RNG_DOORBELL. -/
def F.RNG_DOORBELL_RING : Fld := ⟨R.RNG_DOORBELL, 16, 11⟩
/-- Field COUNT of RNG_DOORBELL. -/
def F.RNG_DOORBELL_COUNT : Fld := ⟨R.RNG_DOORBELL, 0, 16⟩

/-- RNG_STATUS (spec/14_rings_tallies_and_the_mover.md). -/
def R.RNG_STATUS : RegDef := { base := 0x400F0004 }
/-- Field SECTION_OK of RNG_STATUS. -/
def F.RNG_STATUS_SECTION_OK : Fld := ⟨R.RNG_STATUS, 31, 1⟩
/-- Field ARMED of RNG_STATUS. -/
def F.RNG_STATUS_ARMED : Fld := ⟨R.RNG_STATUS, 0, 12⟩

/-- RNG_COUNTS (spec/14_rings_tallies_and_the_mover.md). -/
def R.RNG_COUNTS : RegDef := { base := 0x400F0008, rc := 0xFFFF0000#32 }
/-- Field REJECTS of RNG_COUNTS. -/
def F.RNG_COUNTS_REJECTS : Fld := ⟨R.RNG_COUNTS, 24, 8⟩
/-- Field INVALID of RNG_COUNTS. -/
def F.RNG_COUNTS_INVALID : Fld := ⟨R.RNG_COUNTS, 16, 8⟩

/-- RNG_RINGi_CFG (spec/14_rings_tallies_and_the_mover.md). -/
def R.RNG_RINGi_CFG : RegDef := { base := 0x400F8000, stride := 0x10, count := 2048, reset := 0x4#32, kept := 0xFFB1F#32, sl := 0xFFB1F#32 }
/-- Field ARMED of RNG_RINGi_CFG. -/
def F.RNG_RINGi_CFG_ARMED : Fld := ⟨R.RNG_RINGi_CFG, 31, 1⟩
/-- Field CHANNEL of RNG_RINGi_CFG. -/
def F.RNG_RINGi_CFG_CHANNEL : Fld := ⟨R.RNG_RINGi_CFG, 16, 4⟩
/-- Field REPEAT of RNG_RINGi_CFG. -/
def F.RNG_RINGi_CFG_REPEAT : Fld := ⟨R.RNG_RINGi_CFG, 15, 1⟩
/-- Field PEN_GRANT of RNG_RINGi_CFG. -/
def F.RNG_RINGi_CFG_PEN_GRANT : Fld := ⟨R.RNG_RINGi_CFG, 14, 1⟩
/-- Field OWNER of RNG_RINGi_CFG. -/
def F.RNG_RINGi_CFG_OWNER : Fld := ⟨R.RNG_RINGi_CFG, 12, 2⟩
/-- Field KIND of RNG_RINGi_CFG. -/
def F.RNG_RINGi_CFG_KIND : Fld := ⟨R.RNG_RINGi_CFG, 11, 1⟩
/-- Field CLASS of RNG_RINGi_CFG. -/
def F.RNG_RINGi_CFG_CLASS : Fld := ⟨R.RNG_RINGi_CFG, 8, 2⟩
/-- Field LOG2_SIZE of RNG_RINGi_CFG. -/
def F.RNG_RINGi_CFG_LOG2_SIZE : Fld := ⟨R.RNG_RINGi_CFG, 0, 5⟩

/-- RNG_RINGi_BASE (spec/14_rings_tallies_and_the_mover.md). -/
def R.RNG_RINGi_BASE : RegDef := { base := 0x400F8004, stride := 0x10, count := 2048, kept := 0xFFFFFFFF#32, sl := 0xFFFFFFFF#32 }
/-- Field BASE of RNG_RINGi_BASE. -/
def F.RNG_RINGi_BASE_BASE : Fld := ⟨R.RNG_RINGi_BASE, 0, 32⟩

/-- RNG_RINGi_PI (spec/14_rings_tallies_and_the_mover.md). -/
def R.RNG_RINGi_PI : RegDef := { base := 0x400F8008, stride := 0x10, count := 2048 }
/-- Field PI of RNG_RINGi_PI. -/
def F.RNG_RINGi_PI_PI : Fld := ⟨R.RNG_RINGi_PI, 0, 17⟩

/-- RNG_RINGi_DI (spec/14_rings_tallies_and_the_mover.md). -/
def R.RNG_RINGi_DI : RegDef := { base := 0x400F800C, stride := 0x10, count := 2048 }
/-- Field ISSUED of RNG_RINGi_DI. -/
def F.RNG_RINGi_DI_ISSUED : Fld := ⟨R.RNG_RINGi_DI, 17, 15⟩
/-- Field DI of RNG_RINGi_DI. -/
def F.RNG_RINGi_DI_DI : Fld := ⟨R.RNG_RINGi_DI, 0, 17⟩

/-- TLY_OP (spec/14_rings_tallies_and_the_mover.md). -/
def R.TLY_OP : RegDef := { base := 0x40100000, wo := 0xC0000FFF#32 }
/-- Field OP of TLY_OP. -/
def F.TLY_OP_OP : Fld := ⟨R.TLY_OP, 30, 2⟩
/-- Field TALLY of TLY_OP. -/
def F.TLY_OP_TALLY : Fld := ⟨R.TLY_OP, 0, 12⟩

/-- TLY_VALUE (spec/14_rings_tallies_and_the_mover.md). -/
def R.TLY_VALUE : RegDef := { base := 0x40100004, rw := 0xFFFFFFFF#32 }
/-- Field VALUE of TLY_VALUE. -/
def F.TLY_VALUE_VALUE : Fld := ⟨R.TLY_VALUE, 0, 32⟩

/-- TLY_STATUS (spec/14_rings_tallies_and_the_mover.md). -/
def R.TLY_STATUS : RegDef := { base := 0x40100008, rc := 0x3FFF0000#32 }
/-- Field PEAK of TLY_STATUS. -/
def F.TLY_STATUS_PEAK : Fld := ⟨R.TLY_STATUS, 16, 14⟩
/-- Field WAITERS of TLY_STATUS. -/
def F.TLY_STATUS_WAITERS : Fld := ⟨R.TLY_STATUS, 0, 14⟩

/-- TLY_COUNTS (spec/14_rings_tallies_and_the_mover.md). -/
def R.TLY_COUNTS : RegDef := { base := 0x4010000C, rc := 0xFFFFFFFF#32 }
/-- Field BUSY of TLY_COUNTS. -/
def F.TLY_COUNTS_BUSY : Fld := ⟨R.TLY_COUNTS, 16, 16⟩
/-- Field SATURATED of TLY_COUNTS. -/
def F.TLY_COUNTS_SATURATED : Fld := ⟨R.TLY_COUNTS, 0, 16⟩

/-- TLY_TALLYt (spec/14_rings_tallies_and_the_mover.md). -/
def R.TLY_TALLYt : RegDef := { base := 0x40104000, stride := 0x4, count := 4096 }
/-- Field VALUE of TLY_TALLYt. -/
def F.TLY_TALLYt_VALUE : Fld := ⟨R.TLY_TALLYt, 0, 32⟩

/-- DSP_CFG (spec/14_rings_tallies_and_the_mover.md). -/
def R.DSP_CFG : RegDef := { base := 0x40110000, reset := 0x40201#32, kept := 0xFFFFFF#32, sl := 0xFFFFFF#32, sl3 := 0xFFFFFF#32 }
/-- Field W1 of DSP_CFG. -/
def F.DSP_CFG_W1 : Fld := ⟨R.DSP_CFG, 16, 8⟩
/-- Field W2 of DSP_CFG. -/
def F.DSP_CFG_W2 : Fld := ⟨R.DSP_CFG, 8, 8⟩
/-- Field W3 of DSP_CFG. -/
def F.DSP_CFG_W3 : Fld := ⟨R.DSP_CFG, 0, 8⟩

/-- DSP_C0_CFG (spec/14_rings_tallies_and_the_mover.md). -/
def R.DSP_C0_CFG : RegDef := { base := 0x40110004, reset := 0x40204#32, kept := 0xFFFFFF0F#32, sl := 0xFFFFFF0F#32, sl3 := 0xFFFFFF0F#32 }
/-- Field C0_REFILL of DSP_C0_CFG. -/
def F.DSP_C0_CFG_C0_REFILL : Fld := ⟨R.DSP_C0_CFG, 16, 16⟩
/-- Field C0_RUN_MAX of DSP_C0_CFG. -/
def F.DSP_C0_CFG_C0_RUN_MAX : Fld := ⟨R.DSP_C0_CFG, 8, 8⟩
/-- Field C0_BURST of DSP_C0_CFG. -/
def F.DSP_C0_CFG_C0_BURST : Fld := ⟨R.DSP_C0_CFG, 0, 4⟩

/-- DSP_STATUS (spec/14_rings_tallies_and_the_mover.md). -/
def R.DSP_STATUS : RegDef := { base := 0x40110008 }
/-- Field C0_UNBOUNDED of DSP_STATUS. -/
def F.DSP_STATUS_C0_UNBOUNDED : Fld := ⟨R.DSP_STATUS, 31, 1⟩
/-- Field C0_TOKENS of DSP_STATUS. -/
def F.DSP_STATUS_C0_TOKENS : Fld := ⟨R.DSP_STATUS, 24, 4⟩
/-- Field TAGS of DSP_STATUS. -/
def F.DSP_STATUS_TAGS : Fld := ⟨R.DSP_STATUS, 12, 12⟩
/-- Field C0_TAGS of DSP_STATUS. -/
def F.DSP_STATUS_C0_TAGS : Fld := ⟨R.DSP_STATUS, 0, 10⟩

/-- DSP_COUNTS (spec/14_rings_tallies_and_the_mover.md). -/
def R.DSP_COUNTS : RegDef := { base := 0x4011000C, rc := 0xFFFFFFFF#32 }
/-- Field CUTS of DSP_COUNTS. -/
def F.DSP_COUNTS_CUTS : Fld := ⟨R.DSP_COUNTS, 16, 16⟩
/-- Field RUN_OVER of DSP_COUNTS. -/
def F.DSP_COUNTS_RUN_OVER : Fld := ⟨R.DSP_COUNTS, 8, 8⟩
/-- Field OVER_BUDGET of DSP_COUNTS. -/
def F.DSP_COUNTS_OVER_BUDGET : Fld := ⟨R.DSP_COUNTS, 0, 8⟩

/-- DSP_C0_LAT (spec/14_rings_tallies_and_the_mover.md). -/
def R.DSP_C0_LAT : RegDef := { base := 0x40110010, rc := 0xFFFFFFFF#32 }
/-- Field MAX of DSP_C0_LAT. -/
def F.DSP_C0_LAT_MAX : Fld := ⟨R.DSP_C0_LAT, 0, 32⟩

/-- MOV_STATUS (spec/14_rings_tallies_and_the_mover.md). -/
def R.MOV_STATUS : RegDef := { base := 0x40120000 }
/-- Field BUSY of MOV_STATUS. -/
def F.MOV_STATUS_BUSY : Fld := ⟨R.MOV_STATUS, 16, 16⟩
/-- Field ACTIVE of MOV_STATUS. -/
def F.MOV_STATUS_ACTIVE : Fld := ⟨R.MOV_STATUS, 0, 7⟩

/-- MOV_COUNTS (spec/14_rings_tallies_and_the_mover.md). -/
def R.MOV_COUNTS : RegDef := { base := 0x40120004, rc := 0xFFFFFFFF#32 }
/-- Field DONE of MOV_COUNTS. -/
def F.MOV_COUNTS_DONE : Fld := ⟨R.MOV_COUNTS, 16, 16⟩
/-- Field FAULTS of MOV_COUNTS. -/
def F.MOV_COUNTS_FAULTS : Fld := ⟨R.MOV_COUNTS, 8, 8⟩
/-- Field ALIAS of MOV_COUNTS. -/
def F.MOV_COUNTS_ALIAS : Fld := ⟨R.MOV_COUNTS, 0, 8⟩

/-- MOV_FIRST_ERR (spec/14_rings_tallies_and_the_mover.md). -/
def R.MOV_FIRST_ERR : RegDef := { base := 0x40120008, w1c := 0x80000000#32 }
/-- Field VALID of MOV_FIRST_ERR. -/
def F.MOV_FIRST_ERR_VALID : Fld := ⟨R.MOV_FIRST_ERR, 31, 1⟩
/-- Field STATUS of MOV_FIRST_ERR. -/
def F.MOV_FIRST_ERR_STATUS : Fld := ⟨R.MOV_FIRST_ERR, 16, 8⟩
/-- Field RING of MOV_FIRST_ERR. -/
def F.MOV_FIRST_ERR_RING : Fld := ⟨R.MOV_FIRST_ERR, 0, 11⟩

/-- MOV_CHc_STATUS (spec/14_rings_tallies_and_the_mover.md). -/
def R.MOV_CHc_STATUS : RegDef := { base := 0x40120100, stride := 0x4, count := 16 }
/-- Field QUEUED of MOV_CHc_STATUS. -/
def F.MOV_CHc_STATUS_QUEUED : Fld := ⟨R.MOV_CHc_STATUS, 0, 7⟩

/-- PCI_CFG (spec/15_host_ports_and_geger_link.md). -/
def R.PCI_CFG : RegDef := { base := 0x40130000, kept := 0xFFF#32, sl := 0xFFF#32, sl3 := 0xFFF#32 }
/-- Field WIN_BASE of PCI_CFG. -/
def F.PCI_CFG_WIN_BASE : Fld := ⟨R.PCI_CFG, 0, 12⟩

/-- PCI_SMALL_CFG (spec/15_host_ports_and_geger_link.md). -/
def R.PCI_SMALL_CFG : RegDef := { base := 0x40130004, reset := 0x21557460#32, kept := 0xFFFFFFE0#32, sl := 0xFFFFFFE0#32, sl3 := 0xFFFFFFE0#32 }
/-- Field UART_DIV of PCI_SMALL_CFG. -/
def F.PCI_SMALL_CFG_UART_DIV : Fld := ⟨R.PCI_SMALL_CFG, 16, 16⟩
/-- Field I2C_ADDR of PCI_SMALL_CFG. -/
def F.PCI_SMALL_CFG_I2C_ADDR : Fld := ⟨R.PCI_SMALL_CFG, 9, 7⟩
/-- Field UART_CTS_EN of PCI_SMALL_CFG. -/
def F.PCI_SMALL_CFG_UART_CTS_EN : Fld := ⟨R.PCI_SMALL_CFG, 8, 1⟩
/-- Field WAKE_ON_RECORD of PCI_SMALL_CFG. -/
def F.PCI_SMALL_CFG_WAKE_ON_RECORD : Fld := ⟨R.PCI_SMALL_CFG, 7, 1⟩
/-- Field IRQ_MASK of PCI_SMALL_CFG. -/
def F.PCI_SMALL_CFG_IRQ_MASK : Fld := ⟨R.PCI_SMALL_CFG, 5, 2⟩

/-- PCI_STATUS (spec/15_host_ports_and_geger_link.md). -/
def R.PCI_STATUS : RegDef := { base := 0x40130008 }
/-- Field DSTATE of PCI_STATUS. -/
def F.PCI_STATUS_DSTATE : Fld := ⟨R.PCI_STATUS, 10, 2⟩
/-- Field ASPM of PCI_STATUS. -/
def F.PCI_STATUS_ASPM : Fld := ⟨R.PCI_STATUS, 8, 2⟩
/-- Field WIDTH of PCI_STATUS. -/
def F.PCI_STATUS_WIDTH : Fld := ⟨R.PCI_STATUS, 4, 4⟩
/-- Field GEN of PCI_STATUS. -/
def F.PCI_STATUS_GEN : Fld := ⟨R.PCI_STATUS, 1, 3⟩
/-- Field UP of PCI_STATUS. -/
def F.PCI_STATUS_UP : Fld := ⟨R.PCI_STATUS, 0, 1⟩

/-- PCI_REC (spec/15_host_ports_and_geger_link.md). -/
def R.PCI_REC : RegDef := { base := 0x4013000C, kept := 0xFFF00000#32 }
/-- Field W of PCI_REC. -/
def F.PCI_REC_W : Fld := ⟨R.PCI_REC, 24, 8⟩
/-- Field ATTACHED of PCI_REC. -/
def F.PCI_REC_ATTACHED : Fld := ⟨R.PCI_REC, 20, 4⟩

/-- PCI_RECo_INDEX (spec/15_host_ports_and_geger_link.md). -/
def R.PCI_RECo_INDEX : RegDef := { base := 0x40130010, stride := 0x4, count := 4, kept := 0xFF#32 }
/-- Field INDEX of PCI_RECo_INDEX. -/
def F.PCI_RECo_INDEX_INDEX : Fld := ⟨R.PCI_RECo_INDEX, 0, 8⟩

/-- PCI_COUNTS (spec/15_host_ports_and_geger_link.md). -/
def R.PCI_COUNTS : RegDef := { base := 0x40130020, rc := 0xFFFFFFFF#32 }
/-- Field DELIVERED of PCI_COUNTS. -/
def F.PCI_COUNTS_DELIVERED : Fld := ⟨R.PCI_COUNTS, 16, 16⟩
/-- Field MB_ERRORS of PCI_COUNTS. -/
def F.PCI_COUNTS_MB_ERRORS : Fld := ⟨R.PCI_COUNTS, 8, 8⟩
/-- Field DETACHES of PCI_COUNTS. -/
def F.PCI_COUNTS_DETACHES : Fld := ⟨R.PCI_COUNTS, 0, 8⟩

/-- PCI_DETACH (spec/15_host_ports_and_geger_link.md). -/
def R.PCI_DETACH : RegDef := { base := 0x40130024, reset := 0xA#32, kept := 0xFF#32, sl := 0xFF#32, sl3 := 0xFF#32 }
/-- Field DETACH_S of PCI_DETACH. -/
def F.PCI_DETACH_DETACH_S : Fld := ⟨R.PCI_DETACH, 0, 8⟩

/-- LNK_CFG (spec/15_host_ports_and_geger_link.md). -/
def R.LNK_CFG : RegDef := { base := 0x40140000, kept := 0xFFFFFF07#32, sl := 0xFFFFFF07#32, sl3 := 0xFFFFFF07#32 }
/-- Field IMPORT_PLOT of LNK_CFG. -/
def F.LNK_CFG_IMPORT_PLOT : Fld := ⟨R.LNK_CFG, 20, 12⟩
/-- Field IMPORT_PLOTS of LNK_CFG. -/
def F.LNK_CFG_IMPORT_PLOTS : Fld := ⟨R.LNK_CFG, 8, 12⟩
/-- Field TOPO of LNK_CFG. -/
def F.LNK_CFG_TOPO : Fld := ⟨R.LNK_CFG, 2, 1⟩
/-- Field PORT_EN of LNK_CFG. -/
def F.LNK_CFG_PORT_EN : Fld := ⟨R.LNK_CFG, 0, 2⟩

/-- LNK_PORTp_STATUS (spec/15_host_ports_and_geger_link.md). -/
def R.LNK_PORTp_STATUS : RegDef := { base := 0x40140010, stride := 0x4, count := 2 }
/-- Field OUTSTANDING of LNK_PORTp_STATUS. -/
def F.LNK_PORTp_STATUS_OUTSTANDING : Fld := ⟨R.LNK_PORTp_STATUS, 16, 16⟩
/-- Field LOCKED of LNK_PORTp_STATUS. -/
def F.LNK_PORTp_STATUS_LOCKED : Fld := ⟨R.LNK_PORTp_STATUS, 4, 4⟩
/-- Field WIDTH of LNK_PORTp_STATUS. -/
def F.LNK_PORTp_STATUS_WIDTH : Fld := ⟨R.LNK_PORTp_STATUS, 1, 3⟩
/-- Field UP of LNK_PORTp_STATUS. -/
def F.LNK_PORTp_STATUS_UP : Fld := ⟨R.LNK_PORTp_STATUS, 0, 1⟩

/-- LNK_COUNTS (spec/15_host_ports_and_geger_link.md). -/
def R.LNK_COUNTS : RegDef := { base := 0x40140020, rc := 0xFFFFFFFF#32 }
/-- Field RESENDS of LNK_COUNTS. -/
def F.LNK_COUNTS_RESENDS : Fld := ⟨R.LNK_COUNTS, 16, 16⟩
/-- Field AUTH_FAILS of LNK_COUNTS. -/
def F.LNK_COUNTS_AUTH_FAILS : Fld := ⟨R.LNK_COUNTS, 8, 8⟩
/-- Field REFUSED of LNK_COUNTS. -/
def F.LNK_COUNTS_REFUSED : Fld := ⟨R.LNK_COUNTS, 0, 8⟩

/-- LNK_CHn_CFG (spec/15_host_ports_and_geger_link.md). -/
def R.LNK_CHn_CFG : RegDef := { base := 0x40140100, stride := 0x20, count := 16, kept := 0xFFFFF0FF#32, sl := 0xFFFFF0FF#32, sl3 := 0xFFFFF0FF#32 }
/-- Field DST_CHIP of LNK_CHn_CFG. -/
def F.LNK_CHn_CFG_DST_CHIP : Fld := ⟨R.LNK_CHn_CFG, 26, 6⟩
/-- Field ENABLE of LNK_CHn_CFG. -/
def F.LNK_CHn_CFG_ENABLE : Fld := ⟨R.LNK_CHn_CFG, 25, 1⟩
/-- Field CONSUME of LNK_CHn_CFG. -/
def F.LNK_CHn_CFG_CONSUME : Fld := ⟨R.LNK_CHn_CFG, 24, 1⟩
/-- Field GATE_TALLY of LNK_CHn_CFG. -/
def F.LNK_CHn_CFG_GATE_TALLY : Fld := ⟨R.LNK_CHn_CFG, 12, 12⟩
/-- Field PLOTS_M1 of LNK_CHn_CFG. -/
def F.LNK_CHn_CFG_PLOTS_M1 : Fld := ⟨R.LNK_CHn_CFG, 0, 8⟩

/-- LNK_CHn_ADDR (spec/15_host_ports_and_geger_link.md). -/
def R.LNK_CHn_ADDR : RegDef := { base := 0x40140104, stride := 0x20, count := 16, kept := 0xFFF0FFF#32, sl := 0xFFF0FFF#32, sl3 := 0xFFF0FFF#32 }
/-- Field DST_PLOT of LNK_CHn_ADDR. -/
def F.LNK_CHn_ADDR_DST_PLOT : Fld := ⟨R.LNK_CHn_ADDR, 16, 12⟩
/-- Field SRC_PLOT of LNK_CHn_ADDR. -/
def F.LNK_CHn_ADDR_SRC_PLOT : Fld := ⟨R.LNK_CHn_ADDR, 0, 12⟩

/-- LNK_CHn_GATE (spec/15_host_ports_and_geger_link.md). -/
def R.LNK_CHn_GATE : RegDef := { base := 0x40140108, stride := 0x20, count := 16, kept := 0xFFFFFFFF#32, sl := 0xFFFFFFFF#32, sl3 := 0xFFFFFFFF#32 }
/-- Field GATE_VALUE of LNK_CHn_GATE. -/
def F.LNK_CHn_GATE_GATE_VALUE : Fld := ⟨R.LNK_CHn_GATE, 0, 32⟩

/-- LNK_CHn_RING (spec/15_host_ports_and_geger_link.md). -/
def R.LNK_CHn_RING : RegDef := { base := 0x4014010C, stride := 0x20, count := 16, kept := 0x7FF07FF#32, sl := 0x7FF07FF#32, sl3 := 0x7FF07FF#32 }
/-- Field REMOTE_RING of LNK_CHn_RING. -/
def F.LNK_CHn_RING_REMOTE_RING : Fld := ⟨R.LNK_CHn_RING, 16, 11⟩
/-- Field DONE_RING of LNK_CHn_RING. -/
def F.LNK_CHn_RING_DONE_RING : Fld := ⟨R.LNK_CHn_RING, 0, 11⟩

/-- LNK_CHn_STAT (spec/15_host_ports_and_geger_link.md). -/
def R.LNK_CHn_STAT : RegDef := { base := 0x40140110, stride := 0x20, count := 16, rc := 0xFFFF0000#32 }
/-- Field SENDS of LNK_CHn_STAT. -/
def F.LNK_CHn_STAT_SENDS : Fld := ⟨R.LNK_CHn_STAT, 16, 16⟩
/-- Field LAST of LNK_CHn_STAT. -/
def F.LNK_CHn_STAT_LAST : Fld := ⟨R.LNK_CHn_STAT, 2, 2⟩
/-- Field STATE of LNK_CHn_STAT. -/
def F.LNK_CHn_STAT_STATE : Fld := ⟨R.LNK_CHn_STAT, 0, 2⟩

/-- SEC_LIFECYCLE (spec/16_alarms_and_keys.md). -/
def R.SEC_LIFECYCLE : RegDef := { base := 0x40150000, kept := 0x3B#32 }
/-- Field NEXT of SEC_LIFECYCLE. -/
def F.SEC_LIFECYCLE_NEXT : Fld := ⟨R.SEC_LIFECYCLE, 4, 2⟩
/-- Field PENDING of SEC_LIFECYCLE. -/
def F.SEC_LIFECYCLE_PENDING : Fld := ⟨R.SEC_LIFECYCLE, 3, 1⟩
/-- Field STATE of SEC_LIFECYCLE. -/
def F.SEC_LIFECYCLE_STATE : Fld := ⟨R.SEC_LIFECYCLE, 0, 2⟩

/-- SEC_LC_REQ (spec/16_alarms_and_keys.md). -/
def R.SEC_LC_REQ : RegDef := { base := 0x40150004, wo := 0xFFFF0003#32 }
/-- Field KEY of SEC_LC_REQ. -/
def F.SEC_LC_REQ_KEY : Fld := ⟨R.SEC_LC_REQ, 16, 16⟩
/-- Field TARGET of SEC_LC_REQ. -/
def F.SEC_LC_REQ_TARGET : Fld := ⟨R.SEC_LC_REQ, 0, 2⟩

/-- SEC_KEY_CMD (spec/16_alarms_and_keys.md). -/
def R.SEC_KEY_CMD : RegDef := { base := 0x40150008, wo := 0xFFFF0003#32 }
/-- Field KEY of SEC_KEY_CMD. -/
def F.SEC_KEY_CMD_KEY : Fld := ⟨R.SEC_KEY_CMD, 16, 16⟩
/-- Field ERASE_GROUP of SEC_KEY_CMD. -/
def F.SEC_KEY_CMD_ERASE_GROUP : Fld := ⟨R.SEC_KEY_CMD, 1, 1⟩
/-- Field INSTALL of SEC_KEY_CMD. -/
def F.SEC_KEY_CMD_INSTALL : Fld := ⟨R.SEC_KEY_CMD, 0, 1⟩

/-- SEC_KEYS (spec/16_alarms_and_keys.md). -/
def R.SEC_KEYS : RegDef := { base := 0x4015000C, kept := 0xFFFF000B#32 }
/-- Field GROUP_TG of SEC_KEYS. -/
def F.SEC_KEYS_GROUP_TG : Fld := ⟨R.SEC_KEYS, 16, 16⟩
/-- Field RESULT of SEC_KEYS. -/
def F.SEC_KEYS_RESULT : Fld := ⟨R.SEC_KEYS, 4, 4⟩
/-- Field ZEROISE_PENDING of SEC_KEYS. -/
def F.SEC_KEYS_ZEROISE_PENDING : Fld := ⟨R.SEC_KEYS, 3, 1⟩
/-- Field PREROLL of SEC_KEYS. -/
def F.SEC_KEYS_PREROLL : Fld := ⟨R.SEC_KEYS, 2, 1⟩
/-- Field GROUP of SEC_KEYS. -/
def F.SEC_KEYS_GROUP : Fld := ⟨R.SEC_KEYS, 1, 1⟩
/-- Field IDENTITY of SEC_KEYS. -/
def F.SEC_KEYS_IDENTITY : Fld := ⟨R.SEC_KEYS, 0, 1⟩

/-- SEC_ALARM_LEVEL (spec/16_alarms_and_keys.md). -/
def R.SEC_ALARM_LEVEL : RegDef := { base := 0x40150010, reset := 0x2B6AB#32, kept := 0x3FFFF#32, sl := 0x3FFFF#32 }
/-- Field LEVEL of SEC_ALARM_LEVEL. -/
def F.SEC_ALARM_LEVEL_LEVEL : Fld := ⟨R.SEC_ALARM_LEVEL, 0, 18⟩

/-- SEC_ALARM_STATUS (spec/16_alarms_and_keys.md). -/
def R.SEC_ALARM_STATUS : RegDef := { base := 0x40150014, kept := 0x1FF0000#32, w1c := 0x1FF0000#32 }
/-- Field POLICY_OK of SEC_ALARM_STATUS. -/
def F.SEC_ALARM_STATUS_POLICY_OK : Fld := ⟨R.SEC_ALARM_STATUS, 31, 1⟩
/-- Field SEEN of SEC_ALARM_STATUS. -/
def F.SEC_ALARM_STATUS_SEEN : Fld := ⟨R.SEC_ALARM_STATUS, 16, 9⟩
/-- Field FIRST_SOURCE of SEC_ALARM_STATUS. -/
def F.SEC_ALARM_STATUS_FIRST_SOURCE : Fld := ⟨R.SEC_ALARM_STATUS, 8, 4⟩
/-- Field LEVEL of SEC_ALARM_STATUS. -/
def F.SEC_ALARM_STATUS_LEVEL : Fld := ⟨R.SEC_ALARM_STATUS, 0, 2⟩

/-- SEC_DBG_STATUS (spec/16_alarms_and_keys.md). -/
def R.SEC_DBG_STATUS : RegDef := { base := 0x40150018, kept := 0xF703#32 }
/-- Field FAILS of SEC_DBG_STATUS. -/
def F.SEC_DBG_STATUS_FAILS : Fld := ⟨R.SEC_DBG_STATUS, 12, 4⟩
/-- Field SCOPE of SEC_DBG_STATUS. -/
def F.SEC_DBG_STATUS_SCOPE : Fld := ⟨R.SEC_DBG_STATUS, 8, 3⟩
/-- Field HELD of SEC_DBG_STATUS. -/
def F.SEC_DBG_STATUS_HELD : Fld := ⟨R.SEC_DBG_STATUS, 1, 1⟩
/-- Field UNLOCKED of SEC_DBG_STATUS. -/
def F.SEC_DBG_STATUS_UNLOCKED : Fld := ⟨R.SEC_DBG_STATUS, 0, 1⟩

/-- SEC_TEMP (spec/16_alarms_and_keys.md). -/
def R.SEC_TEMP : RegDef := { base := 0x4015001C }
/-- Field TJ of SEC_TEMP. -/
def F.SEC_TEMP_TJ : Fld := ⟨R.SEC_TEMP, 0, 8⟩

/-- SEC_OTP_STAGEk (spec/16_alarms_and_keys.md). -/
def R.SEC_OTP_STAGEk : RegDef := { base := 0x40150100, stride := 0x4, count := 16, wo := 0xFFFFFFFF#32 }
/-- Field DATA of SEC_OTP_STAGEk. -/
def F.SEC_OTP_STAGEk_DATA : Fld := ⟨R.SEC_OTP_STAGEk, 0, 32⟩

/-- SEC_OTP_HASHk (spec/16_alarms_and_keys.md). -/
def R.SEC_OTP_HASHk : RegDef := { base := 0x40150140, stride := 0x4, count := 16, kept := 0xFFFFFFFF#32 }
/-- Field DATA of SEC_OTP_HASHk. -/
def F.SEC_OTP_HASHk_DATA : Fld := ⟨R.SEC_OTP_HASHk, 0, 32⟩

/-- SEC_SERIALk (spec/16_alarms_and_keys.md). -/
def R.SEC_SERIALk : RegDef := { base := 0x40150180, stride := 0x4, count := 2, kept := 0xFFFFFFFF#32 }
/-- Field SERIAL of SEC_SERIALk. -/
def F.SEC_SERIALk_SERIAL : Fld := ⟨R.SEC_SERIALk, 0, 32⟩

/-- SEC_ID_PUBk (spec/16_alarms_and_keys.md). -/
def R.SEC_ID_PUBk : RegDef := { base := 0x40150200, stride := 0x4, count := 16, kept := 0xFFFFFFFF#32 }
/-- Field DATA of SEC_ID_PUBk. -/
def F.SEC_ID_PUBk_DATA : Fld := ⟨R.SEC_ID_PUBk, 0, 32⟩

/-- SEC_KEYINk (spec/16_alarms_and_keys.md). -/
def R.SEC_KEYINk : RegDef := { base := 0x40150280, stride := 0x4, count := 32, wo := 0xFFFFFFFF#32 }
/-- Field DATA of SEC_KEYINk. -/
def F.SEC_KEYINk_DATA : Fld := ⟨R.SEC_KEYINk, 0, 32⟩

/-- STW_ID (spec/01_two_planes.md). -/
def R.STW_ID : RegDef := { base := 0x40160000, reset := 0xD75A60A1#32, kept := 0xFFFFFFFF#32 }
/-- Field VENDOR of STW_ID. -/
def F.STW_ID_VENDOR : Fld := ⟨R.STW_ID, 24, 8⟩
/-- Field FAMILY of STW_ID. -/
def F.STW_ID_FAMILY : Fld := ⟨R.STW_ID, 16, 8⟩
/-- Field PART of STW_ID. -/
def F.STW_ID_PART : Fld := ⟨R.STW_ID, 8, 8⟩
/-- Field STEPPING of STW_ID. -/
def F.STW_ID_STEPPING : Fld := ⟨R.STW_ID, 0, 8⟩

/-- STW_ACCESS_ADDR (spec/01_two_planes.md). -/
def R.STW_ACCESS_ADDR : RegDef := { base := 0x40160004 }
/-- Field ADDR of STW_ACCESS_ADDR. -/
def F.STW_ACCESS_ADDR_ADDR : Fld := ⟨R.STW_ACCESS_ADDR, 0, 32⟩

/-- STW_ACCESS_INFO (spec/01_two_planes.md). -/
def R.STW_ACCESS_INFO : RegDef := { base := 0x40160008, w1c := 0x1#32 }
/-- Field COUNT of STW_ACCESS_INFO. -/
def F.STW_ACCESS_INFO_COUNT : Fld := ⟨R.STW_ACCESS_INFO, 8, 8⟩
/-- Field MASTER of STW_ACCESS_INFO. -/
def F.STW_ACCESS_INFO_MASTER : Fld := ⟨R.STW_ACCESS_INFO, 5, 3⟩
/-- Field UNMAPPED of STW_ACCESS_INFO. -/
def F.STW_ACCESS_INFO_UNMAPPED : Fld := ⟨R.STW_ACCESS_INFO, 4, 1⟩
/-- Field SIZE of STW_ACCESS_INFO. -/
def F.STW_ACCESS_INFO_SIZE : Fld := ⟨R.STW_ACCESS_INFO, 2, 2⟩
/-- Field WRITE of STW_ACCESS_INFO. -/
def F.STW_ACCESS_INFO_WRITE : Fld := ⟨R.STW_ACCESS_INFO, 1, 1⟩
/-- Field VALID of STW_ACCESS_INFO. -/
def F.STW_ACCESS_INFO_VALID : Fld := ⟨R.STW_ACCESS_INFO, 0, 1⟩

/-- STW_THERM_CFG (spec/01_two_planes.md). -/
def R.STW_THERM_CFG : RegDef := { base := 0x4016000C, reset := 0x826469#32, kept := 0xFFFFFF#32, sl := 0xFFFFFF#32, sl3 := 0xFFFFFF#32 }
/-- Field RELEASE_TICKS of STW_THERM_CFG. -/
def F.STW_THERM_CFG_RELEASE_TICKS : Fld := ⟨R.STW_THERM_CFG, 20, 4⟩
/-- Field STEP of STW_THERM_CFG. -/
def F.STW_THERM_CFG_STEP : Fld := ⟨R.STW_THERM_CFG, 16, 4⟩
/-- Field THROTTLE_OFF of STW_THERM_CFG. -/
def F.STW_THERM_CFG_THROTTLE_OFF : Fld := ⟨R.STW_THERM_CFG, 8, 8⟩
/-- Field THROTTLE_ON of STW_THERM_CFG. -/
def F.STW_THERM_CFG_THROTTLE_ON : Fld := ⟨R.STW_THERM_CFG, 0, 8⟩

/-- STW_THROTTLE (spec/01_two_planes.md). -/
def R.STW_THROTTLE : RegDef := { base := 0x40160010 }
/-- Field HOT of STW_THROTTLE. -/
def F.STW_THROTTLE_HOT : Fld := ⟨R.STW_THROTTLE, 16, 1⟩
/-- Field TJ_MAX of STW_THROTTLE. -/
def F.STW_THROTTLE_TJ_MAX : Fld := ⟨R.STW_THROTTLE, 8, 8⟩
/-- Field LEVEL of STW_THROTTLE. -/
def F.STW_THROTTLE_LEVEL : Fld := ⟨R.STW_THROTTLE, 0, 5⟩

/-- STW_START_REQ (spec/03_cold_and_warm_start.md). -/
def R.STW_START_REQ : RegDef := { base := 0x40160100, wo := 0xFFFF0001#32 }
/-- Field KEY of STW_START_REQ. -/
def F.STW_START_REQ_KEY : Fld := ⟨R.STW_START_REQ, 16, 16⟩
/-- Field WARM of STW_START_REQ. -/
def F.STW_START_REQ_WARM : Fld := ⟨R.STW_START_REQ, 0, 1⟩

/-- STW_STATE_CFG (spec/03_cold_and_warm_start.md). -/
def R.STW_STATE_CFG : RegDef := { base := 0x40160104, reset := 0x258#32, kept := 0xFFFF#32, sl := 0xFFFF#32, sl3 := 0xFFFF#32 }
/-- Field CAL_INTERVAL_S of STW_STATE_CFG. -/
def F.STW_STATE_CFG_CAL_INTERVAL_S : Fld := ⟨R.STW_STATE_CFG, 0, 16⟩

/-- STW_NVM (spec/03_cold_and_warm_start.md). -/
def R.STW_NVM : RegDef := { base := 0x40160108, rc := 0xFF00#32 }
/-- Field GRANTS of STW_NVM. -/
def F.STW_NVM_GRANTS : Fld := ⟨R.STW_NVM, 8, 8⟩
/-- Field GRANTED of STW_NVM. -/
def F.STW_NVM_GRANTED : Fld := ⟨R.STW_NVM, 1, 1⟩
/-- Field REQ of STW_NVM. -/
def F.STW_NVM_REQ : Fld := ⟨R.STW_NVM, 0, 1⟩

/-- IMG_CAUSE (spec/03_cold_and_warm_start.md). -/
def R.IMG_CAUSE : RegDef := { base := 0x40170000 }
/-- Field PREV_CAUSE of IMG_CAUSE. -/
def F.IMG_CAUSE_PREV_CAUSE : Fld := ⟨R.IMG_CAUSE, 16, 8⟩
/-- Field CONVERTED of IMG_CAUSE. -/
def F.IMG_CAUSE_CONVERTED : Fld := ⟨R.IMG_CAUSE, 15, 1⟩
/-- Field SLOT of IMG_CAUSE. -/
def F.IMG_CAUSE_SLOT : Fld := ⟨R.IMG_CAUSE, 12, 1⟩
/-- Field TYPE of IMG_CAUSE. -/
def F.IMG_CAUSE_TYPE : Fld := ⟨R.IMG_CAUSE, 8, 1⟩
/-- Field CAUSE of IMG_CAUSE. -/
def F.IMG_CAUSE_CAUSE : Fld := ⟨R.IMG_CAUSE, 0, 8⟩

/-- IMG_BOOT (spec/03_cold_and_warm_start.md). -/
def R.IMG_BOOT : RegDef := { base := 0x40170004, kept := 0xF1F#32 }
/-- Field HOLD_CAUSE of IMG_BOOT. -/
def F.IMG_BOOT_HOLD_CAUSE : Fld := ⟨R.IMG_BOOT, 9, 3⟩
/-- Field HOLD of IMG_BOOT. -/
def F.IMG_BOOT_HOLD : Fld := ⟨R.IMG_BOOT, 8, 1⟩
/-- Field ACTIVE_SLOT of IMG_BOOT. -/
def F.IMG_BOOT_ACTIVE_SLOT : Fld := ⟨R.IMG_BOOT, 4, 1⟩
/-- Field FAILS_B of IMG_BOOT. -/
def F.IMG_BOOT_FAILS_B : Fld := ⟨R.IMG_BOOT, 2, 2⟩
/-- Field FAILS_A of IMG_BOOT. -/
def F.IMG_BOOT_FAILS_A : Fld := ⟨R.IMG_BOOT, 0, 2⟩

/-- IMG_STRAPS (spec/03_cold_and_warm_start.md). -/
def R.IMG_STRAPS : RegDef := { base := 0x40170008 }
/-- Field BOOTSEL of IMG_STRAPS. -/
def F.IMG_STRAPS_BOOTSEL : Fld := ⟨R.IMG_STRAPS, 0, 2⟩

/-- IMG_STATUS (spec/03_cold_and_warm_start.md). -/
def R.IMG_STATUS : RegDef := { base := 0x4017000C }
/-- Field SEAL_MS of IMG_STATUS. -/
def F.IMG_STATUS_SEAL_MS : Fld := ⟨R.IMG_STATUS, 16, 16⟩
/-- Field BARN_IMAGE of IMG_STATUS. -/
def F.IMG_STATUS_BARN_IMAGE : Fld := ⟨R.IMG_STATUS, 7, 1⟩
/-- Field START_STATE of IMG_STATUS. -/
def F.IMG_STATUS_START_STATE : Fld := ⟨R.IMG_STATUS, 5, 2⟩
/-- Field STEP of IMG_STATUS. -/
def F.IMG_STATUS_STEP : Fld := ⟨R.IMG_STATUS, 1, 4⟩
/-- Field SEALED of IMG_STATUS. -/
def F.IMG_STATUS_SEALED : Fld := ⟨R.IMG_STATUS, 0, 1⟩

/-- IMG_VERSION (spec/03_cold_and_warm_start.md). -/
def R.IMG_VERSION : RegDef := { base := 0x40170010, kept := 0xFFFFFFFF#32 }
/-- Field VERSION of IMG_VERSION. -/
def F.IMG_VERSION_VERSION : Fld := ⟨R.IMG_VERSION, 0, 32⟩

/-- IMG_HDR_DIGESTk (spec/03_cold_and_warm_start.md). -/
def R.IMG_HDR_DIGESTk : RegDef := { base := 0x40170020, stride := 0x4, count := 8, kept := 0xFFFFFFFF#32 }
/-- Field DIGEST of IMG_HDR_DIGESTk. -/
def F.IMG_HDR_DIGESTk_DIGEST : Fld := ⟨R.IMG_HDR_DIGESTk, 0, 32⟩

/-- IMG_STATE (spec/03_cold_and_warm_start.md). -/
def R.IMG_STATE : RegDef := { base := 0x40170040, kept := 0xFFFFFF07#32 }
/-- Field SEQ of IMG_STATE. -/
def F.IMG_STATE_SEQ : Fld := ⟨R.IMG_STATE, 8, 24⟩
/-- Field PENDING of IMG_STATE. -/
def F.IMG_STATE_PENDING : Fld := ⟨R.IMG_STATE, 3, 1⟩
/-- Field WEAR_LOST of IMG_STATE. -/
def F.IMG_STATE_WEAR_LOST : Fld := ⟨R.IMG_STATE, 2, 1⟩
/-- Field BANK of IMG_STATE. -/
def F.IMG_STATE_BANK : Fld := ⟨R.IMG_STATE, 1, 1⟩
/-- Field VALID of IMG_STATE. -/
def F.IMG_STATE_VALID : Fld := ⟨R.IMG_STATE, 0, 1⟩

/-- IMG_STATE_WR (spec/03_cold_and_warm_start.md). -/
def R.IMG_STATE_WR : RegDef := { base := 0x40170044, rc := 0xFFFFFFFF#32 }
/-- Field DEFERRED of IMG_STATE_WR. -/
def F.IMG_STATE_WR_DEFERRED : Fld := ⟨R.IMG_STATE_WR, 24, 8⟩
/-- Field FAILS of IMG_STATE_WR. -/
def F.IMG_STATE_WR_FAILS : Fld := ⟨R.IMG_STATE_WR, 16, 8⟩
/-- Field WRITES of IMG_STATE_WR. -/
def F.IMG_STATE_WR_WRITES : Fld := ⟨R.IMG_STATE_WR, 0, 16⟩

/-- LOG_NEXT (spec/07_watch_yard.md). -/
def R.LOG_NEXT : RegDef := { base := 0x40180000, kept := 0xFFFF01FF#32 }
/-- Field SEQ of LOG_NEXT. -/
def F.LOG_NEXT_SEQ : Fld := ⟨R.LOG_NEXT, 16, 16⟩
/-- Field WRAPPED of LOG_NEXT. -/
def F.LOG_NEXT_WRAPPED : Fld := ⟨R.LOG_NEXT, 8, 1⟩
/-- Field INDEX of LOG_NEXT. -/
def F.LOG_NEXT_INDEX : Fld := ⟨R.LOG_NEXT, 0, 8⟩

/-- LOG_STATUS (spec/07_watch_yard.md). -/
def R.LOG_STATUS : RegDef := { base := 0x40180004, kept := 0xFFFF0000#32, rc := 0xFFFF0000#32 }
/-- Field SUPPRESSED of LOG_STATUS. -/
def F.LOG_STATUS_SUPPRESSED : Fld := ⟨R.LOG_STATUS, 16, 16⟩
/-- Field INTAKE of LOG_STATUS. -/
def F.LOG_STATUS_INTAKE : Fld := ⟨R.LOG_STATUS, 0, 6⟩

/-- LOG_ENTRYe_w (spec/07_watch_yard.md). -/
def R.LOG_ENTRYe_w : RegDef := { base := 0x40181000, stride := 0x4, count := 1024, kept := 0xFFFFFFFF#32 }
/-- Field DATA of LOG_ENTRYe_w. -/
def F.LOG_ENTRYe_w_DATA : Fld := ⟨R.LOG_ENTRYe_w, 0, 32⟩

/-- The registers of block `b` (0 is SPN at 0x4000_0000, and so on in address order, Table 01.6). -/
def blockRegs : Nat → List RegDef
  | 0 => [R.SPN_COUNT_LO, R.SPN_COUNT_HI, R.SPN_STATUS, R.SPN_RATE, R.SPN_CFG, R.SPN_ERR_LAST, R.SPN_ERR_TOTAL,
      R.SPN_CARRIED, R.SPN_RC_COUNT, R.SPN_TICK, R.SPN_MEAS]
  | 1 => [R.PWR_STATE, R.PWR_STATE_REQ, R.PWR_CFG, R.PWR_WAKE_CFG, R.PWR_WAKE_STATUS, R.PWR_SLEEP_TIMER,
      R.PWR_LEVEL0, R.PWR_LEVEL1, R.PWR_BUSY, R.PWR_PEND, R.PWR_FAILED, R.PWR_LOG_MASK, R.PWR_STW_VOTE0,
      R.PWR_STW_VOTE1, R.PWR_IMG_VOTE0, R.PWR_IMG_VOTE1, R.PWR_VOTEd]
  | 2 => [R.SUP_CFG, R.SUP_STATUS, R.SUP_VMON, R.SUP_DIP, R.SUP_COUNTS]
  | 3 => [R.VRC_CFG, R.VRC_STATUS, R.VRC_PHASEn, R.VRC_OFFSETn, R.VRC_CAL_CFG, R.VRC_COUNTS]
  | 4 => [R.YRD_CFG, R.YRD_STATUS, R.YRD_WAKE, R.YRD_WAKE_COUNT, R.YRD_WAKE_CLR, R.YRD_ENGINE, R.YRD_SECTION,
      R.YRD_SLOTn_STAT, R.YRD_SLOTn_PERIOD, R.YRD_SLOTn_TRIG]
  | 5 => [R.EAR_CFG, R.EAR_STATUS, R.EAR_TDM_CFG, R.EAR_PREROLL_CFG, R.EAR_PREROLL_DST, R.EAR_PREROLL_STATUS,
      R.EAR_PREROLL_CMD, R.EAR_CAL_CFG, R.EAR_COUNTS, R.EAR_MICm_CFG, R.EAR_MICm_STAT, R.EAR_PATp_CFG,
      R.EAR_PATp_STAT]
  | 6 => [R.SPT_CFG, R.SPT_FAULT_CLR, R.SPT_PORTn_CFG, R.SPT_PORTn_STATUS, R.SPT_PORTn_COUNTS, R.SPT_PORTn_I3C]
  | 7 => [R.CAM_CFG, R.CAM_STATUS, R.CAM_PORTn_CFG, R.CAM_PORTn_SIZE, R.CAM_PORTn_COUNTS, R.CAM_PORTn_ERR]
  | 8 => [R.PEN_CAMn_CFG, R.PEN_STATUS, R.PEN_COUNTS, R.PEN_LAST_WIPE]
  | 9 => [R.GATE_CFG, R.GATE_CEIL, R.GATE_DROPS0, R.GATE_DROPS1, R.GATE_PASSED, R.GATE_FIRST_FAIL,
      R.GATE_HEADi_CFG, R.GATE_HEADi_REFILL, R.GATE_HEADi_LIMITS, R.GATE_HEADi_SEQ]
  | 10 => [R.STL_CFG, R.STL_RESERVED, R.STL_FENCEDk, R.STL_COUNTS, R.STL_GROUP, R.STL_LIVEk, R.STL_STALLs_STATUS,
      R.STL_STALLs_ECC]
  | 11 => [R.ROWC_ROWr_STATUS, R.ROWC_ROWr_BP]
  | 12 => [R.NUM_ADAPT_CFG, R.NUM_COUNTS, R.NUM_SLOT_OKk, R.NUM_SLOTi_CFG, R.NUM_SLOTi_BASE, R.NUM_SLOTi_CLIP,
      R.NUM_SLOTi_EXP, R.NUM_SLOTi_STAT, R.NUM_SLOTi_SCALE, R.NUM_SLOTi_STEPS]
  | 13 => [R.CIM_BUDGET, R.CIM_CFG, R.CIM_CAL_CFG, R.CIM_STATUS, R.CIM_COUNTS, R.CIM_STALLs_STATE,
      R.CIM_STALLs_CYCLES, R.CIM_STALLs_WEAR, R.CIM_STALLs_COMMIT]
  | 14 => [R.BRN_CFG, R.BRN_ROT_CFG, R.BRN_LOCK_CFG, R.BRN_STATUS, R.BRN_CHAN_OUT, R.BRN_COMB_MASK, R.BRN_LOSS,
      R.BRN_COUNTS, R.BRN_BAYb_STATUS, R.BRN_BAYb_COLMASK, R.BRN_BAYb_COUNTS, R.BRN_BAYb_MAPw]
  | 15 => [R.RNG_DOORBELL, R.RNG_STATUS, R.RNG_COUNTS, R.RNG_RINGi_CFG, R.RNG_RINGi_BASE, R.RNG_RINGi_PI,
      R.RNG_RINGi_DI]
  | 16 => [R.TLY_OP, R.TLY_VALUE, R.TLY_STATUS, R.TLY_COUNTS, R.TLY_TALLYt]
  | 17 => [R.DSP_CFG, R.DSP_C0_CFG, R.DSP_STATUS, R.DSP_COUNTS, R.DSP_C0_LAT]
  | 18 => [R.MOV_STATUS, R.MOV_COUNTS, R.MOV_FIRST_ERR, R.MOV_CHc_STATUS]
  | 19 => [R.PCI_CFG, R.PCI_SMALL_CFG, R.PCI_STATUS, R.PCI_REC, R.PCI_RECo_INDEX, R.PCI_COUNTS, R.PCI_DETACH]
  | 20 => [R.LNK_CFG, R.LNK_PORTp_STATUS, R.LNK_COUNTS, R.LNK_CHn_CFG, R.LNK_CHn_ADDR, R.LNK_CHn_GATE,
      R.LNK_CHn_RING, R.LNK_CHn_STAT]
  | 21 => [R.SEC_LIFECYCLE, R.SEC_LC_REQ, R.SEC_KEY_CMD, R.SEC_KEYS, R.SEC_ALARM_LEVEL, R.SEC_ALARM_STATUS,
      R.SEC_DBG_STATUS, R.SEC_TEMP, R.SEC_OTP_STAGEk, R.SEC_OTP_HASHk, R.SEC_SERIALk, R.SEC_ID_PUBk,
      R.SEC_KEYINk]
  | 22 => [R.STW_ID, R.STW_ACCESS_ADDR, R.STW_ACCESS_INFO, R.STW_THERM_CFG, R.STW_THROTTLE, R.STW_START_REQ,
      R.STW_STATE_CFG, R.STW_NVM]
  | 23 => [R.IMG_CAUSE, R.IMG_BOOT, R.IMG_STRAPS, R.IMG_STATUS, R.IMG_VERSION, R.IMG_HDR_DIGESTk, R.IMG_STATE,
      R.IMG_STATE_WR]
  | 24 => [R.LOG_NEXT, R.LOG_STATUS, R.LOG_ENTRYe_w]
  | _ => []

end Sys2Proof.Machine
end

