-- ==== Sys2Proof/Machine/Table.lean ====
section
/-! DEFINITION. Sparse data in one canonical form: a list of (key, value) pairs, keys strictly rising, no entry
equal to what an unlisted key reads as. Registers, memories and every per-element store of the state use it. -/

namespace Sys2Proof.Machine

/-- What key `k` holds; `d k` where nothing is listed. -/
def tblGet {α : Type} (d : Nat → α) (t : List (Nat × α)) (k : Nat) : α :=
  match t.find? (fun p => p.1 == k) with
  | some p => p.2
  | none => d k

/-- The pairs (k, v0), (k+1, v1), … that differ from what their key reads as unlisted. -/
def tblCells {α : Type} [DecidableEq α] (d : Nat → α) : Nat → List α → List (Nat × α)
  | _, [] => []
  | k, v :: vs => if v = d k then tblCells d (k + 1) vs else (k, v) :: tblCells d (k + 1) vs

/-- Store `vs` at keys k, k+1, …; every other key keeps what it held. -/
def tblPutRange {α : Type} [DecidableEq α] (d : Nat → α) (t : List (Nat × α)) (k : Nat) (vs : List α) :
    List (Nat × α) :=
  t.filter (fun p => p.1 < k) ++ tblCells d k vs ++ t.filter (fun p => k + vs.length ≤ p.1)

/-- Store `v` at key `k`. -/
def tblPut {α : Type} [DecidableEq α] (d : Nat → α) (t : List (Nat × α)) (k : Nat) (v : α) : List (Nat × α) :=
  tblPutRange d t k [v]

/-- What `n` keys from `k` on hold, with `t` listing no key below `k`: a walk along the table. -/
def tblWalk {α : Type} (d : Nat → α) : Nat → List (Nat × α) → Nat → List α
  | 0, _, _ => []
  | n + 1, [], k => d k :: tblWalk d n [] (k + 1)
  | n + 1, p :: t, k => if p.1 = k then p.2 :: tblWalk d n t (k + 1) else d k :: tblWalk d n (p :: t) (k + 1)

/-- What the `n` keys from `k` on hold. -/
def tblGetRange {α : Type} (d : Nat → α) (t : List (Nat × α)) (k n : Nat) : List α :=
  tblWalk d n (t.filter fun p => k ≤ p.1 && p.1 < k + n) k

/-- Drop the keys of [k, k+n): they read as unlisted again. -/
def tblDrop {α : Type} (t : List (Nat × α)) (k n : Nat) : List (Nat × α) :=
  t.filter fun p => p.1 < k || k + n ≤ p.1

/-- The canonical form. -/
abbrev TblWf {α : Type} (d : Nat → α) (t : List (Nat × α)) : Prop :=
  t.Pairwise (fun p q => p.1 < q.1) ∧ ∀ p ∈ t, p.2 ≠ d p.1

/-- One element of a per-element store, absent elements reading as `x`. -/
def elGet {α : Type} (x : α) (t : List (Nat × α)) (k : Nat) : α := tblGet (fun _ => x) t k

/-- Set one element of a per-element store. -/
def elPut {α : Type} [DecidableEq α] (x : α) (t : List (Nat × α)) (k : Nat) (v : α) : List (Nat × α) :=
  tblPut (fun _ => x) t k v

/-- Element `i` of a list becomes `v`. -/
def setNth {α : Type} (l : List α) (i : Nat) (v : α) : List α := l.set i v

end Sys2Proof.Machine
end

