-- ==== Sys2Proof/Machine/State.lean ====
section
/-! DEFINITION. The state of the Z96 as a block, as plain data: its registers, its memories, every store, queue,
counter and mode the chapters of spec/ give it, and the queue of waiting commands. -/

namespace Sys2Proof.Machine

/-- Why a command could stop the block with a fault: for no reason at all. The spec gives every command of its table an
effect in every state, a faulting access included (01 R45), so no command raises one. -/
inductive Fault where
deriving DecidableEq, Repr

/-- Why a command could be turned away. -/
inductive Refusal where
  /-- The command has no meaning in this model yet; raised by `exec`'s arms alone. Safe. -/
  | notModelled (mnemonic : String)
deriving DecidableEq, Repr

/-- A per-element store: (index, value) pairs, indices rising, absent elements at their default. -/
abbrev Tab (α : Type) := List (Nat × α)

/-- The memories that hold plots (02 R57). -/
inductive Mem where
  | loft | yard | stall
deriving DecidableEq, Repr

/-- A chip-state request (05 R153, R167): target 0 Run to 3 Rest, cause as PWR_STATE.LAST_CAUSE. -/
structure ChipReq where
  target : Nat
  cause : Nat
  forced : Bool := false
deriving DecidableEq, Repr

/-- Every memory (01 Table 01.5, 02 R50, 03 R93) and the taint of every plot (02 R57). `lost` gives, for each LOFT
and ROW domain, and at 16 + s for a stall s that a fence has powered down (10 R314), which loss its contents date from: 0 none. -/
structure MemState where
  loft : List Host.Cell := []
  yard : List Host.Cell := []
  stall : List Host.Cell := []
  pen : List Host.Cell := []
  nvm : List Host.Cell := []
  lost : Tab Nat := []
  tLoft : Tab Nat := []
  tYard : Tab Nat := []
  tStall : Tab Nat := []
deriving DecidableEq, Repr

/-- The span counter and what carries it across a stop (04). `validAtStop` and `boundAtStop` are RATE_VALID and PPM_BOUND at the
moment of the stop (R134, R137); `reads` are the masters, as STW_ACCESS_INFO codes them, whose read of SPN_COUNT_LO waits for the
alignment (R141). -/
structure SpanState where
  count : BitVec 64 := 0
  shadow : Tab Word := []
  running : Bool := false
  rootOn : Bool := false
  carrying : Bool := false
  acc : BitVec 40 := 0
  atStop : BitVec 64 := 0
  validAtStop : Bool := false
  boundAtStop : Nat := 50
  reads : List Nat := []
  clearing : Bool := true
  rateReset : Bool := false
  barnLock : Bool := false
  ticks : Nat := 0
  rateWins : Nat := 0
deriving DecidableEq, Repr

/-- The engines whose accesses can wait for a domain (05 R161): a stall, a Barn bay, a ring's entry, a sensor port's script, a stall's
programming, the commit's state block, a microphone's capture window, the pre-roll unload, and the move of a wake record. -/
inductive Engine where
  | stall (s : Nat)
  | bay (b : Nat)
  | ring (i : Nat)
  | port (p : Nat)
  | prog (s : Nat)
  | commit
  | mic (m : Nat)
  | preroll
  | wakeQueue
deriving DecidableEq, Repr

/-- An access that waits for its domain (05 R161): one whose sender alone knows what it does, a 32-bit read or write of a Steward-space
memory address, a write through the host window, the bytes of a STORE whose script a rail fault has ended (09 R284), or an engine's, which
the engine's command makes once the domain is ready. -/
inductive StalledAcc where
  | touch
  | engine (e : Engine)
  | read (m : Master) (a : Nat)
  | write (m : Master) (a : Nat) (v : Word)
  | window (off : Nat) (data : List Byte)
  | store (dest : Nat) (data : List Byte)
deriving DecidableEq, Repr

/-- The power sequencer (05): levels, votes (slot k of domain d at 16d + k), the in-flight and pending transition of
each domain, and the requests of the chip. `wakePin` is the level driven on WAKE_IN (none: the board's pull to inactive), `window` the entry window of R166, `restored` that CORE_RESTORE
has run in the present wake of CORE_MGMT; `stalled` are the accesses that wait, oldest first, each with the domain it waits for
(R161). -/
structure PwrState where
  state : Nat := 0
  lastCause : Nat := 7
  level : Tab Nat := []
  votes : Tab Nat := []
  flight : Tab Nat := []
  pend : Tab Nat := []
  retry : List Nat := []
  holdDone : List Nat := []
  req : Option ChipReq := none
  forced : List ChipReq := []
  fly : Option ChipReq := none
  held : List ChipReq := []
  wakeReq : Option ChipReq := none
  timerArmed : Bool := false
  wakePin : Option Bool := none
  window : Bool := false
  restored : Bool := false
  stalled : List (Nat × StalledAcc) := []
deriving DecidableEq, Repr

/-- A key-store operation that Brace defers (06 R179): a value written to SEC_KEY_CMD or to SEC_LC_REQ, with the
outcome of its erases. -/
inductive KeyOp where
  | cmd (v : Word) (failed : Bool)
  | lc (v : Word) (killed : List (Fin 4))
deriving DecidableEq, Repr

/-- An operation that Brace defers (06 R179, R180): one of the key store, the state area's next NVM operation, the start of a stall's
programming. -/
inductive Deferred where
  | key (o : KeyOp)
  | nvm
  | prog (stall : Nat)
deriving DecidableEq, Repr

/-- The supply supervisor's own state (06, 17 R478, R485): the monitor codes the two rails would read now, when the latest Brace began,
the Braces of the last second, newest first, the operations that wait for its end, in the order they were deferred, when the latest
DIP_LONG expired, the banks below their detectors and the class each bank of selectable voltage took as it rose (0 while it lies below its detector, 1:
1.8 V, 2: 3.3 V; 1 where unlisted, log 215), whether the
VDD_CORE thresholds are armed, the phases calibrated since the rail was last enabled (R205), and what the board drives on MUTE_SW and
NVM_REQ_N. -/
structure SupState where
  coreCode : Nat := 0
  aonCode : Nat := 200
  braceAt : BitVec 64 := 0
  braces : List (BitVec 64) := []
  deferred : List Deferred := []
  dipAt : Option (BitVec 64) := none
  calibrated : List Nat := []
  bankLow : List Nat := []
  bankClass : Tab Nat := []
  armed : Bool := false
  muteDown : Bool := false
  nvmAsked : Bool := false
deriving DecidableEq, Repr

/-- What a watch-program slot is doing (07 R209, R210, R212). -/
inductive SlotPhase where
  | idle
  | running
  /-- A WAIT of kind `k` with argument `arg`. -/
  | waiting (k arg : Nat)
  /-- A SAMPLE waiting for the port's sequencer. -/
  | sampling
  /-- A FEAT (`net` false) or NET (`net` true) waiting for its unit. -/
  | wanting (net : Bool)
  /-- A FEAT or NET running in its unit. -/
  | operating (net : Bool)
  /-- A WAKE stalled at step 2 by a full queue. -/
  | wakeStalled
  | faulted
deriving DecidableEq, Repr

/-- A confidence detector (07 R216). Histories hold the newest evaluation first. -/
structure Detector where
  active : Bool := false
  cls : Nat := 0
  hits : List Bool := []
  holds : List Bool := []
deriving DecidableEq, Repr

/-- A watch-program slot (07 R209 to R217). -/
structure YardSlot where
  phase : SlotPhase := .idle
  pc : Nat := 0
  g : Tab Word := []
  lt : Bool := false
  eq : Bool := false
  gt : Bool := false
  timeout : Bool := false
  full : Bool := false
  active : Bool := false
  rose : Bool := false
  fell : Bool := false
  taint : Nat := 0
  loopAt : Nat := 0
  loopEnd : Nat := 0
  loopLeft : Nat := 0
  cycles : Nat := 0
  met : Bool := false
  votes : Tab Nat := []
  wakes : Tab Nat := []
  det : Detector := {}
  margin : Nat := 0
deriving DecidableEq, Repr

/-- The configuration of a slot that no register shows (07 Table 07.6), loaded at SEAL. -/
structure SlotCfg where
  length : Nat := 0
  phase : Nat := 0
  net : Nat := 0xFF
  thresh : Nat := 0
  hold : Nat := 0
  n : Nat := 1
  m : Nat := 1
  mask : Nat := 0
  ring : Nat := 0
  wakeVotes : Nat := 0
  cycleMax : Nat := 1
  waitMax : Nat := 1
deriving DecidableEq, Repr

/-- Where a micro-net lies in the weight region, its bytes and its layers (07 Table 07.7). -/
structure NetCfg where
  off : Nat := 0
  layers : Nat := 1
  len : Nat := 0
deriving DecidableEq, Repr

/-- The Watch Yard (07). `stalled` are the slots whose WAKE stands at step 2, in issue order (R225). -/
structure YardState where
  slots : Tab YardSlot := []
  cfg : Tab SlotCfg := []
  nets : Tab NetCfg := []
  featUnit : Option Nat := none
  netUnit : Option Nat := none
  wakeRd : Nat := 0
  stalled : List Nat := []
  wseq : BitVec 16 := 0
deriving DecidableEq, Repr

/-- An event on its way to the log (07 Table 07.8). -/
structure Event where
  span : BitVec 64
  code : Nat
  seq : BitVec 16
  param : Word
deriving DecidableEq, Repr

/-- The log's intake, the events held while YCLK stands, and the last window used of every logging limit (00 R492). -/
structure LogState where
  intake : List Event := []
  held : List (Nat × Word) := []
  windows : Tab Nat := []
deriving DecidableEq, Repr
/-- What a tally waiter entry waits for (14 R401, R405; 15 R441). -/
inductive WaitFor where
  /-- The gate of the entry at its ring's issue index. -/
  | gate
  /-- The gate of an EARLY tile that a stall holds. -/
  | early (stall : Nat)
  /-- A WAIT_NOTIFY entry, by its index. -/
  | notify (idx : Nat)
  /-- The gate of a link transfer channel. -/
  | channel (c : Nat)
deriving DecidableEq, Repr

/-- A tally waiter entry (14 Table 14.7). -/
structure Waiter where
  what : WaitFor
  ring : Nat
  tally : Nat
  value : Nat
  consume : Bool
deriving DecidableEq, Repr

/-- The operations that change a tally (14 R404). -/
inductive TOp where
  | add | sub | set
deriving DecidableEq, Repr

/-- An operation on a tally. -/
structure TallyOp where
  op : TOp
  tally : Nat
  value : Nat
deriving DecidableEq, Repr

/-- A ring (14 R397, R398) beyond its registers: the issue index, the entries completed ahead of DI, the gate of the
entry at the issue index, and what a DATA ring names. -/
structure RingSt where
  ii : Nat := 0
  finished : List Nat := []
  gateOk : Bool := false
  tileOut : Bool := false
  arg : Nat := 0
  handler : Nat := 0
  preload : Nat := 0
deriving DecidableEq, Repr

/-- A descriptor active on a Mover channel: its ring, entry and body (14 R409, R411); `ran` once its bytes have moved. -/
structure MoveJob where
  ring : Nat
  idx : Nat
  body : List Byte
  ran : Bool := false
  status : Nat := 0
deriving DecidableEq, Repr

/-- The dispatcher, the tallies' waiters, the Mover and the head store (14, 02 R64). `ops` holds tally operations that
the step in progress has raised and not yet applied; `served` the ring of each class that was served last (R406). -/
structure DispState where
  rings : Tab RingSt := []
  waiters : List Waiter := []
  ops : List TallyOp := []
  notify : List (Nat × Nat) := []
  notifyHeld : List (Nat × Nat) := []
  chans : Tab (List MoveJob) := []
  heads : Tab (List Byte) := []
  served : Tab Nat := []
  stopped : Bool := false
deriving DecidableEq, Repr

/-- Where a script stands (09 R273, R274). -/
inductive ScriptPhase where
  /-- The step at `step` starts next. -/
  | next
  /-- A WRITE or READ is on the bus. -/
  | bus
  | waitInt
  | delay
  /-- A SIGNAL of kind 0 behind one that is held. -/
  | behind
deriving DecidableEq, Repr

/-- A script that runs on a port (09 R271 to R275): its requester is a ring entry, or none for the Yard and for INIT. -/
structure ScriptRun where
  script : Nat
  step : Nat := 0
  phase : ScriptPhase := .next
  looping : Bool := false
  left : Nat := 0
  init : Bool := false
  entry : Option (Nat × Nat) := none
deriving DecidableEq, Repr

/-- A sensor port beyond its registers (09). `line` is what it drives on SPn_D: 0 low, 1 high, 2 released; `bus` the bytes it sends on
its bus in the step on it, in I²C and I3C modes the address and the R/W bit first (R273); `probing` that a probe runs though STATE shows
back-off, FAULT or a hold (R266, R288); `clearDue` that a write to SPT_FAULT_CLR waits for PORTS (01 R37). -/
structure PortSt where
  run : Option ScriptRun := none
  buf : Tab Byte := []
  held : Option (Nat × Nat) := none
  probes : Nat := 0
  nacks : Nat := 0
  intLevel : Option Bool := none
  ibi : Bool := false
  busHeld : Bool := false
  line : Nat := 2
  bus : List Byte := []
  probing : Bool := false
  clearDue : Bool := false
deriving DecidableEq, Repr

/-- A frame being received on a camera port (09 R278, R279). -/
structure FrameIn where
  slot : Nat
  lines : Nat := 0
deriving DecidableEq, Repr

/-- A camera port beyond its registers (09): stopped until the next start (R84, R283), settled after CAM_EN, next slot of
its ring, frame in progress. -/
structure CamSt where
  stopped : Bool := false
  next : Nat := 0
  frame : Option FrameIn := none
deriving DecidableEq, Repr

/-- Sensor heads and cameras (09). Script p × 8 + k of the store is a list of 64-bit step words. `settled` holds from
SETTLE_MS after CAM_EN on; `ledHold` is the indicator hold. -/
structure HeadState where
  ports : Tab PortSt := []
  scripts : Tab (List Nat) := []
  cams : Tab CamSt := []
  settled : Bool := false
  ledHold : Bool := false
deriving DecidableEq, Repr

/-- An entry of the stall weight sets section as the Steward holds it (12 Table 12.1). -/
structure WsetCfg where
  wset : Nat
  format : Nat
  flags : Nat
  stalls : Nat
  offset : Nat
  digest : Nat
  tally : Nat
  stateAddr : Nat
  scaleDst : Nat
  emulAddr : Nat
deriving DecidableEq, Repr

/-- What a stall's programming writes (12 R351): the rows still to be written, in ascending order, and the record it
ends with; `stopped` while an interruption holds it (R353). -/
structure ProgJob where
  rows : List Nat
  origin : Nat
  wset : Nat
  format : Nat
  adapted : Bool
  taint : Nat
  commits : Nat
  stopped : Bool := false
deriving DecidableEq, Repr

/-- A learning commit in progress (12 R357 step 6): its set, the new group scales and level data, and the taint of the state
block. -/
structure CommitSt where
  wset : Nat
  scales : List Byte
  levels : List Byte
  taint : Nat
deriving DecidableEq, Repr

/-- The CIM macros (12). Row r of stall s is 256 s + r; its cells lie at 64 × (256 s + r) in `cells`, and the levels a
programming is to give them in `targets`; `records` holds the record rows (R350). `marks` holds the unverified rows; `recording` the stalls whose programming waits for
its wear record (03 R97); `last` the tick of each set's last commit, `ended` the sets whose interval has elapsed; `blocks` the
rows, columns and MODE of the UPDATE that last wrote a state block at a Loft offset (log 55). -/
structure CimState where
  cells : List Host.Cell := []
  targets : List Host.Cell := []
  records : Tab (List Byte) := []
  wear : Tab Nat := []
  marks : List Nat := []
  offsets : Tab (BitVec 16) := []
  sets : List WsetCfg := []
  queue : List Nat := []
  jobs : Tab ProgJob := []
  waiting : List Nat := []
  last : Tab Nat := []
  ended : List Nat := []
  commit : Option CommitSt := none
  recording : List Nat := []
  blocks : Tab (Nat × Nat × Nat) := []
deriving DecidableEq, Repr

/-- A write a tile has made and that is not visible yet (10 R299). -/
structure TileWrite where
  mem : Mem
  off : Nat
  bytes : List Byte
  taint : Nat
deriving DecidableEq, Repr

/-- A tile's part in an activation-scale slot (11 R332): the step it joined, the scale it latched (in units of 2^-149), its
outputs, how many were clipped, the largest |t|, and the taint of what it read. -/
structure TileNum where
  slot : Nat
  step : Nat
  scale : Nat
  outs : Nat := 0
  clipped : Nat := 0
  peak : Nat := 0
  taint : Nat := 0
deriving DecidableEq, Repr

/-- A tile in flight (10 R294, R299; 14 R401, R407): the entry of the ring it came from, `first` the Loft offset of its first
descriptor or `slot` its head-store slot, `base` the number of its first descriptor in that slot (behind an inner LAST), `pos` that of its
current one; `again` holds once a watchdog has ended it and it is issued again, `ended` once its LAST descriptor has completed or the tile
has ended with `status`. -/
structure TileJob where
  ring : Nat
  idx : Nat
  cls : Nat
  slot : Option Nat := none
  first : Nat
  base : Nat := 0
  pos : Nat := 0
  grant : Bool := false
  gated : Bool := false
  again : Bool := false
  emul : Bool := false
  sticky : Bool := false
  adapted : Bool := false
  taint : Nat := 0
  record : List Byte := []
  recTaint : Nat := 0
  ended : Bool := false
  status : Nat := 0
  tally : Nat := 0
  tallyAdd : Nat := 0
  tileId : Nat := 0
  writes : List TileWrite := []
  releases : List Nat := []
  data : Bool := false
  nums : List TileNum := []
  wset : Nat := 0xFFFF
  notBay : Option Nat := none
deriving DecidableEq, Repr

/-- A range-monitor window that has closed and is to be evaluated (10 R302): its group, its envelope, whether the descriptor
was a CIM_MATMUL, and its 16 counts. -/
structure WinDone where
  group : Nat
  env : Nat
  cim : Bool
  counts : List Nat
deriving DecidableEq, Repr

/-- A step of an activation-scale slot that has not closed (11 R332). -/
structure NumStep where
  done : Nat := 0
  outs : Nat := 0
  clipped : Nat := 0
  peak : Nat := 0
  taint : Nat := 0
deriving DecidableEq, Repr

/-- An activation-scale slot beyond its registers (11 R332 to R336, R346): tiles that have joined, steps closed, the peaks of
the last closed steps (newest first), the base scale once a step has set it, the open steps, and whether the latest closed
step folded tainted outputs. Scales and peaks are in units of 2^-149. -/
structure NumSlot where
  joined : Nat := 0
  closed : Nat := 0
  hist : List Nat := []
  base : Option Nat := none
  steps : Tab NumStep := []
  tainted : Bool := false
deriving DecidableEq, Repr

/-- A stall (10): its tile, the cut tile that waits to resume, its range monitor (ENV in use; histograms of group g at
16 g + bin; level-2 windows in a row per group). -/
structure StallSt where
  tile : Option TileJob := none
  cut : Option TileJob := none
  env : Nat := 0xFF
  hist : Tab Nat := []
  level2 : Tab Nat := []
  cimEnv : Bool := false
  closed : List WinDone := []
deriving DecidableEq, Repr

/-- A range envelope (10 Table 10.7). -/
structure Envelope where
  allowed : Nat
  drift1 : Nat
  drift2 : Nat
  max : List Nat
deriving DecidableEq, Repr

/-- A job entry of the mapping table (10 Table 10.8). -/
structure JobCfg where
  job : Nat
  firstRing : Nat
  rings : Nat
  primary : Nat
  fallback : List Nat
deriving DecidableEq, Repr

/-- The stalls, the tiles waiting to be issued again, and the Geger group's mapping (10 R302 to R318; 15 R443, R444).
`members` is the mapping table's MEMBERS and `digest` the first 8 bytes of the section's SHA-256, `epoch` the last MEMBERSHIP
applied; `owned` are the jobs whose rings this chip arms, `draining` those it loses, `awaiting` those it gains, each with the live
chip that drains it;
`joined` holds once another chip shares its live set. `num` holds the activation-scale slots; `c0Over` that a class-0 tile of this
start has run past C0_RUN_MAX (14 R408). -/
structure FabState where
  stalls : Tab StallSt := []
  num : Tab NumSlot := []
  c0Over : Bool := false
  reissues : List TileJob := []
  envs : List Envelope := []
  jobs : List JobCfg := []
  members : Nat := 0
  digest : Nat := 0
  epoch : Nat := 0
  owned : List Nat := []
  draining : List Nat := []
  awaiting : List (Nat × Nat) := []
  joined : Bool := false
deriving DecidableEq, Repr

/-- The host ports (15): WINSEL, the mailbox arguments and response, the MSI-X table, and PBA. `sent` counts the MSI-X messages
of each vector; vector 0 waits for REC_ACK while `vec0` holds. `freed` is the oldest outbox entry not yet freed, `uart` what is
left of the framed record that UART_CTS_N holds. -/
structure HostState where
  winsel : Word := 0
  mbArgs : List Word := [0, 0, 0, 0]
  mbResp : Word := 0
  msix : Tab Word := []
  pba : Nat := 0
  sent : Tab Nat := []
  vec0 : Bool := false
  freed : Nat := 0
  uart : List Byte := []
deriving DecidableEq, Repr

/-- A frame as a port sends it (15 Tables 15.7, 15.8): its hop sequence, the fields of its header, the port's
frame counter, and its payload. -/
structure TxFrame where
  lseq : Nat
  type : Nat
  taint : Nat
  channel : Nat
  src : Nat
  dst : Nat
  hops : Nat
  ctr : Nat
  count : Nat
  payload : List Byte
deriving DecidableEq, Repr

/-- The Geger link (15 R437 to R444). Per port: the frames awaiting ACK, oldest first (those past the 256th wait to be sent), the
next LSEQ, 1 + the LSEQ expected next (0 before the first frame), the resends of the oldest frame, the buffers the neighbour has
freed. `ctr` holds the frame counters of ports 0 and 1 and, at 2, this chip's end-to-end frame count. `ready` are the channels
whose gate was found satisfied, `sending` those whose DOORBELL frame awaits its ACK. `peers` holds, by chip, the import window and
the trust group of its latest heartbeat. -/
structure LinkState where
  held : Tab (List TxFrame) := []
  lseq : Tab Nat := []
  expect : Tab Nat := []
  resends : Tab Nat := []
  credits : Tab Nat := []
  ctr : Tab Nat := []
  ready : List Nat := []
  sending : List Nat := []
  session : Word := 0
  peers : Tab (Nat × Nat × Nat) := []
deriving DecidableEq, Repr

/-- The JTAG port (16 R463 to R465): the instruction register, whether the holds of 01 R24 stand (until the
next cold start), the latest challenge, when the last
unlock failed, and what the next Capture-DR of DBG_AP returns. -/
structure JtagState where
  ir : Nat := 2
  hold : Bool := false
  challenge : List Byte := []
  failedAt : Option (BitVec 64) := none
  apDone : Bool := false
  apData : Word := 0
deriving DecidableEq, Repr

/-- The part of a recogniser pattern that no register shows (08 Table 08.5); `bad` where its entry alone is invalid (08 R256). -/
structure PatCfg where
  context : Nat := 1
  stride : Nat := 1
  refract : Nat := 0
  netOff : Nat := 0
  layers : Nat := 1
  bad : Bool := false
deriving DecidableEq, Repr

/-- The pre-roll encoder of a microphone: the samples not yet in a block, predictor and step before the first of them, the
flags of their block and the span at its first sample (08 Table 08.6). -/
structure PreEnc where
  samples : List (BitVec 16) := []
  pred : Int := 0
  step : Nat := 0
  start : Bool := true
  settle : Bool := false
  span : Nat := 0
deriving DecidableEq, Repr

/-- The microphones (08). `seq` holds FSEQ of stream x of microphone m at 3 m + x; `coef` DC_LP, GAIN_LP, DC_HQ and
GAIN_HQ of microphone m at 4 m; `hist` the latest 400 samples of each 16 kHz stream, oldest first, none where SETTLE or
RESYNC marks one; `mel` the log-mel frames of each hop, newest first, none where no frame was produced; `tdmHurt` are the TDM streams,
numbered as in `seq`, whose open frame a framing error has hit; `calHq` the microphones whose latest calibration is of the high-quality
path or the TDM conversion, `calDue` those that are due and wait for their path; `written` counts the blocks of the session; `pendEnd` is
the session-end cause that waits for an unload. -/
structure EarState where
  muteSw : Bool := false
  clk0 : Bool := false
  clk1 : Bool := false
  settle0 : Bool := false
  settle1 : Bool := false
  tdmBad : Bool := false
  tdmHurt : List Nat := []
  calHq : List Nat := []
  calDue : List Nat := []
  seq : Tab Nat := []
  coef : Tab (BitVec 16) := []
  defaults : Tab (BitVec 16) := []
  hist : Tab (List (Option (BitVec 16))) := []
  mel : Tab (List (Option (List Byte))) := []
  pats : Tab PatCfg := []
  hits : Tab Nat := []
  key : List Byte := []
  nonce : List Byte := []
  written : Nat := 0
  enc : Tab PreEnc := []
  coding : Bool := false
  pendEnd : Nat := 0
deriving DecidableEq, Repr

/-- A rotation step's part (13 R382). -/
inductive StepPart where
  | none | dark | sweep | pilot | move
deriving DecidableEq, Repr

/-- A Barn bay beyond its registers (13): the tile it runs, the tile cut on it, the map it loads, its rotation step, the line
whose loss it serves or whose move awaits, `exempt` where the one-bay rule does not hold it (R389), and its line losses since the wake. -/
structure BaySt where
  tile : Option TileJob := none
  cut : Option TileJob := none
  loading : Option Nat := none
  part : StepPart := .none
  lostLine : Option Nat := none
  exempt : Bool := false
  losses : Nat := 0
deriving DecidableEq, Repr

/-- The Barn (13). `maps` is the map store (map number to its 1,152 bytes); `setp`, `dark` and `gain` the setpoints by ring and
the coefficients by 32 b + m in use, `copy` and `copyDark` the retained copy of CORE_MGMT (R373). `waiting` holds tiles that wait
for re-issue, `attempts` counts failed comb locks, `failed` stands until the next cold start, `barred` holds the Barn's domains off (R380),
`hint` is a hint's vote. `curves` holds each ring's width and extinction of its latest passing sweep (R372, R384). `due` are the bays whose
step waits (R382, R387); `sweeping` stands while a full sweep runs; `fetched` once the maps section has been read since the store was
lost; `found` are the rings that a wake has not found and whose ready waits for that read (R385). -/
structure BarnState where
  bays : Tab BaySt := []
  maps : Tab (List Byte) := []
  setp : Tab (BitVec 16) := []
  copy : Tab (BitVec 16) := []
  dark : Tab (BitVec 16) := []
  copyDark : Tab (BitVec 16) := []
  gain : Tab (BitVec 16) := []
  waiting : List TileJob := []
  attempts : Nat := 0
  failed : Bool := false
  barred : Bool := false
  hint : Bool := false
  curves : Tab (Nat × Nat) := []
  due : List Nat := []
  sweeping : Bool := false
  fetched : Bool := false
  found : Option (List Nat) := none
deriving DecidableEq, Repr

/-- The key store (16 R453 to R456, R469): private identity key and group key (big-endian bytes, none where no key is
held), the slot each lies in, the killed slots (0 and 1 identity, 2 and 3 group), the staged hashes and envelope. -/
structure KeyState where
  identity : List Byte := []
  group : List Byte := []
  idSlot : Nat := 0
  grpSlot : Nat := 2
  killed : List Nat := []
  staged : List (Nat × Word) := []
  keyin : Tab Word := []
  hot : Bool := false
  filled : Bool := false
  erased : Bool := false
deriving DecidableEq, Repr

/-- The Gate beyond its registers (02 R65, R74): the SOURCE of every armed or disarmed policy entry, by head index, and
whether SPN_STATUS.LOST has been set since the last cold start (R72). -/
structure GateState where
  source : Tab Nat := []
  lost : Bool := false
deriving DecidableEq, Repr


/-- Where the part stands between starts (03 R103, R110, R119; 06 R182; 16 R459, R460). -/
inductive BootPhase where
  /-- VIN_AON is absent or below its reset threshold. -/
  | down
  /-- The internal reset is held; a start of IMG_CAUSE's coming cause is due. -/
  | due
  /-- A start is in progress. -/
  | inStart
  /-- A start has ended; the part runs. -/
  | up
  /-- BOOT_HOLD (R120). -/
  | hold
  /-- VDD_CORE reached its reset threshold; the 1 ms of R182 runs. -/
  | browned
  /-- An L2 alarm of a start waits for a reset (03 R114). -/
  | alarmed
  /-- The L3 actions run, or their hold (16 R460). -/
  | zeroise
deriving DecidableEq, Repr

/-- Starts and the NVM (03). `newest` is the bank of the newest valid copy, `writing` the bank being written, `again` that it
is the retry, `wrote` and `wroteCal` that its body carries wear and calibration results of a write case, `retryBank` the bank whose retry waits; `wearDue` and `calDue` are the write cases of R97 that stand, `calChanged`
changed results behind the interval `calTimer`; `warmHeld` is a WARM_REQ that a start holds (R115). `step` is the step of the
start in progress that has ended last, `warm` that this start reads what a warm start reads, `fellBack` that slot A has just
reached 3 failures (R111). -/
structure BootState where
  phase : BootPhase := .due
  step : Nat := 1
  warm : Bool := false
  fellBack : Bool := false
  cause : Nat := 0
  prev : Nat := 0
  newest : Option Nat := none
  writing : Option Nat := none
  again : Bool := false
  wrote : Bool := false
  wroteCal : Bool := false
  retryBank : Option Nat := none
  wearDue : Bool := false
  calDue : Bool := false
  calChanged : Bool := false
  calTimer : Bool := false
  warmHeld : Bool := false
deriving DecidableEq, Repr

/-- The Pixel Pen (02 R50 to R56): the cause of the whole-Pen wipe in progress, whether the first wipe of this start has
run, and the releases of each slot (port × 4 + slot). -/
structure PenState where
  cause : Nat := 0
  startWiped : Bool := true
  releases : Tab Nat := []
deriving DecidableEq, Repr

/-- The back-off of calibrations (01 R32, R43), keyed by element number; `abandoned` are the elements that are due again, after an
abandoned attempt or the end of a back-off. -/
structure CalState where
  level : Tab Nat := []
  abandoned : List Nat := []
deriving DecidableEq, Repr

/-- The thermal throttle (01 R31): ticks in a row below THROTTLE_OFF, and whether the level set at 110 °C is held. -/
structure ThermState where
  below : Nat := 0
  held : Bool := false
deriving DecidableEq, Repr

/-- The state of the block. `resp` holds the bytes the latest reading command returned; `free` counts the free values
drawn; `pending` is the queue of waiting commands, first in, first out. -/
structure State where
  regs : Tab Word := []
  mem : MemState := {}
  span : SpanState := {}
  pwr : PwrState := {}
  sup : SupState := {}
  yard : YardState := {}
  log : LogState := {}
  pen : PenState := {}
  boot : BootState := {}
  disp : DispState := {}
  head : HeadState := {}
  cim : CimState := {}
  fab : FabState := {}
  host : HostState := {}
  link : LinkState := {}
  jtag : JtagState := {}
  ear : EarState := {}
  barn : BarnState := {}
  keys : KeyState := {}
  gate : GateState := {}
  cal : CalState := {}
  therm : ThermState := {}
  resp : List Byte := []
  free : Nat := 0
  pending : List Instr := []
deriving DecidableEq, Repr

/-- The block right after VIN_AON has risen, before its first start: every register at its reset value, every memory
and queue empty, and the cold start of cause POWER_ON due (03 R110). -/
def State.reset : State := {}

end Sys2Proof.Machine
end

