-- ==== Sys2Proof/Machine/Ops.lean ====
section
/-! DEFINITION. The named operations over registers, memories, taint, the event log and free values. -/

namespace Sys2Proof.Machine

/-- What a command answers. -/
abbrev Out := Host.Outcome State Fault Refusal

/-- A command that has taken effect. -/
def done (s : State) : Out := .next s

/-- `f s` when `c` holds, `s` otherwise. -/
def State.when (s : State) (c : Bool) (f : State → State) : State := if c then f s else s

/-- `f` for each element in turn. -/
def State.each {α : Type} (s : State) (l : List α) (f : State → α → State) : State := l.foldl f s

/-- A master's number: STW_ACCESS_INFO.MASTER, and the key of its SPN_COUNT_HI shadow. -/
def masterCode : Master → Nat
  | .steward => 0
  | .host => 1
  | .spi => 2
  | .debug => 3
  | .i2c => 4

/-! Registers -/

/-- The reset word of instance `i` (13 BRN_BAYb_MAPw is the one register whose instances differ). -/
def RegDef.resetAt (r : RegDef) (i : Nat) : Word :=
  if r.base = R.BRN_BAYb_MAPw.base then
    (if i % 8 = 7 then 0xFF1E1D1C else 0x03020100 + BitVec.ofNat 32 (i % 8) * 0x04040404)
  else r.reset

/-- The address of instance `i`. -/
def RegDef.at (r : RegDef) (i : Nat) : Nat := r.base + i * r.stride

/-- The word instance `i` of a register holds. -/
def State.reg (s : State) (r : RegDef) (i : Nat) : Word := tblGet (fun _ => r.resetAt i) s.regs (r.at i)

/-- Hardware sets the whole word. -/
def State.setReg (s : State) (r : RegDef) (i : Nat) (w : Word) : State :=
  { s with regs := tblPut (fun _ => r.resetAt i) s.regs (r.at i) w }

/-- The bits of a field. -/
def Fld.mask (f : Fld) : Word := BitVec.ofNat 32 ((2 ^ f.width - 1) * 2 ^ f.lo)

/-- A field of a word, as a number. -/
def Fld.of (f : Fld) (w : Word) : Nat := bitsOf w.toNat f.lo f.width

/-- The word with the field holding `v` (its low bits). -/
def Fld.put (f : Fld) (w : Word) (v : Nat) : Word :=
  (w &&& ~~~ f.mask) ||| (BitVec.ofNat 32 (v * 2 ^ f.lo) &&& f.mask)

/-- A field of instance `i`. -/
def State.getAt (s : State) (f : Fld) (i : Nat) : Nat := f.of (s.reg f.reg i)

/-- A field of a register with one instance. -/
def State.get (s : State) (f : Fld) : Nat := s.getAt f 0

/-- A one-bit field. -/
def State.flag (s : State) (f : Fld) : Bool := s.get f == 1

/-- Hardware sets a field of instance `i`. -/
def State.setAt (s : State) (f : Fld) (i v : Nat) : State := s.setReg f.reg i (f.put (s.reg f.reg i) v)

/-- Hardware sets a field. -/
def State.set (s : State) (f : Fld) (v : Nat) : State := s.setAt f 0 v

/-- A counter field of instance `i` gains `n`, saturating. -/
def State.addAt (s : State) (f : Fld) (i n : Nat) : State := s.setAt f i (satAdd f.width (s.getAt f i) n)

/-- A counter field gains 1, saturating. -/
def State.inc (s : State) (f : Fld) : State := s.addAt f 0 1

/-- A counter field of instance `i` gains 1, saturating. -/
def State.incAt (s : State) (f : Fld) (i : Nat) : State := s.addAt f i 1

/-- Bit `n` of a mask that runs over 32-bit instances. -/
def State.maskBit (s : State) (r : RegDef) (n : Nat) : Bool := (s.reg r (n / 32)).getLsbD (n % 32)

/-- Set or clear bit `n` of such a mask. -/
def State.setMaskBit (s : State) (r : RegDef) (n : Nat) (b : Bool) : State :=
  s.setReg r (n / 32) (BitVec.ofNat 32 (setBitOf (s.reg r (n / 32)).toNat (n % 32) b))

/-- The register table and instance at an address of the register range, if its block defines one there. -/
def regAt (a : Nat) : Option (RegDef × Nat) :=
  match (blockRegs ((a - 0x40000000) / 0x10000)).find?
      (fun r => r.base ≤ a && (a - r.base) % r.stride == 0 && (a - r.base) / r.stride < r.count) with
  | some r => some (r, (a - r.base) / r.stride)
  | none => none

/-- `f` of the register and instance found, `d` where none is. -/
def withReg {α : Type} (q : Option (RegDef × Nat)) (d : α) (f : RegDef → Nat → α) : α :=
  match q with
  | some (r, i) => f r i
  | none => d

/-- A block homed in CORE_MGMT (01 Table 01.6); the others are homed in AON. -/
def coreHomed (a : Nat) : Bool :=
  let b := (a - 0x40000000) / 0x10000
  (6 ≤ b && b ≤ 20) || b == 22

/-- Register words after a reset that keeps only the bits `keep` selects; `pick` says which addresses it reaches. -/
def resetWords (pick : Nat → Bool) (keep : RegDef → Word) (t : Tab Word) : Tab Word :=
  t.filterMap fun p =>
    if pick p.1 then
      withReg (regAt p.1) none fun r i =>
        let w := (p.2 &&& keep r) ||| (r.resetAt i &&& ~~~ keep r)
        if w = r.resetAt i then none else some (p.1, w)
    else some p

/-! Free values -/

/-- Draw a free value: the counter moves on (log 2). -/
def State.draw (s : State) : State := { s with free := s.free + 1 }

/-! Memories -/

/-- The loss that the contents of a LOFT domain's, or of row `r`'s, memory date from: 0 none. -/
def MemState.lossLoft (m : MemState) (k : Nat) : Nat := if k < 4 then elGet 0 m.lost (12 + k) else 0
def MemState.lossRow (m : MemState) (r : Nat) : Nat := if r < 12 then elGet 0 m.lost r else 0

/-- That of stall `st`'s SRAM: its own, else its row's. -/
def MemState.lossStall (m : MemState) (st : Nat) : Nat :=
  if elGet 0 m.lost (16 + st) = 0 then m.lossRow (st / 8) else elGet 0 m.lost (16 + st)

/-- What an unlisted Loft byte reads as: 0, or the free contents of a domain that lost its own (log 5). -/
def loftDefault (m : MemState) (a : Nat) : Byte :=
  if m.lossLoft (a / 0x400000) = 0 then 0 else Config.lostByte (m.lossLoft (a / 0x400000)) a

/-- What an unlisted stall-SRAM byte reads as; stall s lies at s × 0x2_0000 and row r holds stalls 8r to 8r + 7. -/
def stallDefault (m : MemState) (a : Nat) : Byte :=
  if m.lossStall (a / 0x20000) = 0 then 0 else Config.lostByte (m.lossStall (a / 0x20000)) (0x10000000 + a)

/-- An unlisted byte of the Yard SRAM and of the Pen reads 0; of the NVM, erased, 0xFF (log 6). -/
def zeroDefault (_ : Nat) : Byte := 0
def nvmDefault (_ : Nat) : Byte := 0xFF

/-- The taint of an unlisted plot: clean, or P and S where the contents were lost (02 R87). -/
def loftTaintDefault (m : MemState) (p : Nat) : Nat := if m.lossLoft (p / 1024) = 0 then 0 else 3
def stallTaintDefault (m : MemState) (p : Nat) : Nat := if m.lossStall (p / 32) = 0 then 0 else 3

/-- The memory's canonical form: every memory and every taint table lists rising addresses, none holding what it reads as
unlisted. -/
def Memory.wf (m : MemState) : Bool :=
  decide (TblWf (loftDefault m) m.loft) && decide (TblWf zeroDefault m.yard) && decide (TblWf (stallDefault m) m.stall)
    && decide (TblWf zeroDefault m.pen) && decide (TblWf nvmDefault m.nvm) && decide (TblWf (loftTaintDefault m) m.tLoft)
    && decide (TblWf (fun _ => 0) m.tYard) && decide (TblWf (stallTaintDefault m) m.tStall)

/-- Their sizes in bytes. -/
def Mem.size : Mem → Nat
  | .loft => 0x1000000
  | .yard => 0x100000
  | .stall => 0xC00000

/-- `n` bytes of a memory from offset `off`. -/
def MemState.read (m : MemState) (w : Mem) (off n : Nat) : List Byte :=
  match w with
  | .loft => tblGetRange (loftDefault m) m.loft off n
  | .yard => tblGetRange zeroDefault m.yard off n
  | .stall => tblGetRange (stallDefault m) m.stall off n

/-- The taint of a plot: bit 0 P, bit 1 S. -/
def MemState.plot (m : MemState) (w : Mem) (p : Nat) : Nat :=
  match w with
  | .loft => tblGet (loftTaintDefault m) m.tLoft p
  | .yard => elGet 0 m.tYard p
  | .stall => tblGet (stallTaintDefault m) m.tStall p

/-- Set the taint of a plot. -/
def MemState.setPlot (m : MemState) (w : Mem) (p t : Nat) : MemState :=
  match w with
  | .loft => { m with tLoft := tblPut (loftTaintDefault m) m.tLoft p t }
  | .yard => { m with tYard := elPut 0 m.tYard p t }
  | .stall => { m with tStall := tblPut (stallTaintDefault m) m.tStall p t }

/-- Store bytes; taint is not touched. -/
def MemState.store (m : MemState) (w : Mem) (off : Nat) (bs : List Byte) : MemState :=
  match w with
  | .loft => { m with loft := tblPutRange (loftDefault m) m.loft off bs }
  | .yard => { m with yard := tblPutRange zeroDefault m.yard off bs }
  | .stall => { m with stall := tblPutRange (stallDefault m) m.stall off bs }

/-- The plots that bytes [off, off + n) touch. -/
def plotsOf (off n : Nat) : List Nat :=
  if n = 0 then [] else (List.range ((off + n - 1) / 4096 - off / 4096 + 1)).map (· + off / 4096)

/-- OR of the taint of every plot of [off, off + n). -/
def MemState.taint (m : MemState) (w : Mem) (off n : Nat) : Nat :=
  (plotsOf off n).foldl (fun t p => t ||| m.plot w p) 0

/-- The taint rule of 02 R59 for one plot of a write of [off, off + n) with the writer's taint `t`: a write that covers
the whole plot leaves it at `t`, any other ORs `t` in. -/
def MemState.taintPlot (m : MemState) (w : Mem) (off n t p : Nat) : MemState :=
  if off ≤ 4096 * p && 4096 * p + 4096 ≤ off + n then m.setPlot w p t else m.setPlot w p (m.plot w p ||| t)

/-- A write with the writer's taint (02 R59). -/
def MemState.write (m : MemState) (w : Mem) (off : Nat) (bs : List Byte) (t : Nat) : MemState :=
  (plotsOf off bs.length).foldl (fun m p => m.taintPlot w off bs.length t p) (m.store w off bs)

/-- Bytes of the NVM. -/
def MemState.nvmRead (m : MemState) (off n : Nat) : List Byte := tblGetRange nvmDefault m.nvm off n

/-- Bytes the NVM takes. -/
def MemState.nvmWrite (m : MemState) (off : Nat) (bs : List Byte) : MemState :=
  { m with nvm := tblPutRange nvmDefault m.nvm off bs }

/-- Bytes of the Pen (02 R50). -/
def MemState.penRead (m : MemState) (off n : Nat) : List Byte := tblGetRange zeroDefault m.pen off n

/-- Bytes a camera port writes into the Pen. -/
def MemState.penWrite (m : MemState) (off : Nat) (bs : List Byte) : MemState :=
  { m with pen := tblPutRange zeroDefault m.pen off bs }

/-- The wipe engine zero-fills [off, off + n) of the Pen (02 R55). -/
def MemState.penZero (m : MemState) (off n : Nat) : MemState := { m with pen := tblDrop m.pen off n }

/-- Bytes [off, off + n) and plots [p, p + k) of domain `d`'s part of a memory read as unlisted, dated from loss `e`. -/
def MemState.loseRow (m : MemState) (d e : Nat) : MemState :=
  { m with lost := (List.range 8).foldl (fun l p => elPut 0 l (16 + 8 * d + p) 0) (elPut 0 m.lost d e)
           stall := tblDrop m.stall (d * 0x100000) 0x100000, tStall := tblDrop m.tStall (d * 256) 256 }

/-- The same for the SRAM of one stall. -/
def MemState.loseStall (m : MemState) (st e : Nat) : MemState :=
  { m with lost := elPut 0 m.lost (16 + st) e, stall := tblDrop m.stall (st * 0x20000) 0x20000,
           tStall := tblDrop m.tStall (st * 32) 32 }

def MemState.loseLoft (m : MemState) (d e : Nat) : MemState :=
  { m with lost := elPut 0 m.lost d e, loft := tblDrop m.loft ((d - 12) * 0x400000) 0x400000,
           tLoft := tblDrop m.tLoft ((d - 12) * 1024) 1024 }

/-- A ROW (0 to 11) or LOFT (12 to 15) domain switched off loses its contents; they are dated by a fresh draw. -/
def State.loseDomain (s : State) (d : Nat) : State :=
  if d < 12 then { s with free := s.free + 1, mem := s.mem.loseRow d (s.free + 1) }
  else if d < 16 then { s with free := s.free + 1, mem := s.mem.loseLoft d (s.free + 1) }
  else s

/-- A stall that a fence powers down within its row loses its SRAM (10 R314 step 4; log 220). -/
def State.loseStall (s : State) (st : Nat) : State :=
  if st < 96 then { s with free := s.free + 1, mem := s.mem.loseStall st (s.free + 1) } else s

/-- Zero-fill of such a domain: contents 0, plots clean (02 R86, 03 R103 step 6, 16 R460). -/
def State.zeroDomain (s : State) (d : Nat) : State :=
  if d < 12 then { s with mem := s.mem.loseRow d 0 }
  else if d < 16 then { s with mem := s.mem.loseLoft d 0 }
  else s

/-- Zero-fill of the Yard SRAM, except the event-log plot (07 R208). -/
def State.zeroYard (s : State) : State :=
  { s with mem := { s.mem with yard := s.mem.yard.filter (fun p => 0x4000 ≤ p.1 && p.1 < 0x5000)
                               tYard := s.mem.tYard.filter (fun p => p.1 == 4) } }

/-- Bytes of the Yard SRAM. -/
def State.yardRead (s : State) (off n : Nat) : List Byte := s.mem.read .yard off n

/-- A write of the Yard SRAM with taint. -/
def State.yardWrite (s : State) (off : Nat) (bs : List Byte) (t : Nat) : State :=
  { s with mem := s.mem.write .yard off bs t }

/-! The event log (07 R222, 00 R492) -/

/-- The logging limit of a code: the length of its windows in span ticks, and whether its scope is the first parameter
byte (`some false`), both parameters (`some true`) or the code alone. -/
def eventLimit (code : Nat) : Option (Nat × Option Bool) :=
  if code = 0x0110 ∨ code = 0x0213 ∨ code = 0x0301 ∨ code = 0x0302 ∨ code = 0x0314 ∨ (0x0702 ≤ code ∧ code ≤ 0x0707)
      ∨ (0x0C02 ≤ code ∧ code ≤ 0x0C0B) ∨ code = 0x0D02 ∨ code = 0x0D14 ∨ code = 0x0D16 then some (1024, none)
  else if code = 0x050C then some (1024000, none)
  else if code = 0x0E00 then some (1024, some false)
  else if code = 0x0403 ∨ code = 0x0614 ∨ code = 0x0802 ∨ (0x0900 ≤ code ∧ code ≤ 0x0906) ∨ code = 0x0A10
      ∨ code = 0x0B10 ∨ code = 0x0B11 then some (1024000, some false)
  else if code = 0x0810 then some (1024000, some true)
  else none

/-- The window a limit counts in now: span ticks; 0x0712 counts management ticks, 0x0201 runs of 32 rate windows, counted from power-on
through every start (DESIGN CHOICE, log 203). -/
def State.window (s : State) (code : Nat) : Option Nat :=
  if code = 0x0712 then some s.span.ticks
  else if code = 0x0201 then some ((s.span.rateWins - 1) / 32)
  else (eventLimit code).map fun l => spanWindow s.span.count.toNat l.1

/-- The key of a limit's windows: code and scope. -/
def limitKey (code : Nat) (param : Word) : Nat :=
  match eventLimit code with
  | some (_, some false) => code + 0x10000 * (1 + param.toNat % 256)
  | some (_, some true) => code + 0x10000 * (1 + param.toNat)
  | _ => code

/-- An event that no limit holds back enters the intake with the next SEQ, or is suppressed at a full intake; while
YCLK stands its source holds it. -/
def State.enter (s : State) (code : Nat) (param : Word) : State :=
  if s.span.running then
    let seq := s.get F.LOG_NEXT_SEQ
    let s1 := s.set F.LOG_NEXT_SEQ ((seq + 1) % 65536)
    if s1.log.intake.length < 32 then
      { s1 with log := { s1.log with intake := s1.log.intake ++ [⟨s1.span.count, code, BitVec.ofNat 16 seq, param⟩] } }
    else s1.inc F.LOG_STATUS_SUPPRESSED
  else { s with log := { s.log with held := s.log.held ++ [(code, param)] } }

/-- Raise an event under its logging limit (R492): the first of each window enters. While the span clock stands the counter's value at
the raise decides the window, and a held event is not checked again at its release (DESIGN CHOICE, log 204). -/
def State.raise (s : State) (code : Nat) (param : Word) : State :=
  match s.window code with
  | none => s.enter code param
  | some w =>
    if elGet 0 s.log.windows (limitKey code param) = w + 1 then s
    else { s with log := { s.log with windows := elPut 0 s.log.windows (limitKey code param) (w + 1) } }.enter code param

/-- An event with one parameter, saturating at 32 bits (07 R222). -/
def State.ev (s : State) (code p : Nat) : State := s.raise code (BitVec.ofNat 32 (satTo 32 p))

/-- An event with two parameters: bits [7:0] and [31:8], each saturating (07 R222). -/
def State.ev2 (s : State) (code p q : Nat) : State :=
  s.raise code (BitVec.ofNat 32 (satTo 8 p + 256 * satTo 24 q))

/-- The order events of one YCLK cycle enter in: code, then first parameter, then second (07 R222). -/
def eventKey (e : Nat × Word) : Nat := (e.1 * 256 + e.2.toNat % 256) * 16777216 + e.2.toNat / 256

/-- Put an event among events in that order. -/
def insertEvent (e : Nat × Word) : List (Nat × Word) → List (Nat × Word)
  | [] => [e]
  | x :: xs => if eventKey e < eventKey x then e :: x :: xs else x :: insertEvent e xs

/-- The events held while YCLK stood, and `extra`, are raised as it runs again, in the order of one cycle (07 R222). -/
def State.releaseHeld (s : State) (extra : List (Nat × Word)) : State :=
  { s with log := { s.log with held := [] } }.each ((s.log.held ++ extra).foldl (fun l e => insertEvent e l) [])
    fun s e => s.enter e.1 e.2

/-- Bytes 0 to 15 of a log entry (07 Table 07.8). -/
def Event.bytes (e : Event) : List Byte :=
  leBytes 8 e.span.toNat ++ leBytes 2 e.code ++ leBytes 2 e.seq.toNat ++ leBytes 4 e.param.toNat

/-- The log writer takes the oldest waiting entry and writes it at LOG_NEXT.INDEX (07 R222). -/
def State.writeLog (s : State) : State :=
  match s.log.intake with
  | [] => s
  | e :: rest =>
    let i := s.get F.LOG_NEXT_INDEX
    ({ s with log := { s.log with intake := rest }
              mem := s.mem.store .yard (0x4000 + 16 * i) e.bytes }.set F.LOG_NEXT_INDEX ((i + 1) % 256)).when
      (i = 255) (fun s => s.set F.LOG_NEXT_WRAPPED 1)

/-- The log writer takes every waiting entry. -/
def State.drainLog (s : State) : State := s.each s.log.intake fun s _ => s.writeLog

/-- The bytes a reading command returns. -/
def State.answer (s : State) (bs : List Byte) : State := { s with resp := bs }

/-- The domain's level: 0 off, 1 retain, 2 on (05 R151). -/
def State.level (s : State) (d : Nat) : Nat := elGet 0 s.pwr.level d

/-- CORE_MGMT is on: the Steward, the dispatcher, the Mover and the Gate run. -/
def State.coreOn (s : State) : Bool := s.level 23 == 2

/-- The part runs: a start has ended and none has begun since. -/
def State.isUp (s : State) : Bool := s.boot.phase == .up

/-- A bank of 17's list lies above its 1.2 V detector (17 R485); below it, its inputs read inactive. -/
def State.bankOk (s : State) (b : Nat) : Bool := !s.sup.bankLow.contains b

end Sys2Proof.Machine
end

