-- ==== Sys2Proof/Machine/P256.lean ====
section
/-! DEFINITION. ECDSA and ECDH on the curve P-256 (FIPS 186-5, SEC 1), as image signatures, debug tokens and group-key
envelopes use them (03 R100; 16 R456, R465). -/

namespace Sys2Proof.Machine

/-- The field prime, the group order, the coefficient b and the base point. -/
def p256P : Nat := 0xffffffff00000001000000000000000000000000ffffffffffffffffffffffff
def p256N : Nat := 0xffffffff00000000ffffffffffffffffbce6faada7179e84f3b9cac2fc632551
def p256B : Nat := 0x5ac635d8aa3a93e7b3ebbd55769886bc651d06b0cc53b0f63bce3c3e27d2604b
def p256Gx : Nat := 0x6b17d1f2e12c4247f8bce6e563a440f277037d812deb33a0f4a13945d898c296
def p256Gy : Nat := 0x4fe342e2fe1a7f9b8ee7eb4a7c0f9e162bce33576b315ececbb6406837bf51f5

/-- a^e mod m, by the bits of e from the top; the fuel is their number. -/
def powModGo : Nat → Nat → Nat → Nat → Nat → Nat
  | 0, _, _, _, r => r
  | n + 1, a, e, m, r => powModGo n a e m (if e.testBit n then r * r % m * a % m else r * r % m)

/-- a^e mod m for exponents of at most 256 bits. -/
def powMod (a e m : Nat) : Nat := powModGo 256 a e m 1

/-- The inverse modulo a prime. -/
def invMod (a m : Nat) : Nat := powMod a (m - 2) m

/-- A point in Jacobian coordinates; z = 0 is the point at infinity. -/
structure Jac where
  x : Nat
  y : Nat
  z : Nat
deriving DecidableEq, Repr

/-- (a − b) mod p. -/
def subP (a b : Nat) : Nat := (a + p256P - b % p256P) % p256P

/-- Doubling, with a = −3. -/
def Jac.dbl (q : Jac) : Jac :=
  let p := p256P
  let zz := q.z * q.z % p
  let m := 3 * (subP q.x zz) * (q.x + zz) % p
  let yy := q.y * q.y % p
  let s := 4 * q.x * yy % p
  let x := subP (m * m) (2 * s)
  ⟨x, subP (m * subP s x) (8 * yy * yy), 2 * q.y * q.z % p⟩

/-- Addition. -/
def Jac.add (a b : Jac) : Jac :=
  if a.z = 0 then b
  else if b.z = 0 then a
  else
    let p := p256P
    let za := a.z * a.z % p
    let zb := b.z * b.z % p
    let u1 := a.x * zb % p
    let u2 := b.x * za % p
    let s1 := a.y * zb * b.z % p
    let s2 := b.y * za * a.z % p
    if u1 = u2 then (if s1 = s2 then a.dbl else ⟨1, 1, 0⟩)
    else
      let h := subP u2 u1
      let r := subP s2 s1
      let hh := h * h % p
      let hhh := h * hh % p
      let v := u1 * hh % p
      let x := subP (r * r) (hhh + 2 * v)
      ⟨x, subP (r * subP v x) (s1 * hhh), h * a.z * b.z % p⟩

/-- k × q, by the bits of k from the top. -/
def Jac.mulGo : Nat → Nat → Jac → Jac → Jac
  | 0, _, _, r => r
  | n + 1, k, q, r => Jac.mulGo n k q (if k.testBit n then r.dbl.add q else r.dbl)

/-- k × q. -/
def Jac.mul (k : Nat) (q : Jac) : Jac := Jac.mulGo 256 k q ⟨1, 1, 0⟩

/-- The affine x and y coordinates. -/
def Jac.affX (q : Jac) : Nat := let i := invMod q.z p256P; q.x * (i * i % p256P) % p256P
def Jac.affY (q : Jac) : Nat := let i := invMod q.z p256P; q.y * (i * i % p256P) % p256P * i % p256P

/-- (x, y) is a point of the curve. -/
def onCurve (x y : Nat) : Bool :=
  x < p256P && y < p256P && y * y % p256P == (x * x % p256P * x + 3 * (p256P - x) + p256B) % p256P

/-- The base point. -/
def p256G : Jac := ⟨p256Gx, p256Gy, 1⟩

/-- ECDSA verification of (r, s) over hash `e` under the public key (x, y). -/
def ecdsaVerify (x y e r s : Nat) : Bool :=
  onCurve x y && 0 < r && r < p256N && 0 < s && s < p256N &&
    (let w := invMod s p256N
     let q := (Jac.mul (e * w % p256N) p256G).add (Jac.mul (r * w % p256N) ⟨x, y, 1⟩)
     q.z != 0 && q.affX % p256N == r)

/-- The x-coordinate of ECDH between a private key and a point, where the point is valid (R456). -/
def ecdhX (k x y : Nat) : Option Nat := if onCurve x y then some (Jac.mul k ⟨x, y, 1⟩).affX else none

/-- A private key from random bytes: in 1 to n − 1. -/
def privateKey (rnd : List Byte) : Nat := beNat rnd % (p256N - 1) + 1

/-- The 64 public bytes of a private key: x then y, big-endian. -/
def publicBytes (k : Nat) : List Byte :=
  let q := Jac.mul k p256G
  beBytes 32 q.affX ++ beBytes 32 q.affY

end Sys2Proof.Machine
end

