-- ==== Sys2Proof/Machine/Image.lean ====
section
/-! DEFINITION. The NVM's contents: state-area banks, the image header, signature and sections, sealed register values,
calibration defaults and Barn maps (03 R93 to R102; 13 R379). -/

namespace Sys2Proof.Machine

/-! The state area (R93 to R95) -/

/-- Where a bank begins. -/
def bankBase (b : Nat) : Nat := 0x8000000 + 0x80000 * b

/-- Bytes of a bank. -/
def State.bankRead (s : State) (b off n : Nat) : List Byte := s.mem.nvmRead (bankBase b + off) n

/-- The bytes a bank's DIGEST covers. -/
def State.bankBody (s : State) (b : Nat) : List Byte := s.bankRead b 0x40 0x280D0

/-- A bank is valid (R95). -/
def State.bankValid (s : State) (b : Nat) : Bool :=
  let h := s.bankRead b 0 64
  fieldAt h 0 4 == 0x5A535441 && fieldAt h 4 2 == 1 && fieldAt h 12 4 == 0x280D0 && slice h 32 32 == sha256 (s.bankBody b)

/-- SEQ of a bank. -/
def State.bankSeq (s : State) (b : Nat) : Nat := fieldAt (s.bankRead b 0 64) 8 4

/-- Sequence `a` is later than `b`. -/
def seqLater (a b : Nat) : Bool := let d := (a + 2 ^ 32 - b) % 2 ^ 32; 1 ≤ d && d ≤ 2 ^ 31 - 1

/-- The newest valid bank. -/
def State.newestBank (s : State) : Option Nat :=
  match s.bankValid 0, s.bankValid 1 with
  | true, true => some (if seqLater (s.bankSeq 1) (s.bankSeq 0) then 1 else 0)
  | true, false => some 0
  | false, true => some 1
  | false, false => none

/-- `n` halfwords of a bank from an offset. -/
def State.bankHalves (s : State) (b off n : Nat) : List (BitVec 16) :=
  (halves (s.bankRead b off (2 * n))).map (BitVec.ofNat 16)

/-! The image (R98 to R100) -/

/-- Where a slot begins. -/
def slotBase (slot : Nat) : Nat := 0x4000000 * slot

/-- Header and section table of the image in a slot. -/
def State.imgHead (s : State) (slot : Nat) : List Byte := s.mem.nvmRead (slotBase slot) 640

/-- The table entry of section `id` (2 to 13). -/
def secEntry (h : List Byte) (id : Nat) : List Byte := slice h (64 + 48 * (id - 2)) 48

/-- OFFSET, LENGTH and DIGEST of a section. -/
def secOff (h : List Byte) (id : Nat) : Nat := fieldAt (secEntry h id) 4 4
def secLen (h : List Byte) (id : Nat) : Nat := fieldAt (secEntry h id) 8 4
def secDigest (h : List Byte) (id : Nat) : List Byte := slice (secEntry h id) 16 32

/-- The IDs of the table. -/
def secIds : List Nat := (List.range 12).map (· + 2)

/-- A section's place keeps to R99: absent, or aligned, behind the table, within SIZE and apart from every other one. -/
def secPlaced (h : List Byte) (id : Nat) : Bool :=
  let o := secOff h id
  let l := secLen h id
  l == 0 || o % 64 == 0 && 640 ≤ o && decide (o + l ≤ fieldAt h 8 4)
    && secIds.all fun k => k == id || secLen h k == 0 || decide (o + l ≤ secOff h k) || decide (secOff h k + secLen h k ≤ o)

/-- The header is valid (R99). -/
def headValid (h : List Byte) : Bool :=
  fieldAt h 0 4 == 0x5A393649 && fieldAt h 4 2 == 1 && fieldAt h 6 2 == 12 && fieldAt h 8 4 ≤ 0x3000000 && byteAt h 12 ≤ 2
    && zeroAt h 13 3 && zeroAt h 20 44
    && secIds.all (fun id => byteAt (secEntry h id) 0 == id && zeroAt (secEntry h id) 1 3 && zeroAt (secEntry h id) 12 4
      && secPlaced h id)
    && secLen h 2 != 0 && secLen h 3 != 0 && (secDigest h 2).all (· == 0)

/-- The bytes of a section; none where it is absent, or where a later header no longer places it (log 153). -/
def State.section (s : State) (slot : Nat) (h : List Byte) (id : Nat) : List Byte :=
  if secPlaced h id then s.mem.nvmRead (slotBase slot + secOff h id) (secLen h id) else []

/-- A present section's bytes match its digest. -/
def State.secGood (s : State) (slot : Nat) (h : List Byte) (id : Nat) : Bool :=
  secLen h id == 0 || sha256 (s.section slot h id) == secDigest h id

/-- The image root key hash (16 R452). -/
def State.rootHash (s : State) : List Byte := ((List.range 8).map fun k => leBytes 4 (s.reg R.SEC_OTP_HASHk k).toNat).flatten

/-- The signature section and the signature pass (R100). -/
def State.signatureGood (s : State) (slot : Nat) (h : List Byte) : Bool :=
  let g := s.section slot h 2
  secLen h 2 == 144 && fieldAt g 0 2 == 1 && zeroAt g 2 14 && sha256 (slice g 16 64) == s.rootHash
    && ecdsaVerify (beNat (slice g 16 32)) (beNat (slice g 48 32)) (beNat (sha256 h)) (beNat (slice g 80 32))
      (beNat (slice g 112 32))

/-! Sealed register values (R101) -/

/-- The entries of section 3: address and value. -/
def sealedList (b : List Byte) : List (Nat × Word) :=
  (List.range (b.length / 8)).map fun i => (fieldAt b (8 * i) 4, BitVec.ofNat 32 (fieldAt b (8 * i + 4) 4))

/-- The section keeps to R101. -/
def sealedValid (b : List Byte) : Bool :=
  let l := sealedList b
  b.length % 8 == 0 && ((l.zip (l.drop 1)).all fun p => decide (p.1.1 < p.2.1))
    && l.all fun p => inRange p.1 && match regAt p.1 with
      | some (r, _) => r.sl3 != 0 && p.2 &&& ~~~ r.sl3 == 0
      | none => false
where
  inRange (a : Nat) : Bool := 0x40000000 ≤ a && a < 0x40190000

/-- They load the SL fields that take their values from this section, in the registers `pick` selects. -/
def State.loadSealed (s : State) (pick : Nat → Bool) (b : List Byte) : State :=
  s.each ((sealedList b).filter fun p => pick p.1) fun s p =>
    withReg (regAt p.1) s fun r i => s.setReg r i ((s.reg r i &&& ~~~ r.sl3) ||| (p.2 &&& r.sl3))

/-! Calibration defaults (R102) -/

/-- LENGTH of a record of each KIND (Table 03.15). -/
def defLen (kind : Nat) : Nat := match kind with | 1 => 49152 | 2 => 128 | 3 => 256 | 4 => 16 | _ => 0

/-- The records behind an offset: KIND and offset of the data; none where one breaks R102. -/
def defRecords (b : List Byte) : Nat → Nat → Option (List (Nat × Nat))
  | 0, off => if off = b.length then some [] else none
  | n + 1, off =>
    let kind := byteAt b off
    let len := fieldAt b (off + 4) 4
    let pad := (len + 7) / 8 * 8 - len
    if kind = 0 ∨ 4 < kind ∨ len ≠ defLen kind ∨ !zeroAt b (off + 1) 3 ∨ !zeroAt b (off + 8 + len) pad
        ∨ b.length < off + 8 + len + pad then none
    else (defRecords b n (off + 8 + len + pad)).map fun l => (kind, off + 8) :: l

/-- The section's records; none where it is invalid. -/
def defSection (b : List Byte) : Option (List (Nat × Nat)) :=
  if fieldAt b 0 2 ≠ 1 ∨ 4 < fieldAt b 2 2 ∨ !zeroAt b 4 12 then none
  else match defRecords b (fieldAt b 2 2) 16 with
    | some l => if (l.map (·.1)).Nodup then some l else none
    | none => none

/-- The halfwords of a record; none where it is absent or the section invalid. -/
def defHalves (b : List Byte) (kind : Nat) : Option (List (BitVec 16)) :=
  match (defSection b).getD [] |>.find? fun p => p.1 == kind with
  | some p => some ((halves (slice b p.2 (defLen kind))).map (BitVec.ofNat 16))
  | none => none

/-- A table of halfwords from number 0 on. -/
def halfTab (l : List (BitVec 16)) : Tab (BitVec 16) := tblCells (fun _ => 0) 0 l

/-! Barn maps (13 R379) -/

/-- The data of a map keeps to Table 13.4 and its scales are positive and finite. -/
def mapFine (d : List Byte) : Bool :=
  d.length == 1152
    && (List.range 32).all (fun m => byteAt d (32 * m + 31) == 0 && (slice d (32 * m) 31).all fun w => w != 0x80)
    && (halves (slice d 1024 64)).all (fun c => 0 < c && c < 0x7C00) && zeroAt d 1088 64

/-- The entries of the section: map number and its data. -/
def barnEntries (b : List Byte) : List (Nat × List Byte) :=
  (List.range (byteAt b 2)).map fun i => (fieldAt b (16 + 16 * i) 2, slice b (fieldAt b (20 + 16 * i) 4) 1152)

/-- The section is valid. -/
def barnValid (b : List Byte) : Bool :=
  let es := barnEntries b
  16 ≤ b.length && fieldAt b 0 2 == 1 && byteAt b 2 ≤ 64 && zeroAt b 3 13
    && (List.range (byteAt b 2)).all (fun i => let e := slice b (16 + 16 * i) 16
      e.length == 16 && fieldAt e 0 2 < 64 && zeroAt e 2 2 && fieldAt e 4 4 % 64 == 0 && fieldAt e 8 4 == 1152 && zeroAt e 12 4
        && decide (16 + 16 * byteAt b 2 ≤ fieldAt e 4 4))
    && decide (es.map (·.1)).Nodup && es.all fun e => mapFine e.2

end Sys2Proof.Machine
end

