-- ==== Sys2Proof/Machine/Domains.lean ====
section
/-! DEFINITION. Power domains, votes and chip-state requests as shared operations (05). -/

namespace Sys2Proof.Machine

/-- Domain groups of Table 05.3. -/
def isRow (d : Nat) : Bool := d < 12
def isLoft (d : Nat) : Bool := 12 ≤ d && d < 16
def isBarn (d : Nat) : Bool := d == 16 || d == 17

/-- Table 05.1: the highest level of domain `d` in chip state `st` (0 Run to 3 Rest). -/
def ceilOf (st d : Nat) : Nat :=
  if st = 0 then 2
  else if st = 3 then 0
  else if isRow d then 1
  else if isLoft d then (if st = 1 then 2 else 1)
  else if isBarn d then 0
  else if d = 19 ∨ d = 20 then 2
  else (if st = 1 then 2 else 0)

/-- The chip state a transition in flight leads to next: one step down, or one step up (05 R155). -/
def PwrState.nextState (p : PwrState) : Nat :=
  match p.fly with
  | none => p.state
  | some q => if q.target < p.state then p.state - 1 else if p.state < q.target then p.state + 1 else p.state

/-- The level a transition of domain `d` in flight leads to; none when none is in flight (05 R169). -/
def State.inFlight (s : State) (d : Nat) : Option Nat :=
  match elGet 0 s.pwr.flight d with
  | 0 => none
  | n + 1 => some n

/-- Domain `d` is marked failed (05 R172). -/
def State.failed (s : State) (d : Nat) : Bool := s.maskBit R.PWR_FAILED d

/-- Some reserved stall lies in row `d` (06 R200). -/
def State.rowReserved (s : State) (d : Nat) : Bool :=
  s.get F.STL_RESERVED_RES0 / 8 == d || s.get F.STL_RESERVED_RES1 / 8 == d

/-- A level under the rail clamp of 06 R200: the Barn off, a ROW without a reserved stall at retain. The Barn stays off, too, where the
image has no maps section (03 R103) or the section that a wake read does not match (13 R380). -/
def State.clampTo (s : State) (d c : Nat) : Nat :=
  if isBarn d && (!s.flag F.IMG_STATUS_BARN_IMAGE || s.barn.barred) then 0
  else if s.flag F.VRC_STATUS_CLAMP then (if isBarn d then 0 else if isRow d && !s.rowReserved d then min c 1 else c) else c

/-- The ceiling in force for domain `d`. Down a step, the new state's ceiling holds from ENTRY_COMMIT; up a step, Run's
clamp is released at once and Doze's ceiling serves CORE_MGMT alone until Doze is entered (05 R151, Table 05.2). The rail
clamp of 06 R200 lowers it, in a start as well. -/
def State.ceiling (s : State) (d : Nat) : Nat :=
  if s.boot.phase == .up then
    let nx := s.pwr.nextState
    let st := if s.pwr.state < nx then nx else if nx = 0 ∨ d = 23 then nx else s.pwr.state
    s.clampTo d (ceilOf st d)
  else if s.boot.phase == .inStart || s.boot.phase == .hold then s.clampTo d 2
  else 0

/-- The vote of slot `k` for domain `d`. -/
def State.voteSlot (s : State) (d k : Nat) : Nat := elGet 0 s.pwr.votes (16 * d + k)

/-- The domain that the ring entries behind a base address lie in (14 Table 14.1, R396). -/
def baseDomain (w : Nat) : Option Nat :=
  if bitsOf w 29 3 = 2 then some (12 + bitsOf w 22 2) else if bitsOf w 29 3 = 6 then some (bitsOf w 17 7 / 8) else none

/-- The armed rings, in ascending order. -/
def State.armedRings (s : State) : List Nat :=
  ((s.regs.filter fun p => 0x400F8000 ≤ p.1 && p.1 < 0x40100000 && p.1 % 16 = 0).map fun p => (p.1 - 0x400F8000) / 16).filter fun i =>
    s.getAt F.RNG_RINGi_CFG_ARMED i == 1

/-- An armed ring holds entries that lie in domain `d`. -/
def State.ringHolds (s : State) (d : Nat) : Bool :=
  s.armedRings.any fun i =>
    s.getAt F.RNG_RINGi_PI_PI i != s.getAt F.RNG_RINGi_DI_DI i && baseDomain (s.reg R.RNG_RINGi_BASE i).toNat == some d

/-- The vote of slot `k` as it counts and shows (Table 05.4a): the class-0 reserve of slot 12 stands in Run only, and the dispatcher's of
slot 3 stands in Run and Doze while a ring holds entries in the domain, besides what tiles and scripts make it cast. -/
def State.castVote (s : State) (d k : Nat) : Nat :=
  if k = 12 ∧ s.pwr.nextState ≠ 0 then 0
  else if k = 3 ∧ d < 16 ∧ s.pwr.nextState < 2 ∧ s.ringHolds d then 2
  else s.voteSlot d k

/-- The vote level of a domain over the slots that count now (05 R159, R172, R175; CORE_MGMT held on throughout Run and Doze, R151).
A vote of 3 is served as on. -/
def State.voteLevel (s : State) (d : Nat) : Nat :=
  if s.failed d then 0
  else if s.boot.phase == .up then
    if d = 23 ∧ s.pwr.nextState < 2 then 2
    else (List.range 16).foldl (fun m k => if k = 9 then m else max m (min 2 (s.castVote d k))) 0
  else max (min 2 (s.voteSlot d 8)) (min 2 (s.voteSlot d 9))

/-- The level a domain is to have: its vote level under the ceiling; retain is off but for ROW and LOFT (R152). -/
def State.wanted (s : State) (d : Nat) : Nat :=
  let v := min (s.voteLevel d) (s.ceiling d)
  if v = 1 ∧ !(isRow d) ∧ !(isLoft d) then 0 else v

/-- A domain counts as up for its dependency while its vote level or its level is above off (R158). -/
def State.counts (s : State) (d : Nat) : Bool :=
  0 < s.level d || 0 < (s.inFlight d).getD 0 || 0 < s.voteLevel d

/-- Slot 8: the dependency votes of R158. -/
def State.depVotes (s : State) : State :=
  let core := if s.counts 21 || s.counts 22 then 2 else 0
  let loft := 12 + s.get F.PWR_CFG_ROW_LOFT
  let rows := (List.range 12).any s.counts
  let comb := if s.counts 17 then 2 else 0
  let v0 := elPut 0 s.pwr.votes (16 * 23 + 8) core
  let v1 := (List.range 4).foldl
    (fun v k => elPut 0 v (16 * (12 + k) + 8) (if rows && 12 + k == loft then 1 else 0)) v0
  { s with pwr := { s.pwr with votes := elPut 0 v1 (16 * 16 + 8) comb } }

/-- A domain is steady at level `n` or above: at it, with no drop below it in flight. -/
def State.steadyAt (s : State) (d n : Nat) : Bool := n ≤ s.level d && n ≤ (s.inFlight d).getD 2

/-- A domain is steadily on, or on its way there. -/
def State.rises (s : State) (d : Nat) : Bool := s.steadyAt d 2 || s.inFlight d == some 2

/-- Its dependency reports ready (R158). -/
def State.depReady (s : State) (d : Nat) : Bool :=
  if d = 21 ∨ d = 22 then s.steadyAt 23 2
  else if isRow d then s.steadyAt (12 + s.get F.PWR_CFG_ROW_LOFT) 1
  else if d = 17 then s.steadyAt 16 2
  else true

/-- The domain is off and no transition of it leads anywhere else. -/
def State.isOff (s : State) (d : Nat) : Bool := s.level d == 0 && (s.inFlight d).getD 0 == 0

/-- Every domain that depends on `d` is off, so `d` may drop to `to` (R158). -/
def State.mayDrop (s : State) (d lvl : Nat) : Bool :=
  if d = 23 then s.isOff 21 && s.isOff 22
  else if isLoft d && lvl == 0 && d == 12 + s.get F.PWR_CFG_ROW_LOFT then (List.range 12).all s.isOff
  else if d = 16 then s.isOff 17
  else true

/-- A set of indices without, and with, one of them. -/
def without (l : List Nat) (x : Nat) : List Nat := l.filter (· != x)
def withIdx (l : List Nat) (x : Nat) : List Nat := if l.contains x then l else l ++ [x]

/-- The whole-Pen wipe begins with its cause, unless one runs already, which then serves this trigger too (02 R56). -/
def State.startPenWipe (s : State) (cause : Nat) : State :=
  if s.flag F.PEN_STATUS_WIPING then s
  else { s with pen := { s.pen with cause := cause } }.set F.PEN_STATUS_WIPING 1

/-- Set or clear the transition in flight of a domain. -/
def State.setFlight (s : State) (d : Nat) (lvl : Option Nat) : State :=
  { s with pwr := { s.pwr with flight := elPut 0 s.pwr.flight d (match lvl with | none => 0 | some n => n + 1) } }

/-- The pending level of a domain (05 R169). -/
def State.pendOf (s : State) (d : Nat) : Option Nat :=
  match elGet 0 s.pwr.pend d with
  | 0 => none
  | n + 1 => some n

/-- Set or clear the pending level of a domain. -/
def State.setPend (s : State) (d : Nat) (lvl : Option Nat) : State :=
  { s with pwr := { s.pwr with pend := elPut 0 s.pwr.pend d (match lvl with | none => 0 | some n => n + 1) } }

/-- The hold of a domain's fall counts from its beginning again. -/
def State.dropHold (s : State) (d : Nat) : State :=
  { s with pwr := { s.pwr with holdDone := without s.pwr.holdDone d } }

/-- A level enters a domain's pending slot (R169, R170): another one pending there is replaced, event 0x0213 (log 200), and the hold of a
fall starts with it (R160). -/
def State.pendLevel (s : State) (d lvl : Nat) : State :=
  match s.pendOf d with
  | some old => if old = lvl then s else ((s.ev2 0x0213 old lvl).dropHold d).setPend d (some lvl)
  | none => (s.dropHold d).setPend d (some lvl)

/-- Nothing is pending for a domain any more: a rise cancels a fall in its hold (R160). -/
def State.pendNone (s : State) (d : Nat) : State := (s.dropHold d).setPend d none

/-! The Barn's wake and drop (13 R373, R385, R390, R393; 05 Table 05.4) -/

/-- The retained copy is loaded from the newest valid bank. -/
def State.loadCopy (s : State) : State :=
  match s.boot.newest with
  | some k => { s with barn := { s.barn with copy := halfTab (s.bankHalves k 0x25000 4224)
                                             copyDark := halfTab (s.bankHalves k 0x28000 128) } }.set F.BRN_STATUS_SETPOINTS 1
  | none => s

/-- The dark levels without a copy: those of the calibration defaults, else 128.0 (R33; 03 Table 03.15). -/
def State.defaultDark (s : State) : Tab (BitVec 16) :=
  let slot := s.get F.IMG_BOOT_ACTIVE_SLOT
  halfTab ((defHalves (s.section slot (s.imgHead slot) 13) 3).getD (List.replicate 128 0x8000))

/-- The wake is warm: the retained copy is held, or a valid state-area bank exists (Table 13.5). -/
def State.barnWarm (s : State) : Bool := s.flag F.BRN_STATUS_SETPOINTS || s.boot.newest.isSome

/-- The comb is locked and the array wakes: the re-lock of a comb that has lost lock, or of a warm wake, whose setpoints come into use;
without any the wake is cold, event 0x0B06. -/
def State.combOn (s : State) : State :=
  if s.get F.BRN_STATUS_STATE = 5 then s.set F.BRN_STATUS_STATE 2
  else if s.barnWarm then
    let s1 := if s.flag F.BRN_STATUS_SETPOINTS then s else s.loadCopy
    { s1 with barn := { s1.barn with setp := s1.barn.copy, dark := s1.barn.copyDark } }.set F.BRN_STATUS_STATE 2
  else ({ s with barn := { s.barn with setp := [], dark := s.defaultDark, sweeping := true } }.ev 0x0B06 0).set F.BRN_STATUS_STATE 3

/-- A wake of the Barn: masks, fixed lines and bays out of service clear, and the map tables are the identity. Where the comb is locked
already, its part of the wake is past (log 154). -/
def State.barnWake (s : State) : State :=
  let words := s.regs.filter fun p => p.1 < 0x400E0100 || 0x400E0300 ≤ p.1 || (p.1 < 0x400E0200 && p.1 % 16 = 8)
  let s1 := ((((({ s with regs := words, barn := { s.barn with bays := [], found := none, sweeping := false } }.setReg R.BRN_CHAN_OUT 0
    0x1F1F1F1F).setReg R.BRN_COMB_MASK 0 0).set F.BRN_STATUS_BAYS_OUT 0).set F.BRN_STATUS_ROT_FIXED 0).set F.BRN_STATUS_STEPPING 0)
  if s.barn.failed then s1.set F.BRN_STATUS_STATE 6
  else (s1.set F.BRN_STATUS_STATE 1).when (s.flag F.BRN_STATUS_COMB_LOCKED) fun s => s.combOn

/-- The comb starts: it is not locked. -/
def State.combStart (s : State) : State :=
  { s with barn := { s.barn with attempts := 0 } }.set F.BRN_STATUS_COMB_LOCKED 0

/-- Vote slot 10 of both Barn domains. -/
def State.barnCalVote (s : State) (on : Bool) : State :=
  let v := if on then 2 else 0
  { s with pwr := { s.pwr with votes := elPut 0 (elPut 0 s.pwr.votes (16 * 16 + 10) v) (16 * 17 + 10) v } }

/-- BARN_ARRAY drops: steps and a full sweep in progress are abandoned (R387; 01 R43), tiles wait for re-issue, and the setpoints and dark
levels in use are saved to the retained copy; a cold wake that has not ended has none. -/
def State.barnDrop (s : State) : State :=
  let bay := fun b => (elGet {} s.barn.bays b : BaySt)
  let steps := (List.range 4).filter fun b => (bay b).part != .none
  let again := steps.map (130 + ·) ++ (if s.barn.sweeping then [140] else [])
  let tiles := ((List.range 4).map fun b => (bay b).tile.toList ++ (bay b).cut.toList).flatten
  let s1 := { s with barn := { s.barn with bays := [], waiting := s.barn.waiting ++ tiles, sweeping := false, found := none, due := [] }
                     cal := { s.cal with abandoned := again.foldl withIdx s.cal.abandoned } }
  let s2 := ((s1.each steps fun s b => s.setAt F.BRN_BAYb_STATUS_LAST_STEP b 4).set F.BRN_STATUS_STEPPING 0).barnCalVote false
  s2.when (!s2.barn.setp.isEmpty) fun s =>
    { s with barn := { s.barn with copy := s.barn.setp, copyDark := s.barn.dark, setp := [], dark := [] } }.set F.BRN_STATUS_SETPOINTS 1

/-- A transition of domain `d` to level `lvl` becomes in flight (05 R169); leaving on, the PEN domain wipes the Pen (Table 02.1); the
Barn wakes and drops with BARN_ARRAY. -/
def State.startFlight (s : State) (d lvl : Nat) : State :=
  (((((s.pendNone d).setFlight d (some lvl)).when (d == 18 && s.level d == 2 && lvl < 2) fun s => s.startPenWipe 1).when
    (d == 16 && lvl == 2 && s.level d < 2) fun s => s.combStart).when (d == 17 && lvl == 2 && s.level d < 2) fun s => s.barnWake).when (d == 17 && s.level d == 2 && lvl < 2) fun s => s.barnDrop

/-- The drop hold of a domain in ticks or milliseconds; 0 is no wait (05 R160). -/
def State.holdLen (s : State) (d : Nat) : Nat := if isBarn d then s.get F.PWR_CFG_BARN_HOLD_MS else s.get F.PWR_CFG_DOM_HOLD

/-- Bring one domain's transitions in line with the level it is to have (R158, R160, R169, R170): a rise starts once its
dependency is ready and cancels a fall in its hold; a fall waits out its hold unless the ceiling forces it, and waits for
its dependents; with a transition in flight the new level is pending. -/
def State.evalDomain (s : State) (d : Nat) : State :=
  let want := s.wanted d
  let lvl := s.level d
  match s.inFlight d with
  | some aim => if want = aim then s.pendNone d else s.pendLevel d want
  | none =>
    if lvl < want then (if s.depReady d then s.startFlight d want else s.pendLevel d want)
    else if want < lvl then
      let s1 := s.pendLevel d want
      if (s1.ceiling d < lvl || s1.failed d || s1.holdLen d == 0 || s1.pwr.holdDone.contains d) && s1.mayDrop d want then
        s1.startFlight d want
      else s1
    else s.pendNone d

/-- The domain levels follow the votes (R159): the dependency slot first, then every domain. -/
def State.recompute (s : State) : State := (s.depVotes).each (List.range 24) fun s d => s.evalDomain d

/-- The switches set a domain's level. Off, a ROW or LOFT loses its contents; event 0x0211 follows PWR_LOG_MASK (R174). -/
def State.setLevel (s : State) (d l : Nat) : State :=
  if s.level d = l then s
  else
    let s1 := { s with pwr := { s.pwr with level := elPut 0 s.pwr.level d l } }
    (s1.when (l == 0) fun s => s.loseDomain d).when (bitOf (s.get F.PWR_LOG_MASK_MASK) d) fun s => s.ev2 0x0211 d l

/-! Chip-state requests (R153 to R155, R167, R169) -/

/-- The lowest target that a forced request which stands imposes: a request above it is served as one for it (R167). -/
def PwrState.bound (p : PwrState) : Nat := p.forced.foldl (fun m q => max m q.target) 0

/-- With nothing in flight, a pending upward request becomes in flight at once and one equal to the state is discarded
(R169); a forced request that stands is served likewise. Out of Rest an upward request starts the part (R107): the root
starts and a warm start of cause REST_EXIT is due. Leaving Watch, pre-roll coding stops (08 R243) and the root goes to full
drive (04 R127). -/
def State.advance (s : State) : State :=
  if s.pwr.fly.isSome || !s.isUp then s
  else match s.pwr.req with
    | none => s
    | some q =>
      if q.target = s.pwr.state then { s with pwr := { s.pwr with req := none } }
      else if q.target < s.pwr.state then
        if s.pwr.state = 3 then
          ({ s with pwr := { s.pwr with req := none, wakeReq := some q }
                    span := { s.span with rootOn := true }
                    boot := { s.boot with phase := .due, cause := 5 } }.set F.SPN_STATUS_DRIVE 1).set
            F.SPN_STATUS_ALIGNING (b2n s.span.carrying)
        else (({ s with pwr := { s.pwr with req := none, fly := some q }
                        ear := { s.ear with coding := s.ear.coding && s.pwr.state != 2 } }).when (s.pwr.state == 2)
          fun s => s.set F.SPN_STATUS_DRIVE 1).recompute
      else s

/-- A forced request stands from now on (R167): a pending request it displaces is replaced (event 0x0213), and the chip moves to its
target when it stands above it. One whose own cause still stands is kept behind it, bounds the chip on, and shows again when the newer
one ends (log 201). -/
def State.standForced (s : State) (target cause : Nat) : State :=
  let s1 := match s.pwr.req with
    | some p => if p.target = target then s else s.ev2 0x0213 p.target target
    | none => match s.pwr.forced.head? with
      | some p => if p.target = target then s else s.ev2 0x0213 p.target target
      | none => s
  let q : ChipReq := { target := target, cause := cause, forced := true }
  { s1 with pwr := { s1.pwr with req := none
                                 forced := q :: s1.pwr.forced.filter (fun p => p.cause != cause) } }

/-- The forced request of cause 4 supply, 5 core rail or 6 alarm: event 0x0216. -/
def State.force (s : State) (target cause : Nat) : State := (s.ev 0x0216 (cause - 3)).standForced target cause

/-- A Rest request while XT32 is stopped becomes the forced request for Watch of R145 and R167, cause 8, which stands until the chip
has reached Watch: event 0x0217. In Watch and Rest it has nothing left to do. -/
def State.refuseRest (s : State) : State :=
  let s1 := s.ev 0x0217 0
  if 2 ≤ s.pwr.state ∧ 2 ≤ s.pwr.nextState then { s1 with pwr := { s1.pwr with req := none } } else s1.standForced 2 8

/-- A chip-state request enters the pending slot (R153, R169). During a start it is held (03 R115); while XT32 is
stopped a Rest request becomes the forced request for Watch of R145; a standing forced request bounds it (R167); one for
the target already pending changes nothing; one that replaces another logs event 0x0213. -/
def State.request (s : State) (q : ChipReq) : State :=
  if s.boot.phase == .inStart then { s with pwr := { s.pwr with held := s.pwr.held ++ [q] } }
  else if !s.isUp then s
  else if q.target == 3 && s.flag F.SPN_STATUS_XT_STOPPED then s.refuseRest
  else
    let q1 := { q with target := max q.target s.pwr.bound }
    match s.pwr.req with
    | some p =>
      if p.target == q1.target then s
      else ({ s.ev2 0x0213 p.target q1.target with pwr := { s.pwr with req := some q1 } }).advance
    | none => ({ s with pwr := { s.pwr with req := some q1 } }).advance

/-- The cause of a forced request ends: it leaves the pending slot (R167). -/
def State.unforce (s : State) (cause : Nat) : State :=
  { s with pwr := { s.pwr with forced := s.pwr.forced.filter fun p => p.cause != cause } }.advance

/-- The request a preparation leads towards: the pending one, else a standing forced one whose target lies below. -/
def PwrState.due (p : PwrState) : Option ChipReq :=
  match p.req with
  | some q => some q
  | none => p.forced.find? fun q => p.state < q.target

/-- Votes that have risen to on, for the domains `ds`, raise a chip request in Doze or Watch where the ceiling of the current state
does not serve one of them (R154): for Run where a ROW or BARN domain is among these, for Doze otherwise; votes of one step rise together
and raise one request (log 35). In Watch the rise is the wake source that acts, the Yard's where slot 1 casts it (log 202). -/
def State.voteRise (s : State) (ds : List Nat) : State :=
  let low := ds.filter fun d => ceilOf s.pwr.state d < 2
  if s.isUp && (s.pwr.state == 1 || s.pwr.state == 2) && !low.isEmpty then
    let src := if low.any fun d => s.voteSlot d 1 == 2 then 4 else 5
    (s.when (s.pwr.state == 2) fun s => (s.set F.PWR_WAKE_STATUS_LAST_SOURCE src).ev 0x0212 src).request
      { target := if low.any fun d => isRow d || isBarn d then 0 else 1, cause := 3 }
  else s

/-- The unclamped vote of a domain over every slot. -/
def State.anyVote (s : State) (d : Nat) : Nat :=
  (List.range 16).foldl (fun m k => if k = 9 ∨ (k = 12 ∧ s.pwr.state ≠ 0) then m else max m (min 2 (s.voteSlot d k))) 0

/-- The domains whose vote has risen to on from `s` to `t`, the dependency slot's votes among them (R154, R158). -/
def State.risen (s t : State) : List Nat := (List.range 24).filter fun d => s.anyVote d < 2 && t.anyVote d == 2 && !s.failed d

/-- A value written to PWR_STATE_REQ (R153): targets 4 to 7 are ignored. -/
def State.stateReq (s : State) (cause : Nat) (v : Word) : State :=
  s.when (F.PWR_STATE_REQ_TARGET.of v < 4) fun s => s.request { target := F.PWR_STATE_REQ_TARGET.of v, cause := cause }

/-- Slot `k` takes the votes `v` gives, for the domains of `ds`, in one step: the levels follow, and rises to on may raise a chip
request (R154, R159). -/
def State.putVotes (s : State) (k : Nat) (ds : List Nat) (v : Nat → Nat) : State :=
  let s1 := { s with pwr := { s.pwr with votes := ds.foldl (fun t d => elPut 0 t (16 * d + k) (v d)) s.pwr.votes } }.recompute
  s1.voteRise (s.risen s1)

/-- A client sets its vote of slot `k` for domain `d`. -/
def State.setVote (s : State) (d k v : Nat) : State := s.putVotes k [d] fun _ => v

/-! Accesses (R161, R171) -/

/-- The slot-7 votes of the domains `ds` end where no access waits for them any more. -/
def State.releaseAccess (s : State) (ds : List Nat) : State :=
  s.each ds fun s d => s.when (s.pwr.stalled.all fun p => p.1 != d) fun s => s.setVote d 7 0

/-- The accesses that the engines of `pick` wait with are over. -/
def State.endAccesses (s : State) (pick : Engine → Bool) : State :=
  let mine (p : Nat × StalledAcc) : Bool := match p.2 with | .engine e => pick e | _ => false
  let ds := (s.pwr.stalled.filter mine).map (·.1)
  s.when (!ds.isEmpty) fun s =>
    { s with pwr := { s.pwr with stalled := s.pwr.stalled.filter fun p => !mine p } }.releaseAccess ds

/-- The accesses that engine `e` waits with are over. -/
def State.endAccess (s : State) (e : Engine) : State := s.endAccesses (· == e)

/-- An access raises the slot-7 vote of domain `d` and waits. -/
def State.waitAccess (s : State) (d : Nat) (x : StalledAcc) : State :=
  (s.when (!s.pwr.stalled.contains (d, x)) fun s => { s with pwr := { s.pwr with stalled := s.pwr.stalled ++ [(d, x)] } }).setVote d 7 2

/-- A master's access to a ROW, LOFT, PEN or BARN domain: on, with no drop in flight, it proceeds by `f`; failed, by `g`; otherwise it
waits as `x`. -/
def State.masterAccess (s : State) (d : Nat) (x : StalledAcc) (f g : State → State) : State :=
  if s.steadyAt d 2 then f s
  else if s.failed d then g s
  else s.waitAccess d x

/-- An engine's access, likewise. What it votes for stays on until the access has been made, in every domain it touches. -/
def State.access (s : State) (e : Engine) (d : Nat) (f g : State → State) : State :=
  let made (t : State) : State := t.when ((t.pwr.stalled.filter fun p => p.2 == StalledAcc.engine e).all fun p => t.steadyAt p.1 2 || t.failed p.1)
    fun t => t.endAccess e
  if s.steadyAt d 2 then made (f s)
  else if s.failed d then made (g s)
  else s.waitAccess d (.engine e)

end Sys2Proof.Machine
end

