-- ==== Sys2Proof/Machine/Calib.lean ====
section
/-! DEFINITION. The back-off of calibrations (01 R32, R43). -/

namespace Sys2Proof.Machine

/-- A calibration element's number. -/
def calKey : CalElem → Nat
  | .column st => st
  | .mic m => 100 + m
  | .dark b => 120 + b
  | .line b => 130 + b
  | .sweep => 140
  | .isen n => 150 + n

/-- Rejections since the last pass; the retry waits min(2^(n−1), 64) s. -/
def State.calLevel (s : State) (e : CalElem) : Nat := elGet 0 s.cal.level (calKey e)

/-- A rejection: the coefficients in use stay and the next retry waits longer. -/
def State.calReject (s : State) (e : CalElem) : State :=
  { s with cal := { s.cal with level := elPut 0 s.cal.level (calKey e) (min 7 (s.calLevel e + 1)) } }

/-- A pass resets the back-off. -/
def State.calPass (s : State) (e : CalElem) : State :=
  { s with cal := { level := elPut 0 s.cal.level (calKey e) 0, abandoned := without s.cal.abandoned (calKey e) } }

/-- An attempt in progress is abandoned: neither pass nor failure; it is due again (R43). -/
def State.calAbandon (s : State) (e : CalElem) : State :=
  { s with cal := { s.cal with abandoned := withIdx s.cal.abandoned (calKey e) } }

/-! Column offsets (12 R358) -/

/-- Vote slot 10 of ROW `r` stands while a column calibration of it is due (05 Table 05.4a). -/
def State.calVoteRow (s : State) (r : Nat) : State :=
  let due := (List.range 8).any fun p => let c := s.getAt F.CIM_STALLs_STATE_CAL_STATE (8 * r + p); c == 1 || c == 2
  let v := if due then 2 else 0
  if s.voteSlot r 10 = v then s else s.setVote r 10 v

/-- CAL_STATE of a stall. -/
def State.setCalState (s : State) (st v : Nat) : State := (s.setAt F.CIM_STALLs_STATE_CAL_STATE st v).calVoteRow (st / 8)

/-- The column calibration of a stall that holds a VALID set becomes due. -/
def State.columnDue (s : State) (st : Nat) : State :=
  s.when (s.getAt F.CIM_STALLs_STATE_VALID st == 1) fun s => s.setCalState st 1

/-! What the state area is to hold (03 R97) -/

/-- Brace defers an operation: it takes its place behind those that Brace has deferred before (06 R180). -/
def State.defer (s : State) (d : Deferred) : State :=
  if s.sup.deferred.contains d then s else { s with sup := { s.sup with deferred := s.sup.deferred ++ [d] } }

/-- A state-area write case stands; one that Brace holds is counted (IMG_STATE_WR.DEFERRED). -/
def State.stateWanted (s : State) : State :=
  s.when (s.flag F.SUP_STATUS_BRACE) fun s => (s.inc F.IMG_STATE_WR_DEFERRED).defer .nvm

/-- A passing calibration has changed setpoints or offsets: they are written now, or when the interval ends. -/
def State.calChanged (s : State) : State :=
  if s.boot.calTimer then { s with boot := { s.boot with calChanged := true } }
  else if s.boot.calDue then s
  else { s with boot := { s.boot with calDue := true } }.stateWanted

/-- The wear of stalls that are to be programmed is to be recorded first. -/
def State.recordWear (s : State) (sts : List Nat) : State :=
  { s with boot := { s.boot with wearDue := true }, cim := { s.cim with recording := sts } }.stateWanted

end Sys2Proof.Machine
end

