-- ==== Sys2Proof/Machine/Nets.lean ====
section
/-! DEFINITION. Micro-nets and feature operations of the Yard as functions of bytes (07 R214, R215). -/

namespace Sys2Proof.Machine

/-- One layer descriptor of a net (07 Table 07.7). -/
structure Layer where
  inN : Nat
  outN : Nat
  mult : Nat
  shift : Nat
  relu : Bool
  wOff : Nat
  bOff : Nat
deriving DecidableEq, Repr

/-- The layer that 16 bytes describe. -/
def layerOf (b : List Byte) : Layer :=
  { inN := fieldAt b 0 2, outN := fieldAt b 2 2, mult := fieldAt b 4 2, shift := byteAt b 6,
    relu := bitOf (byteAt b 7) 0, wOff := fieldAt b 8 4, bOff := fieldAt b 12 4 }

/-- Layer `k` of the net whose bytes begin at Yard offset `base`. -/
def readLayer (m : MemState) (base k : Nat) : Layer := layerOf (m.read .yard (base + 16 * k) 16)

/-- Σ weights × inputs. -/
def dotBytes : List Byte → List Byte → Int
  | w :: ws, x :: xs => w.toInt * x.toInt + dotBytes ws xs
  | _, _ => 0

/-- Output `o` of a layer (R215): the INT32 accumulator (wrapping, log 13) times MULT, shifted right by SHIFT with ties
away from zero, saturated to INT8, ReLU where set. -/
def layerOut (m : MemState) (base : Nat) (l : Layer) (x : List Byte) (o : Nat) : Byte :=
  let w := m.read .yard (base + l.wOff + o * l.inN) l.inN
  let bias := signed 32 (leNat (m.read .yard (base + l.bOff + 4 * o) 4))
  let acc : Int := (BitVec.ofInt 32 (dotBytes w x + bias)).toInt
  let y := satInt8 (shiftRoundAway (acc * l.mult) l.shift)
  BitVec.ofInt 8 (if l.relu && y < 0 then 0 else y)

/-- All outputs of a layer. -/
def layerRun (m : MemState) (base : Nat) (l : Layer) (x : List Byte) : List Byte :=
  (List.range l.outN).map (layerOut m base l x)

/-- The scores of a net of `layers` layers on an INT8 vector (R215). -/
def netRun (m : MemState) (base layers : Nat) (x : List Byte) : List Byte :=
  (List.range layers).foldl (fun v k => layerRun m base (readLayer m base k) v) x

/-- Inputs of the first layer and outputs of the last. -/
def netIn (m : MemState) (base : Nat) : Nat := (readLayer m base 0).inN
def netOut (m : MemState) (base layers : Nat) : Nat := (readLayer m base (layers - 1)).outN

/-- Engine cycles of a net: per layer ⌈IN/8⌉ × ⌈OUT/8⌉ + 16 (Table 07.2). -/
def netCycles (m : MemState) (base layers : Nat) : Nat :=
  (List.range layers).foldl (fun c k =>
    let l := readLayer m base k
    c + ceilDiv l.inN 8 * ceilDiv l.outN 8 + 16) 0

/-- The top class: the index of the highest score, the lowest index winning a tie (R216). -/
def topClass (x : List Byte) : Nat :=
  (x.zipIdx.foldl (fun (b : Int × Nat) p => if b.1 < p.1.toInt then (p.1.toInt, p.2) else b) (-129, 0)).2

/-- The margin: the top score minus the second score (R216). -/
def scoreMargin (x : List Byte) : Nat :=
  let c := topClass x
  let rest := x.eraseIdx c
  (((x.getD c 0).toInt) - (rest.getD (topClass rest) 0).toInt).toNat

/-- The elements of a source of `w` bytes each, signed (Table 07.3). -/
def elements (w : Nat) : List Byte → List Int
  | [] => []
  | [a] => if w = 1 then [a.toInt] else []
  | a :: b :: rest => if w = 1 then a.toInt :: elements w (b :: rest) else signed 16 (leNat [a, b]) :: elements w rest

/-- Runs of `n` elements; the last may be shorter (log 14). The fuel is the list's length. -/
def windows (n : Nat) : Nat → List Int → List (List Int)
  | 0, _ => []
  | _, [] => []
  | k + 1, x :: xs => (x :: xs).take n :: windows n k ((x :: xs).drop n)

/-- A quotient the spec leaves unrounded: exact where it is whole, otherwise one of its two neighbours, which one being
free (log 14). -/
def freeQuot (num : Int) (den : Nat) (pick : Word) : Int :=
  let q := num / den
  if num % den = 0 ∨ pick.getLsbD 0 = false then q else q + 1

/-- MEAN, VAR and MAX of a window, with SHIFT applied, an arithmetic right shift, and saturated to INT8 (Table 07.4). -/
def windowStat (op shift : Nat) (x : List Int) (pick : Word) : Byte :=
  let n := x.length
  let sum := x.foldl (· + ·) 0
  let sq := x.foldl (fun a v => a + v * v) 0
  let v := if op = 0 then freeQuot sum n pick
    else if op = 1 then freeQuot (n * sq - sum * sum) (n * n) pick
    else x.foldl max (x.headD 0)
  BitVec.ofInt 8 (satInt8 (v / (2 ^ shift : Nat)))

/-- DELTA and TDIFF of one element (Table 07.4). -/
def deltaOf (op shift : Nat) (a b : Int) : Byte :=
  let d := if op = 5 then ((a - b).natAbs : Int) else a - b
  BitVec.ofInt 8 (satInt8 (d / (2 ^ shift : Nat)))

end Sys2Proof.Machine
end

