-- ==== Sys2Proof/Machine/Access.lean ====
section
/-! DEFINITION. What the masters of the Steward address space may do, and what a faulting access leaves (01 R35 to R39,
R45; 00 R16). -/

namespace Sys2Proof.Machine

/-- The ranges of Table 01.5. -/
def inLoft (a : Nat) : Bool := 0x10000000 ≤ a && a < 0x11000000
def inYard (a : Nat) : Bool := 0x20000000 ≤ a && a < 0x20100000
def inStall (a : Nat) : Bool := 0x30000000 ≤ a && a < 0x30C00000
def inRegs (a : Nat) : Bool := 0x40000000 ≤ a && a < 0x40190000

/-- An address of Table 01.5 as a memory and an offset. -/
def memAt (a : Nat) : Option (Mem × Nat) :=
  if inLoft a then some (.loft, a - 0x10000000)
  else if inYard a then some (.yard, a - 0x20000000)
  else if inStall a then some (.stall, a - 0x30000000)
  else none

/-- The block number of a register address, in the order of Table 01.6. -/
def blockOf (a : Nat) : Nat := (a - 0x40000000) / 0x10000

/-- A LOG or IMG address, all that the small host ports may read (R38). -/
def isLogImg (a : Nat) : Bool := inRegs a && (blockOf a == 23 || blockOf a == 24)

/-- Debug access stands: debug is unlocked with scope REG (16 R464, Table 16.6). -/
def State.debugRegs (s : State) : Bool := s.flag F.SEC_DBG_STATUS_UNLOCKED && bitOf (s.get F.SEC_DBG_STATUS_SCOPE) 0

/-- An access that reaches the part at all (R47): the Steward and debug while CORE_MGMT is on, the Steward not in BOOT_HOLD, which halts
it (03 R120); the host while its PCIe link is up in D0 besides; the small ports while YCLK runs. -/
def State.reaches (s : State) (m : Master) : Bool :=
  match m with
  | .steward => s.coreOn && s.boot.phase != .hold
  | .host => s.coreOn && s.level 21 == 2 && s.flag F.PCI_STATUS_UP && s.get F.PCI_STATUS_DSTATE == 0
  | .spi => s.span.running
  | .i2c => s.span.running
  | .debug => s.coreOn

/-- The master may read registers at `a` (R38). -/
def State.mayRead (s : State) (m : Master) (a : Nat) : Bool :=
  match m with
  | .steward => true
  | .host => true
  | .spi => isLogImg a
  | .i2c => isLogImg a
  | .debug => s.debugRegs

/-- The master may write registers (R38): the host writes its mailbox and doorbells only, which are no Steward-space
registers (15 R428). -/
def State.mayWrite (s : State) (m : Master) (_a : Nat) : Bool :=
  match m with
  | .steward => true
  | .host => false
  | .spi => false
  | .i2c => false
  | .debug => s.debugRegs

/-- STW_ACCESS_INFO.SIZE of an access. -/
def accCode : AccSize → Nat
  | .b8 => 0
  | .b16 => 1
  | .b32 => 2
  | .burst => 3

/-- A faulting access is recorded, counted and logged (R45); while CORE_MGMT is off it is logged only. -/
def State.faultAccess (s : State) (m : Master) (a : Nat) (size : AccSize) (unmapped write : Bool) : State :=
  let s1 := s.when s.coreOn fun s =>
    (s.when (!s.flag F.STW_ACCESS_INFO_VALID) fun s =>
      ((((((s.set F.STW_ACCESS_ADDR_ADDR a).set F.STW_ACCESS_INFO_MASTER (masterCode m)).set F.STW_ACCESS_INFO_UNMAPPED
        (b2n unmapped)).set F.STW_ACCESS_INFO_SIZE (accCode size)).set F.STW_ACCESS_INFO_WRITE (b2n write)).set
        F.STW_ACCESS_INFO_COUNT 0).set F.STW_ACCESS_INFO_VALID 1).inc F.STW_ACCESS_INFO_COUNT
  s1.ev 0x0110 (masterCode m)

/-- A 32-bit register write by `m` at `a`: `f` when its rights allow it, a faulting access otherwise (R38, R45). -/
def State.writeAs (s : State) (m : Master) (a : Nat) (f : State → State) : State :=
  if !s.reaches m then s
  else if s.mayWrite m a then f s
  else s.faultAccess m a .b32 true true

end Sys2Proof.Machine
end

