-- ==== Sys2Proof/Machine/Rings.lean ====
section
/-! DEFINITION. Rings and tallies as shared operations (14): fabric addresses, ring indices, waiters, tally operations and
the completion of an entry. -/

namespace Sys2Proof.Machine

/-! Fabric addresses (14 Table 14.1) -/

/-- A fabric address. -/
inductive FabAddr where
  | none
  | mem (m : Mem) (off : Nat)
  | pen (off : Nat)
  | bad
deriving DecidableEq, Repr

/-- The fabric address a word encodes; stall SRAM offsets run over all stalls, 128 KiB each. -/
def fabAddr (w : Nat) : FabAddr :=
  let sp := bitsOf w 29 3
  if sp = 0 then (if w = 0 then .none else .bad)
  else if sp = 2 then (if bitsOf w 24 5 = 0 then .mem .loft (bitsOf w 0 24) else .bad)
  else if sp = 3 then .pen (bitsOf w 0 21)
  else if sp = 6 then
    (if bitsOf w 24 5 = 0 ∧ bitsOf w 17 7 < 96 then .mem .stall (bitsOf w 0 24) else .bad)
  else if sp = 7 then
    (if bitsOf w 17 12 = 0 ∧ 0x8000 ≤ bitsOf w 0 17 then .mem .yard (bitsOf w 0 17) else .bad)
  else .bad

/-- The switched domain a memory offset lies in; the Yard lies in AON (05 R157). -/
def memDomain (m : Mem) (off : Nat) : Option Nat :=
  match m with
  | .loft => some (12 + off / 0x400000)
  | .stall => some (off / 0x100000)
  | .yard => none

/-- Engine `e` at a memory place: `f` where its domain is on, `g` where it has failed, otherwise the access waits (R161). -/
def State.reach (s : State) (e : Engine) (m : Mem) (off : Nat) (f g : State → State) : State :=
  match memDomain m off with
  | some d => s.access e d f g
  | none => f s

/-! Ring registers and indices (14 R396, R397) -/

/-- The dispatcher's part of ring `i`. -/
def State.ring (s : State) (i : Nat) : RingSt := elGet {} s.disp.rings i

/-- Set it. -/
def State.setRing (s : State) (i : Nat) (r : RingSt) : State :=
  { s with disp := { s.disp with rings := elPut {} s.disp.rings i r } }

/-- Entries a ring has room for. -/
def State.ringSize (s : State) (i : Nat) : Nat := 2 ^ s.getAt F.RNG_RINGi_CFG_LOG2_SIZE i

/-- PI and DI. -/
def State.pi (s : State) (i : Nat) : Nat := s.getAt F.RNG_RINGi_PI_PI i
def State.di (s : State) (i : Nat) : Nat := s.getAt F.RNG_RINGi_DI_DI i

/-- (a − b) mod 2^17. -/
def ringDiff (a b : Nat) : Nat := (a + 131072 - b) % 131072

/-- The ring is armed. -/
def State.armed (s : State) (i : Nat) : Bool := s.getAt F.RNG_RINGi_CFG_ARMED i == 1

/-- ISSUED follows II and DI. -/
def State.showIssued (s : State) (i : Nat) : State :=
  s.setAt F.RNG_RINGi_DI_ISSUED i (satTo 15 (ringDiff (s.ring i).ii (s.di i)))

/-- Entry `idx` of ring `i` as a place in memory (R396). -/
def State.entryAt (s : State) (i idx : Nat) : Option (Mem × Nat) :=
  match fabAddr (s.reg R.RNG_RINGi_BASE i).toNat with
  | .mem m off => some (m, off + 64 * (idx % s.ringSize i))
  | _ => none

/-- Its 64 bytes. -/
def State.entryBytes (s : State) (i idx : Nat) : List Byte :=
  match s.entryAt i idx with
  | some (m, off) => s.mem.read m off 64
  | none => []

/-- The memory holding it is powered. -/
def State.entryLive (s : State) (i idx : Nat) : Bool :=
  match s.entryAt i idx with
  | some (m, off) => match memDomain m off with
    | some d => 0 < s.level d
    | none => true
  | none => false

/-- DI passes every completed entry at the head (R397); the fuel is their number. -/
def advanceDi : Nat → Nat → List Nat → Nat × List Nat
  | 0, di, l => (di, l)
  | n + 1, di, l => if l.contains di then advanceDi n ((di + 1) % 131072) (l.filter (· != di)) else (di, l)

/-- Entry `idx` has completed: DI advances, and a REPEAT ring presents the entry again (R397, R398). -/
def State.passEntry (s : State) (i idx : Nat) : State :=
  let r := s.ring i
  let a := advanceDi (r.finished.length + 1) (s.di i) (idx :: r.finished)
  let s1 := ((s.setRing i { r with finished := a.2 }).setAt F.RNG_RINGi_DI_DI i a.1).showIssued i
  s1.when (s1.getAt F.RNG_RINGi_CFG_REPEAT i == 1) fun s => s.setAt F.RNG_RINGi_PI_PI i ((s.pi i + 1) % 131072)

/-! Tallies (14 R401, R404, R405) -/

/-- A tally's value. -/
def State.tally (s : State) (t : Nat) : Nat := s.getAt F.TLY_TALLYt_VALUE t

/-- TLY_STATUS follows the waiter entries in use. -/
def State.showWaiters (s : State) : State :=
  let n := s.disp.waiters.length
  (s.set F.TLY_STATUS_WAITERS n).set F.TLY_STATUS_PEAK (max n (s.get F.TLY_STATUS_PEAK))

/-- A tally operation saturated. -/
def State.saturated (s : State) (t : Nat) : State := (s.ev 0x0C08 t).inc F.TLY_COUNTS_SATURATED

/-- A commit is requested for every ADAPTABLE set whose COMMIT_TALLY was incremented; a later request replaces a waiting
one (12 R356). -/
def State.requestCommits (s : State) (t : Nat) : State :=
  s.each (s.cim.sets.filter fun w => w.tally == t && bitOf w.flags 0) fun s w =>
    { s with cim := { s.cim with waiting := withIdx s.cim.waiting w.wset } }.set F.CIM_STATUS_COMMIT_WAIT 1

/-- ADD, SUB or SET on a tally's value (R404). -/
def State.applyTally (s : State) (o : TallyOp) : State :=
  let v := s.tally o.tally
  match o.op with
  | .add =>
    ((s.setAt F.TLY_TALLYt_VALUE o.tally (satTo 32 (v + o.value))).when (2 ^ 32 ≤ v + o.value)
      fun s => s.saturated o.tally).when (0 < o.value) fun s => s.requestCommits o.tally
  | .sub => (s.setAt F.TLY_TALLYt_VALUE o.tally (v - o.value)).when (v < o.value) fun s => s.saturated o.tally
  | .set => s.setAt F.TLY_TALLYt_VALUE o.tally o.value

/-- A tally operation is raised; `settle` applies it. -/
def State.raiseTally (s : State) (o : TallyOp) : State := { s with disp := { s.disp with ops := s.disp.ops ++ [o] } }

/-- The DONE_ADD of a WORK entry is raised (R402), where its DONE_TALLY names a tally. -/
def State.raiseDone (s : State) (e : List Byte) : State :=
  s.when (fieldAt e 6 2 < 4096) fun s => s.raiseTally ⟨.add, fieldAt e 6 2, fieldAt e 12 2⟩

/-- Completion of entry `idx` of WORK ring `i` with a status (R402): STATUS in place, DONE_ADD raised, DI advances. -/
def State.endEntry (s : State) (i idx status : Nat) : State :=
  let e := s.entryBytes i idx
  let s1 := match s.entryAt i idx with
    | some (m, off) => s.when (s.entryLive i idx) fun s =>
        { s with mem := s.mem.write m (off + 2) [BitVec.ofNat 8 status] 0 }
    | none => s
  (s1.raiseDone e).passEntry i idx

/-- Word `k` of the MSI-X table; after reset every vector is masked, as PCI Express has it (log 20). -/
def State.msixWord (s : State) (k : Nat) : Word := tblGet (fun k => if k % 4 = 3 then 1 else 0) s.host.msix k

/-- A vector may be sent now: the link is up in D0 and its table entry is not masked. -/
def State.msixSends (s : State) (v : Nat) : Bool :=
  s.flag F.PCI_STATUS_UP && s.get F.PCI_STATUS_DSTATE == 0 && !(s.msixWord (4 * v + 3)).getLsbD 0

/-- MSI-X vector `v` is sent, or pends in the PBA until it may be (15 R430). -/
def State.msix (s : State) (v : Nat) : State :=
  if s.msixSends v then { s with host := { s.host with sent := elPut 0 s.host.sent v (elGet 0 s.host.sent v + 1) } }
  else { s with host := { s.host with pba := setBitOf s.host.pba v true } }

/-- Pending vectors that may be sent now are sent. -/
def State.flushMsix (s : State) : State :=
  s.each ((List.range 3).filter fun v => bitOf s.host.pba v && s.msixSends v) fun s v =>
    { s with host := { s.host with pba := setBitOf s.host.pba v false } }.msix v

/-- A WAIT_NOTIFY completes with OK and its ring and TAG enter the notify queue; while the queue is full the completion
waits (15 R430). -/
def State.notifyDone (s : State) (i idx : Nat) : State :=
  if s.disp.notify.length < 64 then
    let tag := fieldAt (s.entryBytes i idx) 14 2
    let s1 := { s with disp := { s.disp with notify := s.disp.notify ++ [(i, tag)] } }
    (s1.when (s.disp.notify.isEmpty) fun s => s.msix 2).endEntry i idx 0
  else { s with disp := { s.disp with notifyHeld := s.disp.notifyHeld ++ [(i, idx)] } }

/-- An EARLY tile's gate is satisfied. -/
def State.openEarly (s : State) (st : Nat) : State :=
  match (elGet {} s.fab.stalls st).tile with
  | some t =>
    { s with fab := { s.fab with stalls := elPut {} s.fab.stalls st
                                  { elGet {} s.fab.stalls st with tile := some { t with gated := false } } } }
  | none => s

/-- A waiter is satisfied: its entry frees, CONSUME subtracts in the same cycle, and the waiting party goes on (R401,
R404). -/
def State.satisfy (s : State) (w : Waiter) : State :=
  let s1 := { s with disp := { s.disp with waiters := s.disp.waiters.filter (· != w) } }.showWaiters
  let s2 := s1.when w.consume fun s => s.setAt F.TLY_TALLYt_VALUE w.tally (s.tally w.tally - w.value)
  match w.what with
  | .gate => s2.setRing w.ring { s2.ring w.ring with gateOk := true }
  | .early st => s2.openEarly st
  | .notify idx => s2.notifyDone w.ring idx
  | .channel c => { s2 with link := { s2.link with ready := withIdx s2.link.ready c } }

/-- The waiters of a tally see its value, in ascending ring index, each as the earlier ones left it (R404, R418). -/
def State.serveTally (s : State) (t : Nat) : State :=
  s.each (s.disp.waiters.filter (·.tally == t)) fun s w => if w.value ≤ s.tally t then s.satisfy w else s

/-- The raised tally operations apply in turn, with what they raise themselves; the fuel bounds their number. -/
def settleOps : Nat → State → State
  | 0, s => s
  | n + 1, s =>
    match s.disp.ops with
    | [] => s
    | o :: rest => settleOps n ((({ s with disp := { s.disp with ops := rest } }).applyTally o).serveTally o.tally)

/-- Every raised operation is applied. Each waiter raises at most one more. -/
def State.settle (s : State) : State := settleOps (s.disp.ops.length + s.disp.waiters.length + 1) s

/-- One tally operation, with all that follows from it. -/
def State.tallyOp (s : State) (op : TOp) (t v : Nat) : State := (s.raiseTally ⟨op, t, v⟩).settle

/-- Entry `idx` of ring `i` completes, with all that follows from it. -/
def State.completeEntry (s : State) (i idx status : Nat) : State := (s.endEntry i idx status).settle

/-- A waiter takes its place in ascending ring order (R418). -/
def insertWaiter (w : Waiter) : List Waiter → List Waiter
  | [] => [w]
  | x :: xs => if w.ring < x.ring then w :: x :: xs else x :: insertWaiter w xs

/-- A waiter entry is taken; at the bound of 8,192 none is (Table 14.7). -/
def State.addWaiter (s : State) (w : Waiter) : State :=
  if s.disp.waiters.length < 8192 ∧ ¬ s.disp.waiters.contains w then
    { s with disp := { s.disp with waiters := insertWaiter w s.disp.waiters } }.showWaiters
  else s

/-- A doorbell (R399): COUNT joins PI unless the master is not the ring's owner or the ring would hold more than SIZE
entries; either is ignored, counted and logged. Owners: 0 fabric, 1 host, 2 Steward, 3 link. -/
def State.doorbell (s : State) (i count owner : Nat) : State :=
  if count = 0 then s
  else if 2048 ≤ i ∨ s.getAt F.RNG_RINGi_CFG_OWNER i ≠ owner ∨ s.ringSize i < ringDiff (s.pi i) (s.di i) + count then
    (s.ev2 0x0C02 i owner).inc F.RNG_COUNTS_REJECTS
  else s.setAt F.RNG_RINGi_PI_PI i ((s.pi i + count) % 131072)

end Sys2Proof.Machine
end

