-- ==== Sys2Proof/Machine/Pen.lean ====
section
/-! DEFINITION. The Pixel Pen and the camera ports (02 R50 to R56, R77; 09 R277 to R283). -/

namespace Sys2Proof.Machine

/-! Holds (01 R24, 03 R120, 16 R459, R466) -/

/-- The holds of R24 stand: a JTAG instruction that connects the boundary-scan register, HIGHZ or CLAMP has stood since the
last cold start (R24, R463). -/
def State.scanHold (s : State) : Bool := s.jtag.hold

/-- The L2 or L3 hold on sensors stands (R459). -/
def State.alarmHold (s : State) : Bool := 2 ≤ s.get F.SEC_ALARM_STATUS_LEVEL

/-- A hold on everything that senses: boundary scan, BOOT_HOLD, alarm. -/
def State.senseHold (s : State) : Bool := s.scanHold || s.boot.phase == .hold || s.alarmHold

/-- A hold of R280 on the camera ports stands; the holds of debug join it (R466). -/
def State.camHeld (s : State) : Bool := s.senseHold || s.flag F.SEC_DBG_STATUS_HELD || s.head.ledHold

/-! Pen slots (02 R51 to R54) -/

/-- The field of a port's slot states in PEN_STATUS. -/
def slotsFld (p : Nat) : Fld := if p = 0 then F.PEN_STATUS_CAM0_SLOTS else F.PEN_STATUS_CAM1_SLOTS

/-- State of slot `k` of port `p`: 0 FREE, 1 FILLING, 2 READY, 3 WIPING. -/
def State.penSlot (s : State) (p k : Nat) : Nat := bitsOf (s.get (slotsFld p)) (2 * k) 2

/-- Set it. -/
def State.setPenSlot (s : State) (p k v : Nat) : State :=
  let w := s.get (slotsFld p)
  s.set (slotsFld p) (w - s.penSlot p k * 2 ^ (2 * k) + v * 2 ^ (2 * k))

/-- A port's slots and the bytes of each (R51). -/
def State.penSlots (s : State) (p : Nat) : Nat := s.getAt F.PEN_CAMn_CFG_SLOTS_M1 p + 1
def State.penBytes (s : State) (p : Nat) : Nat := (s.getAt F.PEN_CAMn_CFG_UNITS_M1 p + 1) * 65536

/-- The port's ENABLE. -/
def State.camOn (s : State) (p : Nat) : Bool := s.getAt F.CAM_PORTn_CFG_ENABLE p == 1

/-- Pen offset of slot `k` of port `p` (R51). -/
def State.penBase (s : State) (p k : Nat) : Nat :=
  (if p = 1 ∧ s.camOn 0 then s.penSlots 0 * s.penBytes 0 else 0) + k * s.penBytes p

/-- Units of every enabled port (R51). -/
def State.penUnits (s : State) : Nat :=
  (if s.camOn 0 then s.penSlots 0 * (s.penBytes 0 / 65536) else 0)
    + (if s.camOn 1 then s.penSlots 1 * (s.penBytes 1 / 65536) else 0)

/-- The releases counted for a slot's frame (R53). -/
def State.setReleases (s : State) (p k n : Nat) : State :=
  { s with pen := { s.pen with releases := elPut 0 s.pen.releases (4 * p + k) n } }

/-- One completed descriptor that read slot `k` with the release bit (R53): at READERS the frame retires. -/
def State.releasePen (s : State) (p k : Nat) : State :=
  if s.penSlot p k = 2 then
    let n := elGet 0 s.pen.releases (4 * p + k) + 1
    if s.getAt F.PEN_CAMn_CFG_READERS_M1 p + 1 ≤ n then (s.setReleases p k 0).setPenSlot p k 3
    else s.setReleases p k n
  else s

/-- The alarm's whole-Pen wipe: while PEN is off it completes at once without event (Table 02.1). -/
def State.alarmWipe (s : State) : State := s.when (0 < s.level 18) fun s => s.startPenWipe 3

/-- SLOT_WIPE_DONE (R55). -/
def execSlotWipeDone (p : Fin 2) (slot : Fin 4) (s : State) : Out :=
  done (if s.penSlot p slot = 3 && !s.flag F.PEN_STATUS_WIPING then
    ({ s with mem := s.mem.penZero (s.penBase p slot) (s.penBytes p) }.setReleases p slot 0).setPenSlot p slot 0
  else s)

/-- PEN_TTL (R54): a READY slot that has not retired enters WIPING. -/
def execPenTtl (p : Fin 2) (slot : Fin 4) (s : State) : Out :=
  done (if s.penSlot p slot = 2 then
    ((s.setPenSlot p slot 3).inc F.PEN_COUNTS_TTL_EXPIRED).ev2 0x0711 p slot
  else s)

/-! Camera ports (09 R277 to R281) -/

/-- A camera port beyond its registers. -/
def State.cam (s : State) (p : Nat) : CamSt := elGet {} s.head.cams p

/-- Set it. -/
def State.setCam (s : State) (p : Nat) (c : CamSt) : State :=
  { s with head := { s.head with cams := elPut {} s.head.cams p c } }

/-- A camera port's frame in progress is forgotten. -/
def State.dropFrame (s : State) (p : Nat) : State := s.setCam p { s.cam p with frame := none }

/-- A whole-Pen wipe completes (R56, R77): the Pen reads 0, every slot is FREE, frames in progress are abandoned. -/
def State.penWiped (s : State) : State :=
  let s1 := ({ s with mem := s.mem.penZero 0 0x200000
                      pen := { s.pen with releases := [], startWiped := true } }.dropFrame 0).dropFrame 1
  let s2 := (((s1.set F.PEN_STATUS_CAM0_SLOTS 0).set F.PEN_STATUS_CAM1_SLOTS 0).set F.PEN_STATUS_WIPING 0).set
    F.PEN_STATUS_LAST_CAUSE s.pen.cause
  ((s2.inc F.PEN_COUNTS_WHOLE_WIPES).set F.PEN_LAST_WIPE_SPAN (s.span.count.toNat % 2 ^ 32)).ev 0x0710 s.pen.cause

/-- PEN_WIPE (R56). -/
def execPenWipe (s : State) : Out := done (if s.flag F.PEN_STATUS_WIPING then s.penWiped else s)

/-- The conditions of R280 hold for a port. -/
def State.camWants (s : State) (p : Nat) : Bool :=
  s.isUp && s.camOn p && !(s.cam p).stopped && s.steadyAt 18 2 && !s.camHeld

/-- CAM_STATUS shows which ports are active and whether a hold stands. -/
def State.showCams (s : State) : State :=
  ((s.set F.CAM_STATUS_CAM0_ACTIVE (b2n (s.camWants 0))).set F.CAM_STATUS_CAM1_ACTIVE (b2n (s.camWants 1))).set
    F.CAM_STATUS_HELD (b2n s.camHeld)

/-- No port is active: CAM_EN and CAM_LED are released (R280). -/
def State.camRelease (s : State) : State :=
  ({ s with head := { s.head with settled := false } }.set F.CAM_STATUS_CAM_EN 0).set F.CAM_STATUS_LED_ON 0

/-- A hold begins: both ports are disabled (R24, R459, R466). -/
def State.camStop (s : State) : State := s.showCams.camRelease

/-- The port accepts frames: active, with CAM_EN settled (Table 09.6). -/
def State.camReady (s : State) (p : Nat) : Bool := s.camWants p && s.head.settled && s.bankOk (if s.getAt F.CAM_PORTn_CFG_DVP p = 1 then 3 else 4)

/-- The frame of port `p` is abandoned (R279). -/
def State.abandon (s : State) (p cause : Nat) : State :=
  match (s.cam p).frame with
  | some f =>
    ((((s.setCam p { s.cam p with frame := none }).setPenSlot p f.slot 3).incAt F.CAM_PORTn_COUNTS_ABANDONED p).setAt
      F.CAM_PORTn_ERR_LAST_CAUSE p cause).ev2 0x0611 p cause
  | none => s

/-- The bytes of one line (R278): DT 0 RAW8, 1 RAW10, 2 YUV422, 3 RGB565. -/
def State.lineBytes (s : State) (p : Nat) : Nat :=
  let w := s.getAt F.CAM_PORTn_SIZE_WIDTH p
  match s.getAt F.CAM_PORTn_CFG_DT p with
  | 0 => w
  | 1 => w * 5 / 4
  | _ => 2 * w

/-- The CSI-2 data type of DT (Table 09.5). -/
def dtCode (dt : Nat) : Nat := match dt with | 0 => 0x2A | 1 => 0x2B | 2 => 0x1E | _ => 0x22

/-- The port is a DVP input. -/
def State.isDvp (s : State) (p : Nat) : Bool := s.getAt F.CAM_PORTn_CFG_DVP p == 1

/-- A packet of another virtual channel or data type is discarded and counted (R278). -/
def State.discard (s : State) (p : Nat) : State := (s.incAt F.CAM_PORTn_COUNTS_DISCARDED p).ev 0x0614 p

/-- A packet header arrives: an uncorrectable one abandons the frame, a corrected one is counted; one of another virtual
channel is discarded (R278, R279). -/
def State.camHeader (s : State) (p : Nat) (vc : BitVec 2) (hdr : PktHdr) (f : State → State) : State :=
  if s.isDvp p then f s
  else if hdr = .fatal then (s.incAt F.CAM_PORTn_ERR_ECC_FATAL p).abandon p 1
  else
    let s1 := s.when (hdr == .corrected) fun s => s.incAt F.CAM_PORTn_ERR_ECC_CORRECTED p
    if vc.toNat = s.getAt F.CAM_PORTn_CFG_VC p then f s1 else s1.discard p

/-- A frame begins (R52): in the next slot of the ring when it is FREE, otherwise it is skipped. -/
def State.beginFrame (s : State) (p : Nat) : State :=
  let c := s.cam p
  if s.penSlot p c.next = 0 && !s.flag F.PEN_STATUS_WIPING then
    (s.setCam p { c with frame := some ⟨c.next, 0⟩, next := (c.next + 1) % s.penSlots p }).setPenSlot p c.next 1
  else (s.inc F.PEN_COUNTS_SKIPPED).ev 0x0712 p

/-- FRAME_START (02 R52, 09 R278): a frame that had not ended is abandoned, its line count being wrong. -/
def execFrameStart (p : Fin 2) (vc : BitVec 2) (hdr : PktHdr) (s : State) : Out :=
  done (if s.camReady p then s.camHeader p vc hdr fun s => (s.abandon p 3).beginFrame p else s)

/-- A line joins the frame when its length and number fit (R278). -/
def State.takeLine (s : State) (p : Nat) (payload : List Byte) : State :=
  match (s.cam p).frame with
  | some f =>
    if payload.length = s.lineBytes p ∧ f.lines < s.getAt F.CAM_PORTn_SIZE_HEIGHT p then
      { s with mem := s.mem.penWrite (s.penBase p f.slot + f.lines * s.lineBytes p) payload }.setCam p
        { s.cam p with frame := some { f with lines := f.lines + 1 } }
    else s.abandon p 3
  | none => s

/-- LINE_PACKET (R278, R279). -/
def execLinePacket (p : Fin 2) (pkt : CamPacket) (s : State) : Out :=
  done (if s.camReady p then
    s.camHeader p pkt.vc pkt.hdr fun s =>
      if s.isDvp p then s.takeLine p pkt.payload
      else if pkt.dt.toNat ≠ dtCode (s.getAt F.CAM_PORTn_CFG_DT p) then s.discard p
      else if pkt.crcOk then s.takeLine p pkt.payload
      else (s.incAt F.CAM_PORTn_ERR_CRC p).abandon p 2
  else s)

/-- The frame ends (R52, R278): complete, its slot is READY and its tally gains 1. -/
def State.endFrame (s : State) (p : Nat) : State :=
  match (s.cam p).frame with
  | some f =>
    if f.lines = s.getAt F.CAM_PORTn_SIZE_HEIGHT p then
      ((((s.setCam p { s.cam p with frame := none }).setPenSlot p f.slot 2).setReleases p f.slot 0).incAt
        F.CAM_PORTn_COUNTS_FRAMES p).tallyOp .add (s.getAt F.PEN_CAMn_CFG_TALLY p) 1
    else s.abandon p 3
  | none => s

/-- FRAME_END (R52, R278). -/
def execFrameEnd (p : Fin 2) (vc : BitVec 2) (hdr : PktHdr) (s : State) : Out :=
  done (if s.camReady p then s.camHeader p vc hdr fun s => s.endFrame p else s)

/-- FRAME_TIMEOUT (R279). -/
def execFrameTimeout (p : Fin 2) (s : State) : Out := done (s.abandon p 4)

/-- CAM_ACTIVE (R280): CAM_LED is driven and the LED path test begins. -/
def execCamActive (s : State) : Out :=
  done (if s.camWants 0 || s.camWants 1 then s.showCams.set F.CAM_STATUS_LED_ON 1 else s)

/-- CAM_EN_ASSERT (Table 09.6): the test has passed for 1 ms. -/
def execCamEnAssert (s : State) : Out :=
  done (if s.flag F.CAM_STATUS_LED_ON && !s.head.ledHold && (s.camWants 0 || s.camWants 1) then
    s.set F.CAM_STATUS_CAM_EN 1 else s)

/-- CAM_SETTLED (Table 09.6). -/
def execCamSettled (s : State) : Out :=
  done (if s.flag F.CAM_STATUS_CAM_EN then { s with head := { s.head with settled := true } } else s)

/-- CAM_INACTIVE (R280). -/
def execCamInactive (s : State) : Out :=
  done (if s.camWants 0 || s.camWants 1 then s else s.showCams.camRelease)

/-- The camera LED path faults (R281): both ports are held, FILLING frames are abandoned. -/
def State.camLedFails (s : State) (shorted : Bool) : State :=
  let s0 := (s.abandon 0 5).abandon 1 5
  let s1 := { s0 with head := { s0.head with ledHold := true } }
  (s1.camStop.set F.CAM_STATUS_LED_FAULT (1 + b2n shorted)).ev 0x0612 (b2n shorted)

/-- CAM_LED_FAULT (R281). -/
def execCamLedFault (kind : LedPath) (s : State) : Out :=
  done (if s.flag F.CAM_STATUS_LED_ON && kind != .good then s.camLedFails (kind == .shorted) else s)

/-- CAM_LED_TEST (R281): a pass releases the hold; Table 09.6 then starts again. -/
def execCamLedTest (r : LedPath) (s : State) : Out :=
  done (if s.head.ledHold && r == .good && s.bankOk 0 then
    (({ s with head := { s.head with ledHold := false } }.set F.CAM_STATUS_LED_FAULT 0).showCams).ev 0x0613 0
  else s)

end Sys2Proof.Machine
end

