-- ==== Sys2Proof/Machine/Ports.lean ====
section
/-! DEFINITION. The sensor ports: probe, head rail, bus faults and port scripts (09 R259 to R276, R284 to R286). -/

namespace Sys2Proof.Machine

/-- A port beyond its registers. -/
def State.port (s : State) (p : Nat) : PortSt := elGet {} s.head.ports p

/-- Set it. -/
def State.setPort (s : State) (p : Nat) (x : PortSt) : State :=
  { s with head := { s.head with ports := elPut {} s.head.ports p x } }

/-- SPT_PORTn_STATUS.STATE: 0 off, 1 probing, 2 powering, 3 READY, 4 back-off, 5 FAULT, 6 held. -/
def State.portState (s : State) (p : Nat) : Nat := s.getAt F.SPT_PORTn_STATUS_STATE p

/-- Set it. -/
def State.setPortState (s : State) (p v : Nat) : State := s.setAt F.SPT_PORTn_STATUS_STATE p v

/-- Only a READY port accepts script triggers (R268). -/
def State.portReady (s : State) (p : Nat) : Bool := s.portState p == 3

/-- The sequencer runs no script (R271). -/
def State.portIdle (s : State) (p : Nat) : Bool := (s.port p).run.isNone

/-- INT is active (R262). -/
def State.portInt (s : State) (p : Nat) : Bool := s.getAt F.SPT_PORTn_STATUS_INT_ACTIVE p == 1

/-- The head rail is on. -/
def State.railOn (s : State) (p : Nat) : Bool := s.portState p == 2 || s.portState p == 3

/-- MODE: 0 I²C, 1 I3C Basic, 2 SPI. -/
def State.portMode (s : State) (p : Nat) : Nat := s.getAt F.SPT_PORTn_CFG_MODE p

/-- RESET_POLICY; 3 is treated as 2 (R270). -/
def State.portPolicy (s : State) (p : Nat) : Nat := min 2 (s.getAt F.SPT_PORTn_CFG_RESET_POLICY p)

/-- The port is enabled; MODE 3 leaves it disabled. -/
def State.portEnabled (s : State) (p : Nat) : Bool :=
  s.getAt F.SPT_PORTn_CFG_ENABLE p == 1 && s.portMode p != 3

/-- PORTS is on. -/
def State.portsOn (s : State) : Bool := s.steadyAt 20 2

/-! Scripts (R271 to R275) -/

/-- The step words of a script; empty where it is not loaded. -/
def State.scriptOf (s : State) (p k : Nat) : List Nat := elGet [] s.head.scripts (8 * p + k)

/-- Vote slot 3 of PORTS is released when no ring entry's script runs (05 Table 05.4a). -/
def State.portVote (s : State) : State :=
  if s.voteSlot 20 3 = 0 ∨ (List.range 8).any (fun p => match (s.port p).run with | some r => r.entry.isSome | none => false)
  then s else s.setVote 20 3 0

/-- A script ends (R275): RESULT, event 0x060A for any result but OK; NACK_LIMIT scripts in a row ending in NACK switch
the rail off and probe again; INIT's end makes the port READY (R268); a ring entry completes (14 R402). -/
def State.endScript (s : State) (p result : Nat) : State :=
  match (s.port p).run with
  | none => s
  | some r =>
    let nacks := if result = 1 then (s.port p).nacks + 1 else 0
    let lost := decide (orOne (s.get F.SPT_CFG_NACK_LIMIT) ≤ nacks)
    let s1 := (s.setPort p { s.port p with run := none, busHeld := false, bus := [], nacks := if lost then 0 else nacks }).endAccess (.port p)
    let s2 := (s1.setAt F.SPT_PORTn_STATUS_BUSY p 0).setAt F.SPT_PORTn_STATUS_RESULT p result
    let s3 := s2.when (result != 0) fun s => (s.ev2 0x060A p result).incAt F.SPT_PORTn_COUNTS_SCRIPT_ERRORS p
    let s4 := if lost && s3.railOn p then s3.setPortState p 1
      else s3.when (r.init && s3.portState p == 2) fun s => s.setPortState p 3
    match r.entry with
    | some (i, idx) => (s4.portVote).completeEntry i idx (if result = 0 then 0 else 20)
    | none => s4

/-- A script starts (R271); one that is not loaded ends at once with INVALID (R276). -/
def State.startScript (s : State) (p k : Nat) (entry : Option (Nat × Nat)) (init : Bool) : State :=
  let s1 := ((s.setPort p { s.port p with run := some { script := k, init := init, entry := entry } }).setAt
    F.SPT_PORTn_STATUS_SCRIPT p k).setAt F.SPT_PORTn_STATUS_STEP p 0
  if s.scriptOf p k = [] then s1.endScript p 5 else s1.setAt F.SPT_PORTn_STATUS_BUSY p 1

/-- The step word a run is at. -/
def State.stepWord (s : State) (p : Nat) (r : ScriptRun) : Nat := (s.scriptOf p r.script).getD r.step 0

/-- OP of a step word. -/
def stepOp (w : Nat) : Nat := bitsOf w 56 8

/-- The step now executing with opcode `op` on port `p`, if its run is at one: `f` of the run and its word. -/
def State.onStep (s : State) (p op : Nat) (phase : ScriptPhase) (f : State → ScriptRun → Nat → State) : State :=
  match (s.port p).run with
  | some r =>
    if r.phase = phase ∧ stepOp (s.stepWord p r) = op then
      f (s.setAt F.SPT_PORTn_STATUS_STEP p r.step) r (s.stepWord p r)
    else s
  | none => s

/-- Set the run of a port. -/
def State.setRun (s : State) (p : Nat) (r : ScriptRun) : State := s.setPort p { s.port p with run := some r }

/-- The script goes to step `n`; past its last step it ends with OK (R271). -/
def State.gotoStep (s : State) (p : Nat) (r : ScriptRun) (n : Nat) : State :=
  if n < (s.scriptOf p r.script).length then s.setRun p { r with step := n, phase := .next }
  else (s.setRun p r).endScript p 0

/-- The script goes on behind its current step. -/
def State.nextStep (s : State) (p : Nat) (r : ScriptRun) : State := s.gotoStep p r (r.step + 1)

/-- The bytes the port sends for a WRITE or READ step (R273): ADDR with the R/W bit, which SPI leaves out, and the LEN bytes of DATA, byte
0 first; for a READ in SPI mode LEN bytes of 0x00. -/
def State.busBytes (s : State) (p w : Nat) (write : Bool) : List Byte :=
  let data := if write then leBytes (bitsOf w 40 3) (bitsOf w 0 32)
    else if s.portMode p = 2 then List.replicate (bitsOf w 32 10) 0 else []
  if s.portMode p = 2 then data else BitVec.ofNat 8 (2 * bitsOf w 49 7 + b2n (!write)) :: data

/-- A step goes on the bus, with the bytes the port sends. -/
def State.toBus (s : State) (p : Nat) (r : ScriptRun) (bs : List Byte) : State :=
  s.setPort p { s.port p with run := some { r with phase := .bus }, bus := bs }

/-- SCRIPT_WRITE (R273). -/
def execScriptWrite (port : Fin 8) (s : State) : Out :=
  done (s.onStep port 1 .next fun s r w => s.toBus port r (s.busBytes port w true))

/-- SCRIPT_READ (R273). -/
def execScriptRead (port : Fin 8) (s : State) : Out :=
  done (s.onStep port 2 .next fun s r w => s.toBus port r (s.busBytes port w false))

/-- Bytes enter the port buffer. -/
def PortSt.fill (x : PortSt) (off : Nat) (bs : List Byte) : PortSt :=
  { x with buf := tblPutRange (fun _ => 0) x.buf off bs }

/-- BUS_TRANSFER_DONE (R273, R275): an I²C or I3C NACK ends the script with NACK; a READ's bytes enter the buffer. HOLD
leaves the bus held for the next step. -/
def execBusTransferDone (port : Fin 8) (ack : Bool) (data : List Byte) (s : State) : Out :=
  let nack := !ack && s.portMode port != 2
  let s1 := s.onStep port 1 .bus fun s r w =>
    if nack then s.endScript port 1
    else (s.setPort port { s.port port with busHeld := bitOf w 48, bus := [] }).nextStep port r
  let s2 := s.onStep port 2 .bus fun s r w =>
    if nack then s.endScript port 1
    else
      let bs := (List.range (bitsOf w 32 10)).map fun i => data.getD i 0
      (s.setPort port ({ s.port port with busHeld := bitOf w 48, bus := [] }.fill (bitsOf w 0 10) bs)).nextStep port r
  done (match (s.port port).run with
    | some r => if stepOp (s.stepWord port r) = 1 then s1 else s2
    | none => s)

/-- WAIT_INT (R273): active, the script goes on; while INT_FLOAT stands it ends with TIMEOUT at once (R286). -/
def execWaitInt (port : Fin 8) (s : State) : Out :=
  done (s.onStep port 3 .next fun s r _ =>
    if s.getAt F.SPT_PORTn_STATUS_INT_FLOAT port = 1 then s.endScript port 2
    else if s.portInt port then s.nextStep port r
    else s.setRun port { r with phase := .waitInt })

/-- WAIT_INT_TIMEOUT (R273). -/
def execWaitIntTimeout (port : Fin 8) (s : State) : Out := done (s.onStep port 3 .waitInt fun s _ _ => s.endScript port 2)

/-- DELAY and DELAY_END (R273). -/
def execDelay (port : Fin 8) (s : State) : Out :=
  done (s.onStep port 4 .next fun s r _ => s.setRun port { r with phase := .delay })
def execDelayEnd (port : Fin 8) (s : State) : Out := done (s.onStep port 4 .delay fun s r _ => s.nextStep port r)

/-- LOOP (R273): back to TARGET, COUNT more times. -/
def execLoop (port : Fin 8) (s : State) : Out :=
  done (s.onStep port 5 .next fun s r w =>
    let left := if r.looping then r.left else bitsOf w 32 8
    if left = 0 then s.nextStep port { r with looping := false, left := 0 }
    else s.gotoStep port { r with looping := true, left := left - 1 } (bitsOf w 40 6))

/-- What a STORE step copies: its destination and the buffer bytes. -/
def State.storeOf (s : State) (p w : Nat) : Nat × List Byte :=
  (bitsOf w 0 32, tblGetRange (fun _ => (0 : Byte)) (s.port p).buf (bitsOf w 43 10) (bitsOf w 32 11))

/-- STORE (R273, R274): buffer bytes to the Yard data space, or to the Loft once its LOFT is on, with P taint (02 R58). A
store to a LOFT that has failed ends the script with ABORTED (log 21). -/
def execScriptStore (port : Fin 8) (s : State) : Out :=
  done (s.onStep port 6 .next fun s r w =>
    let x := s.storeOf port w
    if bitOf w 55 then
      s.reach (.port port) .loft x.1 (fun s => s.reach (.port port) .loft (x.1 + x.2.length - 1)
        (fun s => { s with mem := s.mem.write .loft x.1 x.2 1 }.nextStep port r) (fun s => s.endScript port 6))
        (fun s => s.endScript port 6)
    else (s.yardWrite x.1 x.2 1).nextStep port r)

/-- A STORE of port `p` that has started waits for the LOFT domains listed (05 R161). -/
def State.storeWaits (s : State) (p : Nat) : List Nat := (s.pwr.stalled.filter fun x => x.2 == .engine (.port p)).map (·.1)

/-- A STORE that waits for its LOFT completes from the buffer without its script (R284): its access waits on under its own name. -/
def State.detachStore (s : State) (p : Nat) : State :=
  match (s.port p).run with
  | some r =>
    let x := s.storeOf p (s.stepWord p r)
    s.each (s.storeWaits p) fun s d => s.waitAccess d (.store x.1 x.2)
  | none => s

/-- The bytes of such a STORE reach the Loft. -/
def State.storeLate (s : State) (dest : Nat) (data : List Byte) : State :=
  s.masterAccess (12 + dest / 0x400000) (.store dest data) (fun s =>
    s.masterAccess (12 + (dest + data.length - 1) / 0x400000) (.store dest data)
      (fun s => { s with mem := s.mem.write .loft dest data 1 }) id) id

/-- SIGNAL_TALLY (R273, R274): kind 0 adds VALUE to the tally, or is held while CORE_MGMT is off; a second one waits. -/
def execSignalTally (port : Fin 8) (s : State) : Out :=
  done (s.onStep port 7 .next fun s r w =>
    if bitsOf w 52 4 ≠ 0 then s
    else if s.coreOn then (s.tallyOp .add (bitsOf w 32 12) (bitsOf w 0 16)).nextStep port r
    else if (s.port port).held.isNone then
      (s.setPort port { s.port port with held := some (bitsOf w 32 12, bitsOf w 0 16) }).nextStep port r
    else s.setRun port { r with phase := .behind })

/-- SIGNAL_LINE (R273): kind 1 drives or releases SPn_D; in SPI mode the script ends with INVALID. -/
def execSignalLine (port : Fin 8) (s : State) : Out :=
  done (s.onStep port 7 .next fun s r w =>
    if bitsOf w 52 4 ≠ 1 then s
    else if s.portMode port = 2 then s.endScript port 5
    else (s.setPort port { s.port port with line := bitsOf w 0 2 }).nextStep port r)

/-- HELD_SIGNAL_APPLY (R274): CORE_MGMT is ready; the held SIGNAL is applied and one behind it may run. -/
def execHeldSignalApply (port : Fin 8) (s : State) : Out :=
  done (match (s.port port).held with
    | some (t, v) =>
      if s.coreOn then
        ((s.setPort port { s.port port with held := none }).tallyOp .add t v).onStep port 7 .behind
          fun s r _ => s.setRun port { r with phase := .next }
      else s
    | none => s)

/-! Probe and head rail (R263 to R270) -/

/-- The band of a probe voltage in mV: 0 SHORT, 1 LOW, 2 ID, 3 HIGH; 0.30 V counts as ID (log 22). -/
def probeBand (mv : Nat) : Nat := if mv < 2 then 0 else if mv < 300 then 1 else if mv ≤ 700 then 2 else 3

/-- The class of a probe (Table 09.3): 1 ABSENT, 2 PRESENT, 3 REVERSED, 4 SHORTED. -/
def probeClass (b : List Nat) : Nat :=
  if (b.take 4).contains 0 then 4 else if b.getD 3 3 = 2 then 2 else if b.getD 4 3 = 2 then 3 else 1

/-- The rail may be switched on (R267). -/
def State.mayPower (s : State) (p : Nat) : Bool :=
  s.portEnabled p && s.getAt F.SPT_PORTn_STATUS_CLASS p == 2 && s.portsOn && s.isUp && !s.senseHold

/-- A probe ends with a class (R265), and the rail goes on if it may (R267); back-off, FAULT and a hold stand on. -/
def State.classed (s : State) (p c : Nat) : State :=
  let s1 := s.when (s.getAt F.SPT_PORTn_STATUS_CLASS p != c) fun s => s.ev2 0x0602 p c
  let s2 := (s1.setAt F.SPT_PORTn_STATUS_CLASS p c).setPort p { s.port p with probes := 0, probing := false }
  s2.when (s2.portState p == 1) fun s => s.setPortState p (if s.mayPower p then 2 else if s.senseHold then 6 else 0)

/-- A probe runs on the port. -/
def State.portProbes (s : State) (p : Nat) : Bool := s.portState p == 1 || (s.port p).probing

/-- A probe starts on a port whose rail is open: STATE shows it but in back-off, FAULT or a hold, which stand behind it. -/
def State.beginProbe (s : State) (p : Nat) : State :=
  if s.portState p = 0 then s.setPortState p 1
  else s.when (4 ≤ s.portState p) fun s => s.setPort p { s.port p with probing := true }

/-- STATE of a port that leaves back-off or FAULT: it is probed, where PORTS is on and no hold stands. -/
def State.probeState (s : State) : Nat := if !s.portsOn then 0 else if s.senseHold then 6 else 1

/-- PROBE (R264): the port's rail is open and no back-off, FAULT or hold stands. -/
def execProbe (port : Fin 8) (s : State) : Out :=
  done (if s.portsOn && s.portState port == 0 then s.setPortState port 1 else s)

/-- PROBE_PERIOD (R266): a port whose class is ABSENT, REVERSED or SHORTED. -/
def execProbePeriod (port : Fin 8) (s : State) : Out :=
  done (s.when (s.portsOn && !s.portProbes port && [1, 3, 4].contains (s.getAt F.SPT_PORTn_STATUS_CLASS port)) fun s => s.beginProbe port)

/-- PROBE_DONE (R265): samples in different bands repeat the probe; after 20 the class is ABSENT. -/
def execProbeDone (port : Fin 8) (samples : List ProbeSample) (s : State) : Out :=
  done (if s.portsOn && s.portProbes port then
    if samples.all fun x => probeBand x.a == probeBand x.b then
      s.classed port (probeClass (samples.map fun x => probeBand x.a))
    else if (s.port port).probes + 1 < 20 then s.setPort port { s.port port with probes := (s.port port).probes + 1 }
    else (s.classed port 1).ev 0x0603 port
  else s)

/-- The INT test finds the line floating or driven (R286). -/
def State.intTested (s : State) (p : Nat) (floats : Bool) : State :=
  if floats then
    (((s.setAt F.SPT_PORTn_STATUS_INT_FLOAT p 1).ev 0x0609 p).incAt F.SPT_PORTn_COUNTS_INT_FLOATS p).onStep p 3 .waitInt
      fun s _ _ => s.endScript p 2
  else s.setAt F.SPT_PORTn_STATUS_INT_FLOAT p 0

/-- RAIL_GOOD (R268): address assignment in I3C mode, the INT test where enabled, INIT_SCRIPT where enabled, READY. -/
def execRailGood (port : Fin 8) (intFloats : Bool) (targets : List I3cTarget) (s : State) : Out :=
  done (if s.portState port = 2 && s.portIdle port then
    let n := min 4 targets.length
    let s1 := s.when (s.portMode port == 1) fun s => (s.setAt F.SPT_PORTn_I3C_TARGETS port n).ev2 0x060B port n
    let s2 := s1.when (s1.getAt F.SPT_PORTn_CFG_INT_TEST_EN port == 1 && s1.portMode port != 2)
      fun s => s.intTested port intFloats
    if s2.getAt F.SPT_PORTn_CFG_INIT_EN port = 1 then
      s2.startScript port (s2.getAt F.SPT_PORTn_CFG_INIT_SCRIPT port) none true
    else s2.setPortState port 3
  else s)

/-- A rail fault (R269): the rail is latched off; the 8th failure is FAULT. A script on the port ends with RAIL (R284). -/
def State.railFails (s : State) (p kind : Nat) : State :=
  let fails := s.getAt F.SPT_PORTn_STATUS_FAILS p + 1
  let s1 := ((s.setAt F.SPT_PORTn_STATUS_FAILS p (min 8 fails)).ev2 0x0604 p kind).incAt F.SPT_PORTn_COUNTS_RAIL_FAULTS p
  let s2 := if fails < 8 then s1.setPortState p 4 else (s1.setPortState p 5).ev 0x0605 p
  (s2.detachStore p).endScript p 3

/-- RAIL_FAULT (R269). -/
def execRailFault (port : Fin 8) (kind : RailFaultKind) (s : State) : Out :=
  done (if s.railOn port then s.railFails port (if kind = .short then 0 else 1) else s)

/-- RAIL_BACKOFF_END (R269): the port probes again. -/
def execRailBackoffEnd (port : Fin 8) (s : State) : Out :=
  done (if s.portState port = 4 then s.setPortState port s.probeState else s)

/-- FAIL_COUNT_CLEAR (R269). -/
def execFailCountClear (port : Fin 8) (s : State) : Out :=
  done (if s.railOn port then s.setAt F.SPT_PORTn_STATUS_FAILS port 0 else s)

/-- FAULT clears (R270): the count is 0 and a probe starts. -/
def State.clearPort (s : State) (p : Nat) : State :=
  if s.portState p = 5 then
    ((s.setAt F.SPT_PORTn_STATUS_FAILS p 0).ev2 0x0606 p (s.portPolicy p)).setPortState p s.probeState
  else s

/-- A keyed value written to SPT_FAULT_CLR clears FAULT on the ports it names; while PORTS is off it takes effect when PORTS next reaches
on (01 R37). -/
def State.faultClear (s : State) (v : Word) : State :=
  if F.SPT_FAULT_CLR_KEY.of v = 0x5043 then
    s.each ((List.range 8).filter fun p => v.getLsbD p) fun s p =>
      if s.level 20 = 2 then s.clearPort p else s.setPort p { s.port p with clearDue := true }
  else s

/-- PORTS reaches on: the writes to SPT_FAULT_CLR that waited for it take effect (01 R37). -/
def State.faultsDue (s : State) : State :=
  s.each ((List.range 8).filter fun p => (s.port p).clearDue) fun s p => (s.setPort p { s.port p with clearDue := false }).clearPort p

/-- FAULT_CLR (R270). -/
def execFaultClr (m : Master) (v : Word) (s : State) : Out := done (s.writeAs m R.SPT_FAULT_CLR.base fun s => s.faultClear v)

/-- FAULT_RESET_TIMER (R270): policy 1. -/
def execFaultResetTimer (port : Fin 8) (s : State) : Out :=
  done (if s.portPolicy port = 1 then s.clearPort port else s)

/-! Holds and drops (R284, R459) -/

/-- Every script ends with ABORTED, probes end and every rail is off; ports neither in back-off nor in FAULT take state `st`. -/
def State.portsStop (s : State) (st : Nat) : State :=
  s.each (List.range 8) fun s p =>
    ((s.endScript p 6).setPort p { (s.endScript p 6).port p with probing := false }).when (s.portState p != 4 && s.portState p != 5) fun s => s.setPortState p st

/-- Every enabled port that is off or held is probed (R284, R288). -/
def State.portsProbe (s : State) : State :=
  s.each (List.range 8) fun s p =>
    s.when (s.portEnabled p && (s.portState p == 0 || s.portState p == 6)) fun s => s.setPortState p 1

/-! Bus faults and INT (R261, R285, R286) -/

/-- BUS_STUCK (R285): the script ends with BUS, recovery runs, and a line still stuck is a rail fault (kind 0, log 23). -/
def execBusStuck (port : Fin 8) (line : Fin 2) (recovered : Bool) (s : State) : Out :=
  done (if s.railOn port && s.portMode port != 2 then
    let s1 := ((s.ev2 0x0607 port line).incAt F.SPT_PORTn_COUNTS_BUS_STUCK port).endScript port 4
    let s2 := s1.ev2 0x0608 port (if recovered then 0 else 1)
    if recovered then s2 else s2.railFails port 0
  else s)

/-- INT_TEST (R286). -/
def execIntTest (port : Fin 8) (floats : Bool) (s : State) : Out :=
  done (if s.portReady port && !s.portInt port && s.portMode port != 2 && s.getAt F.SPT_PORTn_CFG_INT_TEST_EN port == 1 then
    s.intTested port floats else s)

/-- INT_ACTIVE follows the line's level and polarity, and an in-band interrupt of this span tick (R261, R262). -/
def State.showInt (s : State) (p : Nat) : State :=
  let pol := s.getAt F.SPT_PORTn_CFG_INT_POL p == 1
  let x := s.port p
  s.setAt F.SPT_PORTn_STATUS_INT_ACTIVE p (b2n ((s.portMode p != 2 && x.intLevel == some pol) || x.ibi))

/-- A WAIT_INT step sees INT active. -/
def State.wakeScript (s : State) (p : Nat) : State :=
  s.onStep p 3 .waitInt fun s r _ => if s.portInt p then s.nextStep p r else s

end Sys2Proof.Machine
end

