-- ==== Sys2Proof/Machine/Ear.lean ====
section
/-! DEFINITION. Microphones, clocks, stream frames, pre-roll, mute and microphone calibration (08). -/

namespace Sys2Proof.Machine

/-! Microphones and clocks (R232 to R236) -/

/-- Slots of a TDM frame (Table 08.2): 2 in I²S, 8 as the clock controller, else SLOTS_M1 + 1. -/
def State.tdmSlots (s : State) : Nat :=
  if s.flag F.EAR_TDM_CFG_I2S then 2 else if s.flag F.EAR_TDM_CFG_CONTROLLER then 8 else s.get F.EAR_TDM_CFG_SLOTS_M1 + 1

/-- Bits of a TDM slot: 32 as the clock controller, else as WIDTH says. -/
def State.tdmWidth (s : State) : Nat :=
  if s.flag F.EAR_TDM_CFG_CONTROLLER then 32
  else match s.get F.EAR_TDM_CFG_WIDTH with | 0 => 16 | 1 => 24 | _ => 32

/-- A microphone is enabled; a TDM microphone also needs its slot, enabled and in the frame. -/
def State.micOn (s : State) (m : Nat) : Bool :=
  s.getAt F.EAR_MICm_CFG_ENABLE m == 1 && (m < 8 || (m - 8 < s.tdmSlots && bitOf (s.get F.EAR_TDM_CFG_SLOT_EN) (m - 8)))

/-- The EAR domain is on; a drop leaves it so until the frame boundary it waits for (R254). -/
def State.earOn (s : State) : Bool := s.level 19 == 2

/-- Every clock is held low and the TDM input disabled: mute, boundary scan, BOOT_HOLD, alarm or debug (R24, R247, 16 R459, R466). -/
def State.earHeld (s : State) : Bool := s.flag F.EAR_STATUS_MUTED || s.senseHold || s.flag F.SEC_DBG_STATUS_HELD

/-- The clocks may run: the part runs, YCLK with it. -/
def State.earLive (s : State) : Bool := s.isUp && s.span.running && !s.earHeld

/-- The PDM clocks may run: no MICVDD fault stops them besides (R250). -/
def State.pdmLive (s : State) : Bool := s.earLive && !s.flag F.EAR_STATUS_MICVDD_FAULT

/-- PDM_CLK0 and PDM_CLK1 are to run (R235). -/
def State.wantClk0 (s : State) : Bool := s.pdmLive && (List.range 4).any s.micOn
def State.wantClk1 (s : State) : Bool := s.pdmLive && s.earOn && ((List.range 4).map (· + 4)).any s.micOn

/-- EAR_STATUS follows the clocks' state. -/
def State.showClocks (s : State) : State :=
  (s.set F.EAR_STATUS_CLK1_RUN (b2n s.ear.clk1)).set F.EAR_STATUS_SETTLING (b2n (s.ear.settle0 || s.ear.settle1))

/-- The histories of microphones [a, a + 4) are reset at a switch (R236). -/
def State.dropHist (s : State) (a : Nat) : State :=
  { s with ear := { s.ear with hist := s.ear.hist.filter fun p => p.1 < a || a + 4 ≤ p.1 } }

/-- The streams of microphones [a, a + n) break off: no log-mel frame joins samples from before and after, and no pattern frames of hops
that the break parts (R240, R241); four hops without a frame are more than any STRIDE spans. -/
def State.breakMel (s : State) (a n : Nat) : State :=
  { s with ear := { s.ear with
    hist := s.ear.hist.filter fun p => p.1 < a || a + n ≤ p.1
    mel := s.ear.mel.map fun p => if a ≤ p.1 && p.1 < a + n then (p.1, (List.replicate 4 none ++ p.2).take 100) else p } }

/-- Both PDM clocks stop. -/
def State.stopPdm (s : State) : State :=
  (({ s with ear := { s.ear with clk0 := false, clk1 := false, settle0 := false, settle1 := false } }.breakMel 0 8).set
    F.EAR_STATUS_CLK0_FULL 0).showClocks

/-- Both clocks stop, and the TDM input is disabled. -/
def State.stopClocks (s : State) : State := (s.stopPdm).breakMel 8 8

/-- PDM_CLK0 starts or changes rate: SETTLE begins for microphones 0 to 3 (R236). -/
def State.switchClk0 (s : State) (full : Bool) : State :=
  ((({ s with ear := { s.ear with clk0 := true, settle0 := true } }.dropHist 0).set F.EAR_STATUS_CLK0_FULL
    (b2n full)).showClocks).ev 0x0502 (b2n full)

/-- CLOCK_SWITCH (R235, R236): the change that R235 asks for takes effect. -/
def execClockSwitch (kind : ClockSwitch) (s : State) : Out :=
  done (match kind with
    | .listening =>
      if s.wantClk0 && !s.earOn && (!s.ear.clk0 || s.flag F.EAR_STATUS_CLK0_FULL) then s.switchClk0 false else s
    | .full => if s.wantClk0 && s.earOn && (!s.ear.clk0 || !s.flag F.EAR_STATUS_CLK0_FULL) then s.switchClk0 true else s
    | .clk1Start =>
      if s.wantClk1 && !s.ear.clk1 then
        (({ s with ear := { s.ear with clk1 := true, settle1 := true } }.dropHist 4).showClocks).ev 0x0502 2
      else s)

/-! Output samples (R237, R238) -/

/-- A stream's number for a microphone: 0 low-power, 1 16 kHz, 2 48 kHz. -/
def streamNo : Stream → Nat
  | .lp16 => 0
  | .hq16 => 1
  | .hq48 => 2

/-- The calibration default of coefficient `i` (01 R33): the image's, else DC 0 and GAIN 1.0. -/
def State.micDefault (s : State) (i : Nat) : BitVec 16 :=
  tblGet (fun j => if j % 2 = 1 then (0x4000 : BitVec 16) else 0) s.ear.defaults i

/-- The coefficient `k` in use of microphone `m`: DC_LP, GAIN_LP, DC_HQ, GAIN_HQ; the default until a pass. -/
def State.micCoef (s : State) (m k : Nat) : BitVec 16 := tblGet s.micDefault s.ear.coef (4 * m + k)

/-- Set coefficient `i`. -/
def State.setCoef (s : State) (i : Nat) (v : BitVec 16) : State :=
  { s with ear := { s.ear with coef := tblPut s.micDefault s.ear.coef i v } }

/-- Division by 2^n, to nearest with ties to even. -/
def roundEven (x : Int) (n : Nat) : Int :=
  let q := x / (2 ^ n : Nat)
  let r := x % (2 ^ n : Nat)
  let h : Int := (2 ^ n : Nat)
  if 2 * r < h ∨ (2 * r = h ∧ q % 2 = 0) then q else q + 1

/-- The output value of a last-stage value `x` in units of 2^−31 of full scale: DC offset (units of 2^−15), gain trim
(Q2.14), rounding to `w` bits (R237). -/
def micOut (w : Nat) (dc gain : BitVec 16) (x : Word) : Int :=
  roundEven ((x.toInt - dc.toInt * 65536) * gain.toNat) (14 + (32 - w))

/-- The bounds of a `w`-bit sample. -/
def clip (w : Nat) (x : Int) : Int := clampInt (-(2 ^ (w - 1) : Nat)) ((2 ^ (w - 1) : Nat) - 1) x

/-- The samples of microphone `m` are discarded: SETTLE. -/
def State.settling (s : State) (m : Nat) : Bool :=
  if m < 4 then s.ear.settle0 else if m < 8 then s.ear.settle1 else false

/-- A stream of a microphone is produced now (R235, R237): in Watch the high-quality path has no 48 kHz output; the TDM port has one where
its rate is 48 kHz. -/
def State.streams (s : State) (m : Nat) (st : Stream) : Bool :=
  s.earLive && s.micOn m && (match st with
    | .lp16 => m < 4 && s.ear.clk0
    | .hq16 => s.earOn && (if m < 4 then s.ear.clk0 else if m < 8 then s.ear.clk1 else true)
    | .hq48 => s.earOn && (if m < 4 then s.ear.clk0 && s.pwr.state < 2 else if m < 8 then s.ear.clk1 && s.pwr.state < 2
        else s.flag F.EAR_TDM_CFG_RATE48))

/-- A stream of the TDM port carries its slots' samples: the one at the port's rate; the other is the ÷3 stage's (R234). -/
def State.tdmDirect (s : State) (m : Nat) (st : Stream) : Bool :=
  decide (8 ≤ m) && (if s.flag F.EAR_TDM_CFG_RATE48 then st == .hq48 else st == .hq16)

/-- The 24 bits of a TDM slot that are used, at the top of a word (R234): a slot of 16 bits has 8 zero bits appended, one of 32 gives its
upper 24. -/
def State.tdmSample (s : State) (x : Word) : Word := x &&& (0xFFFFFFFF <<< (32 - min 24 s.tdmWidth))

/-- The samples of a frame, in its path's coefficients. -/
def State.micSamples (s : State) (m : Nat) (st : Stream) (xs : List Word) : List Int :=
  let k := if st = .lp16 then 0 else 2
  (if s.tdmDirect m st then xs.map s.tdmSample else xs).map
    (micOut (if st = .lp16 then 16 else 24) (s.micCoef m k) (s.micCoef m (k + 1)))

/-- The frame's bytes (Table 08.4). -/
def frameBytes (m flags seq span w : Nat) (xs : List Int) : List Byte :=
  [BitVec.ofNat 8 m, BitVec.ofNat 8 flags] ++ leBytes 2 seq ++ leBytes 4 span
    ++ (xs.map fun x => leBytes (w / 8) (BitVec.ofInt w x).toNat).flatten

/-- Samples per frame. -/
def frameLen : Stream → Nat
  | .lp16 => 16
  | .hq16 => 16
  | .hq48 => 48

/-- WIN_SEL that chooses a stream. -/
def winSel : Stream → Nat
  | .lp16 => 1
  | .hq16 => 2
  | .hq48 => 3

/-- The frames of microphone `m`'s window. -/
def State.winFrames (s : State) (m : Nat) : Nat := orOne (s.getAt F.EAR_MICm_CFG_FRAMES m)

/-- The Loft byte of the window slot for sequence `seq` (R239). -/
def State.winAt (s : State) (m : Nat) (st : Stream) (seq : Nat) : Nat :=
  4096 * s.getAt F.EAR_MICm_CFG_BASE_PLOT m + (if st = .hq48 then 256 else 64) * (seq % s.winFrames m)

/-- The stream goes into microphone `m`'s capture window (R239): in Run and Doze, unless the window has failed. -/
def State.winOpen (s : State) (m : Nat) (st : Stream) : Bool :=
  s.getAt F.EAR_MICm_CFG_WIN_SEL m == winSel st && s.pwr.state < 2 && s.getAt F.EAR_MICm_STAT_WIN_FAILED m == 0

/-- A window's frame is written with S taint; the rest of its slot is 0. -/
def State.writeWindow (s : State) (m : Nat) (st : Stream) (seq : Nat) (frame : List Byte) : State :=
  let size := if st = .hq48 then 256 else 64
  { s with mem := s.mem.write .loft (s.winAt m st seq) (frame ++ List.replicate (size - frame.length) 0) 2 }.setAt
    F.EAR_MICm_STAT_WR_INDEX m ((seq + 1) % s.winFrames m)

/-- The 16-bit value of a 16 kHz sample for the recogniser (R240): a 24-bit one is rounded. -/
def toMel (st : Stream) (x : Int) : BitVec 16 :=
  BitVec.ofInt 16 (if st = .lp16 then x else clip 16 (roundEven x 8))

/-- The latest 400 samples of a 16 kHz stream (R240). -/
def State.keepHist (s : State) (m : Nat) (xs : List (Option (BitVec 16))) : State :=
  let h := elGet [] s.ear.hist m ++ xs
  { s with ear := { s.ear with hist := elPut [] s.ear.hist m (h.drop (h.length - 400)) } }

/-- The open pre-roll block of a microphone takes samples of its low-power stream (R243). -/
def State.keepPre (s : State) (m span : Nat) (settle : Bool) (xs : List (BitVec 16)) : State :=
  let e := elGet {} s.ear.enc m
  let e1 := if e.samples = [] then { e with span := span, settle := settle } else { e with settle := e.settle || settle }
  { s with ear := { s.ear with enc := elPut {} s.ear.enc m { e1 with samples := e1.samples ++ xs } } }

/-- A session codes microphone `m` now: in Watch, until ENTRY_COMMIT leaves it (R243). -/
def State.codes (s : State) (m : Nat) : Bool :=
  s.ear.coding && m < 4 && bitOf (s.get F.EAR_PREROLL_CFG_PREROLL_MICS) m

/-- A 1 ms frame of a stream (R237 to R240, R243): sequence, capture window, recogniser history and pre-roll. SPAN is the
count 1,024 ticks before the frame's end (log 25). -/
def State.takeFrame (s : State) (m : Nat) (st : Stream) (xs : List Word) : State :=
  let settle := s.settling m
  let resync := decide (8 ≤ m) && s.ear.tdmHurt.contains (3 * m + streamNo st)
  let w := if st = .lp16 then 16 else 24
  let raw := s.micSamples m st ((List.range (frameLen st)).map fun i => xs.getD i 0)
  let ys := if settle || resync then raw.map fun _ => 0 else raw.map (clip w)
  let clipped := !(settle || resync) && raw.any fun x => clip w x != x
  let seq := elGet 0 s.ear.seq (3 * m + streamNo st)
  let start := (s.span.count - 1024).toNat
  let frame := frameBytes m (b2n settle + 2 * b2n resync + 4 * b2n clipped) seq (start % 2 ^ 32) w ys
  let s1 := { s with ear := { s.ear with seq := elPut 0 s.ear.seq (3 * m + streamNo st) ((seq + 1) % 65536)
                                         tdmHurt := if s.ear.tdmBad then s.ear.tdmHurt
                                                    else without s.ear.tdmHurt (3 * m + streamNo st) } }
  let s2 := s1.when (s1.winOpen m st) fun s => s.writeWindow m st seq frame
  let mel := (if m < 4 then st == .lp16 else st == .hq16)
  let s3 := s2.when mel fun s =>
    s.keepHist m (ys.map fun y => if settle || resync then none else some (toMel st y))
  s3.when (st == .lp16 && s3.codes m) fun s => s.keepPre m (start % 2 ^ 48) settle (ys.map (BitVec.ofInt 16))

/-- STREAM_FRAME (R238, R239): the writer reaches the window's LOFT under 05 R161; a failed LOFT ends the window (R256). -/
def execStreamFrame (mic : Fin 16) (stream : Stream) (samples : List Word) (s : State) : Out :=
  done (if s.streams mic stream then
    if s.winOpen mic stream then
      s.reach (.mic mic) .loft (s.winAt mic stream (elGet 0 s.ear.seq (3 * mic + streamNo stream)))
        (fun s => s.takeFrame mic stream samples)
        (fun s => ((s.setAt F.EAR_MICm_STAT_WIN_FAILED mic 1).ev 0x050D mic).takeFrame mic stream samples)
    else s.takeFrame mic stream samples
  else s)

/-- An EAR drop stops PDM_CLK1 (R254). A 48 kHz window frame that is open then is not written and leaves a gap in FSEQ (01 Table 01.2). -/
def State.earDrop (s : State) : State :=
  let open48 := (List.range 16).filter fun m => s.streams m .hq48 && s.winOpen m .hq48
  let seq := open48.foldl (fun t m => elPut 0 t (3 * m + 2) ((elGet 0 t (3 * m + 2) + 1) % 65536)) s.ear.seq
  ({ s with ear := { s.ear with clk1 := false, settle1 := false, seq := seq } }.breakMel 4 12).showClocks

/-- The power E of a band, in units of 2^−16: of silence it is 0 (R240 steps 1 and 2). -/
def melEnergy (h : List (BitVec 16)) (k : Nat) : Nat := if h.all (· == 0) then 0 else Config.melPower h k

/-- Step 3 of R240: round(4 × log2(1 + E)) − 100, saturated to INT8. The rounded value is the greatest n with 2^(2n − 1) ≤ (1 + E)^8. -/
def melBand (e : Nat) : Byte := BitVec.ofInt 8 (satInt8 (((2 * (65536 + e) ^ 8 / 65536 ^ 8).log2 / 2 : Nat) - 100))

/-- The log-mel frame of a hop (R240): 40 bands of the latest 400 samples; none where SETTLE or RESYNC marks one. -/
def State.melFrame (s : State) (m : Nat) : Option (List Byte) :=
  let h := elGet [] s.ear.hist m
  if h.length == 400 && h.all Option.isSome then some ((List.range 40).map fun k => melBand (melEnergy (h.filterMap id) k)) else none

/-- The stream a microphone's front end reads runs (R240). -/
def State.melRuns (s : State) (m : Nat) : Bool := s.streams m (if m < 4 then .lp16 else .hq16)

/-- An enabled pattern names a microphone. -/
def State.patNames (s : State) (m : Nat) : Bool :=
  (List.range 8).any fun p => bitOf (s.getAt F.EAR_PATp_CFG_FLAGS p) 0 && s.getAt F.EAR_PATp_CFG_MIC p == m

/-- The frame of a hop: none while the stream does not run. -/
def State.hopFrame (s : State) (m : Nat) : Option (List Byte) := if s.melRuns m then s.melFrame m else none

/-- A hop's frame joins the microphone's frames; a hop without one passes as well. -/
def State.takeMel (s : State) (m : Nat) : State :=
  { s with ear := { s.ear with mel := elPut [] s.ear.mel m ((s.hopFrame m :: elGet [] s.ear.mel m).take 100) } }

/-- The latest log-mel frame of a microphone, as FEAT LOGMEL reads it; zeros before the first (log 26). -/
def State.logmelBytes (s : State) (m : Nat) : List Byte :=
  match (elGet [] s.ear.mel m).find? Option.isSome with
  | some (some f) => f
  | _ => List.replicate 40 0

/-! Recogniser (R241) -/

/-- The part of a pattern that no register shows. -/
def State.pat (s : State) (p : Nat) : PatCfg := elGet {} s.ear.pats p

/-- The INT8 vector of a pattern: its CONTEXT frames, STRIDE hops apart, oldest first; none while one is missing. -/
def State.patInput (s : State) (p : Nat) : Option (List Byte) :=
  let c := s.pat p
  let mel := elGet [] s.ear.mel (s.getAt F.EAR_PATp_CFG_MIC p)
  ((List.range c.context).map fun k => (mel.getD ((c.context - 1 - k) * c.stride) none)).foldl
    (fun acc f => match acc, f with
      | some a, some b => some (a ++ b)
      | _, _ => none) (some [])

/-- The evaluation is a hit: the top class is TARGET and the margin reaches THRESH. -/
def State.patHit (s : State) (p : Nat) (x : List Byte) : Bool :=
  let y := netRun s.mem (0x20000 + (s.pat p).netOff) (s.pat p).layers x
  topClass y == s.getAt F.EAR_PATp_CFG_TARGET p && s.getAt F.EAR_PATp_CFG_THRESH p ≤ scoreMargin y

/-- REFRACT_END (R241). -/
def execRefractEnd (p : Fin 8) (s : State) : Out :=
  done (if s.getAt F.EAR_PATp_STAT_STATE p = 2 then s.setAt F.EAR_PATp_STAT_STATE p 1 else s)

/-! Pre-roll (R243 to R246) -/

/-- The step size round(8 × 2^(STEP / 6)) of a step index (R244): the greatest n with (2n − 1)^6 ≤ 16^6 × 2^STEP, found
bit by bit. -/
def adpcmStep (i : Nat) : Nat :=
  ((List.range 14).reverse).foldl (fun n b => if (2 * (n + 2 ^ b) - 1) ^ 6 ≤ 16 ^ 6 * 2 ^ i then n + 2 ^ b else n) 0

/-- Bits per code, and the difference of magnitude `m` at a step size. -/
def codeBits (codec : Nat) : Nat := if codec = 0 then 4 else 2
def adpcmDiff (codec m step : Nat) : Nat := ((2 * m + 1) * step) >>> (if codec = 0 then 3 else 1)

/-- The change of the step index for magnitude `m`. -/
def adpcmAdj (codec m : Nat) : Int :=
  if codec = 0 then (if m < 4 then -1 else 2 * ((m : Int) - 3)) else (if m = 0 then -1 else 2)

/-- The code of a sample, and the predictor and step index behind it (R244). -/
def adpcmCode (codec : Nat) (p : Int × Nat) (x : Int) : Nat × (Int × Nat) :=
  let e := x - p.1
  let step := adpcmStep p.2
  let m := ((List.range (2 ^ (codeBits codec - 1))).filter fun m => adpcmDiff codec m step ≤ e.natAbs).getLastD 0
  let d : Int := adpcmDiff codec m step
  let neg := e < 0
  ((if neg then 2 ^ (codeBits codec - 1) else 0) + m,
    (clampInt (-32768) 32767 (if neg then p.1 - d else p.1 + d), (clampInt 0 63 (p.2 + adpcmAdj codec m)).toNat))

/-- The codes of a run of samples, oldest first, and where the encoder stands behind them. -/
def adpcmRun (codec : Nat) (p : Int × Nat) : List (BitVec 16) → List Nat × (Int × Nat)
  | [] => ([], p)
  | x :: xs =>
    let c := adpcmCode codec p x.toInt
    let r := adpcmRun codec c.2 xs
    (c.1 :: r.1, r.2)

/-- Codes packed into 240 bytes, low bits first; missing codes are 0. -/
def packCodes (codec : Nat) (cs : List Nat) : List Byte :=
  let per := 8 / codeBits codec
  (List.range 240).map fun i =>
    BitVec.ofNat 8 ((List.range per).foldl (fun v k => v + cs.getD (per * i + k) 0 * 2 ^ (codeBits codec * k)) 0)

/-- Samples of a block. -/
def blockLen (codec : Nat) : Nat := if codec = 0 then 480 else 960

/-- The ring's blocks (256 bytes each). -/
def State.ringBlocks (s : State) : Nat := 256 * (s.get F.EAR_PREROLL_CFG_SIZE_M1 + 1)

/-- A block is encrypted and written over the oldest of the ring, with S taint (R243, R245). -/
def State.writeBlock (s : State) (plain : List Byte) : State :=
  let w := s.get F.EAR_PREROLL_STATUS_WR_BLOCK
  let s1 := s.yardWrite (0x80000 + 256 * w) (prerollCipher s.ear.key s.ear.nonce s.ear.written plain) 2
  ({ s1 with ear := { s1.ear with written := s1.ear.written + 1 } }.set F.EAR_PREROLL_STATUS_WR_BLOCK
    ((w + 1) % s.ringBlocks)).set F.EAR_PREROLL_STATUS_BLOCKS (min s.ringBlocks (s.get F.EAR_PREROLL_STATUS_BLOCKS + 1))

/-- The plain bytes of a block (Table 08.6); block numbers count from 0 (log 27). -/
def State.blockBytes (s : State) (m flags span : Nat) (pred : Int) (step : Nat) (data : List Byte) : List Byte :=
  [BitVec.ofNat 8 m, BitVec.ofNat 8 flags] ++ leBytes 2 s.ear.written ++ leBytes 6 span
    ++ leBytes 2 (BitVec.ofInt 16 pred).toNat
    ++ [BitVec.ofNat 8 step, BitVec.ofNat 8 (s.get F.EAR_PREROLL_CFG_CODEC), 0, 0] ++ data

/-- The block of microphone `m`'s waiting samples is coded and written; the encoder goes on behind it. -/
def State.closeBlock (s : State) (m : Nat) : State :=
  let codec := s.get F.EAR_PREROLL_CFG_CODEC
  let e := elGet {} s.ear.enc m
  let n := blockLen codec
  let r := adpcmRun codec (e.pred, e.step) (e.samples.take n)
  let s1 := s.writeBlock (s.blockBytes m (b2n e.start + 2 * b2n e.settle) e.span e.pred e.step (packCodes codec r.1))
  let rest : PreEnc := { samples := e.samples.drop n, pred := r.2.1, step := r.2.2, start := false, settle := false,
                         span := (e.span + 64 * n) % 2 ^ 48 }
  { s1 with ear := { s1.ear with enc := elPut {} s1.ear.enc m rest } }

/-- PREROLL_BLOCK (R243): a full block of a microphone. -/
def execPrerollBlock (mic : Fin 16) (s : State) : Out :=
  done (if s.codes mic && blockLen (s.get F.EAR_PREROLL_CFG_CODEC) ≤ (elGet {} s.ear.enc mic).samples.length then
    s.closeBlock mic else s)

/-- The session ends (R246): key and nonce are erased, the ring is emptied. -/
def State.endSession (s : State) (cause : Nat) : State :=
  if s.flag F.EAR_PREROLL_STATUS_SESSION then
    ((((({ s with ear := { s.ear with key := [], nonce := [], written := 0, enc := [], coding := false, pendEnd := 0 } }.set
      F.EAR_PREROLL_STATUS_SESSION 0).set F.EAR_PREROLL_STATUS_UNLOADING 0).set F.EAR_PREROLL_STATUS_BLOCKS 0).set
      F.EAR_PREROLL_STATUS_WR_BLOCK 0).set F.SEC_KEYS_PREROLL 0).ev 0x050A cause
  else s

/-- A session-end cause: during an unload it waits for the unload's end (R253). -/
def State.sessionEnds (s : State) (cause : Nat) : State :=
  if s.flag F.EAR_PREROLL_STATUS_UNLOADING then { s with ear := { s.ear with pendEnd := cause } } else s.endSession cause

/-- A session starts: the old one ends, a fresh key and nonce are drawn, the ring is empty. -/
def State.newSession (s : State) : State :=
  let s1 := (s.endSession 5).draw
  let s2 := { s1 with ear := { s1.ear with key := (List.range 16).map (Config.drbgByte s1.free)
                                           nonce := (List.range 8).map fun i => Config.drbgByte s1.free (16 + i)
                                           written := 0, enc := [], coding := true, pendEnd := 0 } }
  ((s2.set F.EAR_PREROLL_STATUS_SESSION 1).set F.SEC_KEYS_PREROLL 1).ev 0x0509 0

/-- A session starts at entry to Watch (R243); during an unload it waits, as the old one's end does (R253). -/
def State.startSession (s : State) : State :=
  if s.flag F.EAR_PREROLL_STATUS_UNLOADING then s.sessionEnds 5 else s.newSession

/-- An unload ends: its session ends, with the cause that waited for it, and in Watch the next one starts (R246, R253). -/
def State.unloadEnds (s : State) : State :=
  if s.ear.pendEnd = 5 ∧ s.pwr.state = 2 then s.newSession else s.endSession (if s.ear.pendEnd = 0 then 1 else s.ear.pendEnd)

/-- Ring block `k` of the session's last BLOCKS, oldest first, decrypted. -/
def State.unloadBlock (s : State) (k : Nat) : List Byte :=
  let n := s.get F.EAR_PREROLL_STATUS_BLOCKS
  let num := s.ear.written - n + k
  let at_ := num % s.ringBlocks
  prerollCipher s.ear.key s.ear.nonce num (s.yardRead (0x80000 + 256 * at_) 256)

/-- An unload starts: without a session it is ignored. -/
def State.startUnload (s : State) : State :=
  s.when (s.flag F.EAR_PREROLL_STATUS_SESSION) fun s => s.set F.EAR_PREROLL_STATUS_UNLOADING 1

/-- A value written to EAR_PREROLL_CMD. -/
def State.prerollCmd (s : State) (v : Word) : State :=
  if F.EAR_PREROLL_CMD_KEY.of v = 0x554C ∧ v.getLsbD 0 then s.startUnload else s

/-- UNLOAD (R246). -/
def execUnload (m : Master) (v : Word) (s : State) : Out :=
  done (s.writeAs m R.EAR_PREROLL_CMD.base fun s => s.prerollCmd v)

/-- AUTO_UNLOAD (R246): the chip has left Watch and the destination LOFT is on. -/
def execAutoUnload (s : State) : Out :=
  done (if s.flag F.EAR_PREROLL_CFG_AUTO_UNLOAD && s.pwr.state < 2 && !s.ear.coding
      && s.steadyAt (12 + s.get F.EAR_PREROLL_DST_BASE_PLOT / 1024) 2 then s.startUnload else s)

/-- PREROLL_UNLOADED (R246): the decrypted blocks, oldest first, lie in the Loft with S taint, as far as the Loft reaches;
the tally gains 1 and the session ends. -/
def execPrerollUnloaded (s : State) : Out :=
  done (if s.flag F.EAR_PREROLL_STATUS_UNLOADING then
    let base := 4096 * s.get F.EAR_PREROLL_DST_BASE_PLOT
    let bytes := (((List.range (s.get F.EAR_PREROLL_STATUS_BLOCKS)).map s.unloadBlock).flatten).take (0x1000000 - base)
    s.reach .preroll .loft base (fun s => s.reach .preroll .loft (base + (bytes.length - 1))
      (fun s =>
        ((({ s with mem := s.mem.write .loft base bytes 2 }.set F.EAR_PREROLL_STATUS_UNLOADING 0).tallyOp .add
          (s.get F.EAR_PREROLL_DST_TALLY) 1).ev 0x050B 0).unloadEnds)
      (fun s => s.unloadEnds)) (fun s => s.unloadEnds)
  else s)

/-- PREROLL_KEEP_END (R246). -/
def execPrerollKeepEnd (s : State) : Out :=
  done (if s.pwr.state ≠ 2 ∧ ¬ s.ear.coding then s.sessionEnds 2 else s)

/-! Mute (R247 to R250) -/

/-- A microphone's calibration is of the high-quality path or the TDM conversion. -/
def State.calPathHq (s : State) (m : Nat) : Bool := decide (4 ≤ m) || s.ear.calHq.contains m

/-- Vote slot 10 of EAR stands while a calibration of a path in it is due (05 Table 05.4a). -/
def State.calVoteEar (s : State) : State :=
  let due := (List.range 16).any fun m => s.calPathHq m
    && (s.ear.calDue.contains m || s.getAt F.EAR_MICm_STAT_CAL_STATE m == 1 || s.getAt F.EAR_MICm_STAT_CAL_STATE m == 2)
  let v := if due then 2 else 0
  if s.voteSlot 19 10 = v then s else s.setVote 19 10 v

/-- CAL_STATE of a microphone. -/
def State.setMicCal (s : State) (m v : Nat) : State := (s.setAt F.EAR_MICm_STAT_CAL_STATE m v).calVoteEar

/-- Calibrations in progress of the microphones that `pick` selects are abandoned (01 R43). -/
def State.micCalsAbandon (s : State) (pick : Nat → Bool) : State :=
  s.each ((List.finRange 16).filter fun m : Fin 16 => pick m.val) fun s m =>
    s.when (s.getAt F.EAR_MICm_STAT_CAL_STATE m == 1 || s.getAt F.EAR_MICm_STAT_CAL_STATE m == 2)
      fun s => (s.setMicCal m 0).calAbandon (.mic m)

/-- The Steward may calibrate: CORE_MGMT is on in Run or Doze (01 R20; 05 R155), outside Brace (06 R179). -/
def State.calsRun (s : State) : Bool := s.isUp && s.coreOn && s.pwr.state < 2 && !s.flag F.SUP_STATUS_BRACE

/-- The path that a microphone's calibration measures runs with its clock settled (R251). -/
def State.micSettled (s : State) (m : Nat) : Bool :=
  let hq := s.calPathHq m
  s.streams m (if hq then .hq16 else .lp16) && !s.settling m && !(decide (8 ≤ m) && s.ear.tdmBad)

/-- Calibrations of microphones that are due begin where their path runs: after Brace, as their domain reaches on, as a clock settles (01
R43). -/
def State.micCalsAgain (s : State) : State :=
  s.each ((List.finRange 16).filter fun m => s.cal.abandoned.contains (calKey (.mic m))) fun s m =>
    s.when (s.calsRun && s.micSettled m) fun s =>
      ({ s with cal := { s.cal with abandoned := without s.cal.abandoned (calKey (.mic m)) }
                ear := { s.ear with calDue := without s.ear.calDue m } }).setMicCal m 1

/-- SETTLE_END (R236). -/
def execSettleEnd (clk : Fin 2) (s : State) : Out :=
  done (((if clk = 0 then { s with ear := { s.ear with settle0 := false } }
    else { s with ear := { s.ear with settle1 := false } }).showClocks).micCalsAgain)

/-- The pre-roll of a muted session (R247): each coded microphone's open block is closed, padded with zero codes, and one
block with MUTED and zero DATA follows for it (log 28). -/
def State.prerollMute (s : State) : State :=
  s.each ((List.range 4).filter s.codes) fun s m =>
    let s1 := s.when ((elGet {} s.ear.enc m).samples != []) fun s => s.closeBlock m
    let e := elGet {} s1.ear.enc m
    let s2 := s1.writeBlock (s1.blockBytes m 4 (s1.span.count.toNat % 2 ^ 48) e.pred e.step (List.replicate 240 0))
    { s2 with ear := { s2.ear with enc := elPut {} s2.ear.enc m { e with samples := [], start := true } } }

/-- The mute holds take effect (R247). -/
def State.mute (s : State) : State :=
  if s.flag F.EAR_STATUS_MUTED then s.set F.EAR_STATUS_UNMUTING 0
  else
    let s1 := ((((s.set F.EAR_STATUS_MUTED 1).set F.EAR_STATUS_UNMUTING 0).set F.EAR_STATUS_MICVDD_ON 0).stopClocks).inc
      F.EAR_COUNTS_MUTES
    ((s1.prerollMute).micCalsAbandon fun _ => true).ev 0x0504 0

/-- The unmute wait begins when MUTE_SW is inactive and the LED path has no fault (R249). -/
def State.tryUnmute (s : State) : State :=
  s.when (s.flag F.EAR_STATUS_MUTED && !s.ear.muteSw && !s.flag F.EAR_STATUS_LED_FAULT) fun s => s.set F.EAR_STATUS_UNMUTING 1

/-- MUTE_ON (R247). -/
def execMuteOn (s : State) : Out :=
  done ({ s with ear := { s.ear with muteSw := true }, sup := { s.sup with muteDown := true } }.mute)

/-- MUTE_SW reads inactive. -/
def State.muteRelease (s : State) : State := { s with ear := { s.ear with muteSw := false } }.tryUnmute

/-- MUTE_SW_RELEASE (R249); below VDDIO_A's detector the switch reads active all the same (17 R485). -/
def execMuteSwRelease (s : State) : Out :=
  done ({ s with sup := { s.sup with muteDown := false } }.when (s.bankOk 0) fun s => s.muteRelease)

/-- MUTE_OFF (R249): the holds release and MICVDD switches on unless its fault stands. -/
def execMuteOff (s : State) : Out :=
  done (if s.flag F.EAR_STATUS_UNMUTING then
    (((s.set F.EAR_STATUS_UNMUTING 0).set F.EAR_STATUS_MUTED 0).set F.EAR_STATUS_MICVDD_ON
      (b2n (!s.flag F.EAR_STATUS_MICVDD_FAULT && !s.scanHold && s.pwr.state < 3))).ev 0x0505 0
  else s)

/-- A test finds the mute LED path at fault. -/
def State.muteLedFails (s : State) (shorted : Bool) : State :=
  if s.flag F.EAR_STATUS_LED_FAULT then s else ((s.set F.EAR_STATUS_LED_FAULT 1).mute).ev 0x0506 (b2n shorted)

/-- MUTE_LED_TEST (R248); below VDDIO_A's detector the path reads open (17 R485). -/
def execMuteLedTest (r : LedPath) (s : State) : Out :=
  done (match (if s.bankOk 0 then r else .openPath) with
    | .good =>
      if s.flag F.EAR_STATUS_LED_FAULT then ((s.set F.EAR_STATUS_LED_FAULT 0).ev 0x0507 0).tryUnmute else s
    | .openPath => s.muteLedFails false
    | .shorted => s.muteLedFails true)

/-- MICVDD_FAULT (R250): MICVDD is latched off until the next start and both PDM clocks stop, and with them the calibrations of their
microphones (01 R43). The TDM port runs on. -/
def execMicvddFault (s : State) : Out :=
  done (if s.flag F.EAR_STATUS_MICVDD_ON then
    ((((s.set F.EAR_STATUS_MICVDD_FAULT 1).set F.EAR_STATUS_MICVDD_ON 0).stopPdm).micCalsAbandon fun m => decide (m < 8)).ev 0x0508 0
  else s)

/-- The alarm and debug holds (16 R459, R466): the clocks are held low, the TDM input is disabled, the session ends at
once, with cause 4 (log 29). -/
def State.earStop (s : State) : State := ((s.stopClocks).micCalsAbandon fun _ => true).endSession 4

/-! Calibration (R251) -/

/-- MIC_CAL_START: the clock has settled, an unmute has ended or PERIOD_S has elapsed. A calibration of microphones 0 to 3 is of the
low-power or of the high-quality path. Where its path does not run, or in Brace, it waits, due. -/
def execMicCalStart (m : Fin 16) (hq : Bool) (s : State) : Out :=
  let st := s.getAt F.EAR_MICm_STAT_CAL_STATE m
  done (if s.isUp && s.coreOn && s.pwr.state < 2 && s.earLive && s.micOn m && st != 1 && st != 2 then
    let s1 := { s with ear := { s.ear with calHq := if hq then withIdx s.ear.calHq m else without s.ear.calHq m
                                           calDue := withIdx s.ear.calDue m } }
    ((s1.calAbandon (.mic m)).calVoteEar).micCalsAgain
  else s)

/-- A rejection at step 1 or 3. -/
def State.micReject (s : State) (m : Fin 16) (step : Nat) : State :=
  (((s.setMicCal m 4).calReject (.mic m)).ev2 0x0510 m step).inc F.EAR_COUNTS_CAL_REJECTS

/-- A level of `x` units of 2^−31 of full scale lies below −`q` dBFS, with 10 dB more where `up`: x < 10^((10 up − q)/20). -/
def belowDb (x q : Nat) (up : Bool) : Bool := decide (x ^ 20 * 10 ^ q < (if up then 10 ^ 10 else 1) * 2 ^ 620)

/-- MIC_QUIET_CHECK_END (R251): over 100 ms the RMS level after DC removal, and the largest sample, in units of 2^−31 of full scale. -/
def execMicQuietCheckEnd (m : Fin 16) (rms peak : Word) (s : State) : Out :=
  let q := s.get F.EAR_CAL_CFG_QUIET_DBFS
  done (if s.getAt F.EAR_MICm_STAT_CAL_STATE m = 1 ∧ s.calsRun then
    if belowDb rms.toNat q false && belowDb peak.toNat q true then s.setMicCal m 2 else s.micReject m 1
  else s)

/-- The microphones of a calibration's path (Table 08.1). -/
def State.samePath (s : State) (m k : Nat) : Bool :=
  s.micOn k && (if 8 ≤ m then decide (8 ≤ k) else if s.calPathHq m then decide (k < 8) else decide (k < 4))

/-- An insertion into an ascending list. -/
def insertNat (x : Nat) : List Nat → List Nat
  | [] => [x]
  | y :: ys => if x ≤ y then x :: y :: ys else y :: insertNat x ys

/-- Twice the median of a list: of an even number, the mean of the two middle ones (log 217). -/
def median2 (l : List Nat) : Nat :=
  let v := l.foldr insertNat []
  v.getD ((v.length - 1) / 2) 0 + v.getD (v.length / 2) 0

/-- The DC offset of a measurement in units of 2^−15 of full scale; a quotient that is not whole is one of its neighbours (log 217). -/
def micDc (x : MicMeas) (pick : Word) : Int := freeQuot x.sum (x.count * 65536) pick

/-- The gain trim in Q2.14, likewise: the median level of the path's enabled microphones over this microphone's own. -/
def State.micGain (s : State) (m : Nat) (x : MicMeas) (pick : Word) : Int :=
  let own := ((x.levels.find? fun p => p.1.val == m).map (·.2.toNat)).getD 0
  freeQuot (median2 ((x.levels.filter fun p => s.samePath m p.1).map (·.2.toNat)) * 8192 : Nat) own pick

/-- A DC offset within ±2 % of full scale and a trim within ±3 dB (R251). -/
def micPlausible (dc gain : Int) : Bool := dc.natAbs ≤ 655 && 11599 ≤ gain && gain ≤ 23143

/-- MIC_CAL_END (R251): the coefficients that the measurement gives are applied, or rejected at step 3. -/
def execMicCalEnd (m : Fin 16) (meas : MicMeas) (s : State) : Out :=
  done (if s.getAt F.EAR_MICm_STAT_CAL_STATE m = 2 ∧ s.calsRun then
    let dc := micDc meas (Config.freeWord s.free)
    let gain := s.micGain m meas (Config.freeWord (s.free + 1))
    let s1 := s.draw.draw
    if micPlausible dc gain then
      let k := 4 * (m : Nat) + (if s.calPathHq m then 2 else 0)
      ((((s1.setCoef k (BitVec.ofInt 16 dc)).setCoef (k + 1) (BitVec.ofInt 16 gain)).setAt F.EAR_MICm_STAT_CAL_SOURCE m 1).setMicCal
        m 3).calPass (.mic m)
    else s1.micReject m 3
  else s)

/-! TDM (R255) -/

/-- The streams of the TDM port, numbered as FSEQ counts them. -/
def tdmStreams : List Nat := ((List.range 8).map fun k => [3 * (8 + k) + 1, 3 * (8 + k) + 2]).flatten

/-- TDM_FRAMING: a framing error in the target role. The frames it hits are zero with RESYNC: those open now, and every one until the port
has resynchronised, with the one that is open then. -/
def execTdmFraming (s : State) : Out :=
  done (if s.earLive && s.earOn && !s.flag F.EAR_TDM_CFG_CONTROLLER then
    ({ s with ear := { s.ear with tdmBad := true, tdmHurt := tdmStreams } }.inc F.EAR_COUNTS_TDM_ERRORS).ev 0x050C 0
  else s)

/-- TDM_RESYNC. -/
def execTdmResync (s : State) : Out := done { s with ear := { s.ear with tdmBad := false } }

end Sys2Proof.Machine
end

