-- ==== Sys2Proof/Machine/Span.lean ====
section
/-! DEFINITION. The span counter, the clocks and the carry across a stop (04). -/

namespace Sys2Proof.Machine

/-- The root stops with AON retained: the counter stands and the carry begins (R135); RATE_VALID and PPM_BOUND at this moment decide
NOMINAL and the bound (R134, R137). A stop of a clearing start carries nothing (R130). -/
def State.stopRoot (s : State) : State :=
  { s with span := { s.span with running := false, rootOn := false, carrying := !s.span.clearing, acc := 0
                                 atStop := if s.span.running then s.span.count else s.span.atStop
                                 validAtStop := if s.span.running then s.flag F.SPN_STATUS_RATE_VALID
                                                else s.span.validAtStop
                                 boundAtStop := if s.span.running then s.get F.SPN_CFG_PPM_BOUND else s.span.boundAtStop } }.set
    F.SPN_STATUS_PLL_LOCK 0

/-- One XT32 rising edge of a carry: SPAN_RATE joins the accumulator, and a carry out of bit 39 adds 2^16 to the counter
at once (R135). -/
def SpanState.edge (p : SpanState) (rate : Word) : SpanState :=
  let sum := p.acc.toNat + rate.toNat
  { p with acc := BitVec.ofNat 40 sum, count := p.count + (if 2 ^ 40 ≤ sum then 65536 else 0) }

/-- The bound of a carry of `c` ticks (R137). -/
def errBound (c b : Nat) : Nat := ceilDiv (c * b) 1000000 + 2

/-- A read of SPN_COUNT_LO by the master of code `m` (R132): the upper half is latched into its shadow, the lower half is the answer. -/
def State.latchCount (s : State) (m : Nat) : State :=
  { s with span := { s.span with shadow := elPut 0 s.span.shadow m (BitVec.ofNat 32 (s.span.count.toNat / 2 ^ 32)) } }

/-- The lower half of the counter. -/
def State.countLo (s : State) : Word := BitVec.ofNat 32 s.span.count.toNat

/-- A master's read that has stalled completes: its bytes are the answer; debug finds them at its next Capture-DR (16 R464). -/
def State.finishRead (s : State) (m : Nat) (bs : List Byte) : State :=
  (s.answer bs).when (m == 3) fun s => { s with jtag := { s.jtag with apDone := true, apData := BitVec.ofNat 32 (leNat (bs.take 4)) } }

/-- The reads of SPN_COUNT_LO that the alignment has stalled complete, in the order they came (R141). -/
def State.serveReads (s : State) : State :=
  { s with span := { s.span with reads := [] } }.each s.span.reads fun s m => (s.latchCount m).finishRead m (leBytes 4 s.countLo.toNat)

/-- What follows the counter's alignment, ordinary or by the RC estimate: SPN_CARRIED, SPN_ERR_LAST and SPN_ERR_TOTAL,
CARRIED, the SPAN_RATE reset a cold start left waiting (R134), and the held events with the carry's own (R222). -/
def State.closeCarry (s : State) (count : BitVec 64) (err code : Nat) (rc : Word) : State :=
  let carried := (count - s.span.atStop).toNat
  let s1 := { s with span := { s.span with count := count, running := true, rootOn := true, carrying := false, acc := 0 } }
  let s2 := ((((s1.set F.SPN_CARRIED_TICKS (satTo 32 carried)).set F.SPN_ERR_LAST_ERR (satTo 32 err)).addAt
    F.SPN_ERR_TOTAL_ERR 0 (satTo 32 err)).set F.SPN_STATUS_CARRIED 1).set F.SPN_RC_COUNT_COUNT rc.toNat
  let s3 := s2.when s2.span.rateReset fun s =>
    ({ s with span := { s.span with rateReset := false } }.set F.SPN_RATE_SPAN_RATE 0x1F400000).set F.SPN_STATUS_RATE_VALID 0
  ((s3.set F.SPN_STATUS_ALIGNING 0).releaseHeld [(code, BitVec.ofNat 32 (satTo 32 err))]).serveReads

/-- The alignment of R136 on an XT32 edge: that edge's SPAN_RATE, then the accumulator's integer part; the fraction goes. -/
def State.align (s : State) (rc : Word) : State :=
  let p := s.span.edge (s.reg R.SPN_RATE 0)
  let count := p.count + BitVec.ofNat 64 (p.acc.toNat / 16777216)
  let c := (count - s.span.atStop).toNat
  let b := orOne s.span.boundAtStop + if s.span.validAtStop then 0 else 100
  (s.set F.SPN_STATUS_NOMINAL (b2n (!s.span.validAtStop))).closeCarry count (errBound c b) 0x0200 rc

/-- The span clock runs: the counter counts, and the start has restarted the root at full drive (R126, R127). -/
def State.startRoot (s : State) : State :=
  { s with span := { s.span with rootOn := true } }.set F.SPN_STATUS_DRIVE 1

/-- SPAN_ALIGN (R136): with the root restarted, the next XT32 edge folds the carried time in. -/
def execSpanAlign (rcCycles : Word) (s : State) : Out :=
  done (if s.span.carrying && s.span.rootOn then s.align rcCycles else s)

/-- RATE_WINDOW (R133, R134, R145): a window of 65,536 XT32 cycles closes on `count` span-clock cycles. -/
def execRateWindow (count : BitVec 22) (s : State) : Out :=
  done (if s.span.running then
    let c := count.toNat
    let s1 := { s with span := { s.span with rateWins := s.span.rateWins + 1 } }.set F.SPN_MEAS_LAST_COUNT c
    if 2046976 ≤ c ∧ c ≤ 2049024 then
      ((s1.set F.SPN_RATE_SPAN_RATE (c * 256)).set F.SPN_STATUS_RATE_VALID 1).when (s.flag F.SPN_STATUS_XT_STOPPED)
        fun s => (s.set F.SPN_STATUS_XT_STOPPED 0).ev 0x0204 0
    else (s1.ev 0x0201 c).inc F.SPN_MEAS_REJECTS
  else s)

/-- The counter aligns from the RC estimate of 102.4 ticks a cycle (R143, R144); it never decreases. -/
def State.xtLost (s : State) (rc : Word) : State :=
  let est := rc.toNat * 1024 / 10
  let aim := s.span.atStop + BitVec.ofNat 64 est
  let count := if aim.toNat < s.span.count.toNat then s.span.count else aim
  let s0 := { s with gate := { s.gate with lost := true } }
  let s1 := (s0.startRoot.set F.SPN_STATUS_LOST 1).set F.SPN_STATUS_NOMINAL 0
  s1.closeCarry count (ceilDiv (est * 35) 100) 0x0203 rc

/-- XT32_LOST (R144, R143): XT32 stopped during a stop. The part wakes, drops the accumulator and aligns. -/
def execXt32Lost (rcCycles : Word) (s : State) : Out :=
  done (if s.span.carrying then
    (s.xtLost rcCycles).when (s.isUp && s.pwr.state == 3) fun s =>
      ((s.set F.PWR_WAKE_STATUS_LAST_SOURCE 3).ev 0x0212 3).request { target := 2, cause := 2 }
  else s)

/-- XT32_STOPPED (R145): no XT32 edge for 8 RC cycles while the root runs. A Rest request that is pending becomes the forced request
for Watch (05 R167). -/
def execXt32Stopped (s : State) : Out :=
  done (if s.span.running && !s.flag F.SPN_STATUS_XT_STOPPED then
    ((s.set F.SPN_STATUS_XT_STOPPED 1).ev 0x0202 0).when
      (s.isUp && (match s.pwr.req with | some q => q.target == 3 | none => false)) fun s => s.refuseRest
  else s)

/-- PLL_UNLOCK (R146): a PLL loses lock and halts issue until it relocks; the span counter is unaffected. -/
def execPllUnlock (p : Pll) (s : State) : Out :=
  done (match p with
    | .main => if s.flag F.SPN_STATUS_PLL_LOCK then (s.set F.SPN_STATUS_PLL_LOCK 0).ev 0x0205 0 else s
    | .barn => if s.span.barnLock then { s with span := { s.span with barnLock := false } }.ev 0x0205 1 else s)

/-- PLL_RELOCK (R146, R138): issue resumes, and the tick count restarts with the main PLL. -/
def execPllRelock (p : Pll) (s : State) : Out :=
  done (match p with
    | .main => if s.span.running && s.pwr.nextState < 2 && !s.flag F.SPN_STATUS_PLL_LOCK then
        (s.set F.SPN_STATUS_PLL_LOCK 1).set F.SPN_TICK_COUNT 0 else s
    | .barn => if s.level 17 == 2 then { s with span := { s.span with barnLock := true } } else s)

end Sys2Proof.Machine
end

