-- ==== Sys2Proof/Machine/Alarms.lean ====
section
/-! DEFINITION. The security monitor: alarm sources, the actions of L1, L2 and L3, and the zeroise (16 R457 to R461,
R468). -/

namespace Sys2Proof.Machine

/-- The dispatcher, the stalls, the Mover and the Barn stop at once without re-issue (R459 action 3). -/
def State.haltFabric (s : State) : State :=
  let s1 := s.each (List.range 96) fun s st =>
    { s with fab := { s.fab with stalls := elPut {} s.fab.stalls st
                                  { elGet {} s.fab.stalls st with tile := none, cut := none } } }
  let s2 := s1.each (List.range 4) fun s b =>
    { s with barn := { s.barn with bays := elPut {} s.barn.bays b
                                    { elGet {} s.barn.bays b with tile := none, cut := none } } }
  { s2 with fab := { s2.fab with reissues := [] }, disp := { s2.disp with chans := [] }
            barn := { s2.barn with waiting := [] } }.endAccesses fun e => match e with
    | .stall _ => true
    | .bay _ => true
    | .ring _ => true
    | _ => false

/-- Actions 1 to 4 of L2: egress is closed and the fabric halted from the level on (R459), sensors stop, the Pen is
wiped. -/
def State.alarmActions (s : State) : State :=
  ((((s.portsStop 6).camStop).earStop).haltFabric).alarmWipe

/-- STATE of every phase while the rail runs: shed, blind, idle beside the one phase of light-load mode, running. -/
def State.showPhases (s : State) : State :=
  let shed := s.get F.VRC_STATUS_SHED
  let blind := s.get F.VRC_STATUS_BLIND
  let one := ((List.range 4).find? fun n => !(bitOf shed n) && !(bitOf blind n)).getD 0
  s.each (List.range 4) fun s n =>
    s.setAt F.VRC_PHASEn_STATE n
      (if bitOf shed n then 1 else if bitOf blind n then 2 else if s.flag F.VRC_STATUS_LIGHT && n != one then 3 else 0)

/-- The rail stops (06 R186, R205): the VDD_CORE thresholds disarm, no phase has a duty, light-load mode has ended, and the next enable
calibrates every phase afresh. VDD_CORE discharges: its monitor code goes to 0, for 0.500 V and below (log 135). -/
def State.railStop (s : State) : State :=
  let s1 := (({ s with sup := { s.sup with armed := false, calibrated := [], coreCode := 0 } }.set F.VRC_STATUS_RUNNING 0).set
    F.VRC_STATUS_LIGHT 0).set F.SUP_STATUS_CORE_ARMED 0
  (s1.each (List.range 4) fun s n => s.setAt F.VRC_PHASEn_DUTY n 0).showPhases

/-- Every switched domain opens, and the rail stops (R460 action 7; 06 R182, R186). A PEN that is on is wiped before its switch opens (02
Table 02.1). -/
def State.openDomains (s : State) : State :=
  let s0 := s.when (s.level 18 == 2) fun s => (s.startPenWipe 1).penWiped
  let s1 := (s0.each (List.range 24) fun s d => s.setLevel d 0).railStop
  { s1 with pwr := { s1.pwr with flight := [], pend := [], holdDone := [], retry := [] } }

/-- A reset of a cause begins (03 R110): every switched domain opens and the start of that cause is due. -/
def State.resetDue (s : State) (cause : Nat) : State :=
  let s1 := s.openDomains
  { s1 with boot := { s1.boot with phase := .due, cause := cause } }

/-- The volatile keys are erased (R460 action 4): the pre-roll key with its session, and the link session value. -/
def State.eraseVolatile (s : State) : State :=
  let s1 := s.endSession 4
  { s1 with link := { s1.link with session := 0 } }

/-- In Rest a detection starts the root at full drive (R461), which runs on until the next start (DESIGN CHOICE, log 224). -/
def State.detectRoot (s : State) : State :=
  s.when (s.isUp && s.pwr.state == 3) fun s => s.startRoot.set F.SPN_STATUS_ALIGNING (b2n s.span.carrying)

/-- L3 begins (R460): actions 1 to 4 as far as no earlier L2 has taken them (R468). -/
def State.alarmL3 (s : State) (took : Bool) : State :=
  let s1 := if took then s else s.alarmActions
  let s2 := (s1.eraseVolatile).set F.SEC_KEYS_ZEROISE_PENDING 1
  { s2 with boot := { s2.boot with phase := .zeroise }, keys := { s2.keys with erased := false, filled := false } }

/-- The level SEC_ALARM_LEVEL gives a source. -/
def State.alarmLevel (s : State) (src : Nat) : Nat := bitsOf (s.get F.SEC_ALARM_LEVEL_LEVEL) (2 * src) 2

/-- A source raises its alarm (R457 to R460, R468): SEEN and event 0x0E00; a level above the one in effect acts. An L2 of
a start waits for a reset (03 R114). No action of a level names a forced request, so none is raised with parameter 3 of event 0x0216
(DESIGN CHOICE, log 210). -/
def State.alarm (s : State) (src : Nat) : State :=
  let lv := s.alarmLevel src
  let cur := s.get F.SEC_ALARM_STATUS_LEVEL
  let s1 := (s.detectRoot.set F.SEC_ALARM_STATUS_SEEN (setBitOf (s.get F.SEC_ALARM_STATUS_SEEN) src true)).ev2 0x0E00 src lv
  if lv ≤ cur ∨ lv < 2 then s1
  else
    let s2 := (s1.set F.SEC_ALARM_STATUS_LEVEL lv).set F.SEC_ALARM_STATUS_FIRST_SOURCE src
    if lv = 3 then s2.alarmL3 (decide (2 ≤ cur))
    else
      let s3 := s2.alarmActions
      if s3.boot.phase = .inStart then { s3 with boot := { s3.boot with phase := .alarmed } } else s3

/-- The Z96 is powered: the always-on monitors run. -/
def State.powered (s : State) : Bool := s.boot.phase != .down

/-- MESH_BREAK: source 0, always armed. -/
def execMeshBreak (s : State) : Out := done (if s.powered then s.alarm 0 else s)

/-- CORE_GLITCH: source 1, while the VDD_CORE thresholds are armed. -/
def execCoreGlitch (s : State) : Out := done (if s.powered && s.sup.armed then s.alarm 1 else s)

/-- AON_GLITCH: source 2, always armed. -/
def execAonGlitch (s : State) : Out := done (if s.powered then s.alarm 2 else s)

/-- ROOT_CLOCK_FAULT: source 3, in every state but Rest while XT32 runs. While the root is absent the counter carries time
from XT32 (04 R147). The root restarts by itself, with no start, and the next SPAN_ALIGN ends the carry (DESIGN CHOICE, log 31). -/
def execRootClockFault (stopped : Bool) (s : State) : Out :=
  done (if s.powered && s.pwr.state != 3 && !s.flag F.SPN_STATUS_XT_STOPPED then
    let s1 := s.alarm 3
    if stopped && s1.span.running then
      { s1.stopRoot with span := { s1.stopRoot.span with rootOn := true } }.set F.SPN_STATUS_ALIGNING 1
    else s1
  else s)

/-- A sample outside −45 °C to 125 °C (source 4). -/
def tempOut (t : Byte) : Bool := t.toInt < -45 || 125 < t.toInt

/-- TEMP_SAMPLE: SEC_TEMP; source 4 on the second sample in a row outside the range. -/
def execTempSample (t : Byte) (s : State) : Out :=
  done (if s.powered then
    let s1 := { s with keys := { s.keys with hot := tempOut t } }.set F.SEC_TEMP_TJ t.toNat
    s1.when (s.keys.hot && tempOut t) fun s => s.alarm 4
  else s)

/-! The zeroise (R460, R469) -/

/-- The identity key, or the group key, is gone. -/
def State.dropIdentity (s : State) : State :=
  ({ s with keys := { s.keys with identity := [] } }.set F.SEC_KEYS_IDENTITY 0).each (List.range 16)
    fun s k => s.setAt F.SEC_ID_PUBk_DATA k 0
def State.dropGroup (s : State) : State :=
  ({ s with keys := { s.keys with group := [] } }.set F.SEC_KEYS_GROUP 0).set F.SEC_KEYS_GROUP_TG 0

/-- A slot fails erase three times: its kill fuse is blown (R469); event 0x0E06 names the key. -/
def State.killSlot (s : State) (k : Nat) : State :=
  if s.keys.killed.contains k then s
  else { s with keys := { s.keys with killed := withIdx s.keys.killed k } }.ev 0x0E06 (k / 2)

/-- A key's live slot: its lower slot unless that is killed, then the spare, then none (R454, R469). -/
def State.liveSlot (s : State) (base : Nat) : Option Nat :=
  if !s.keys.killed.contains base then some base
  else if !s.keys.killed.contains (base + 1) then some (base + 1)
  else none

/-- Every nonvolatile slot is erased or killed: ZEROISE_PENDING clears (R460). -/
def State.eraseKeys (s : State) (killed : List (Fin 4)) : State :=
  (((s.dropIdentity).dropGroup).each killed fun s k => s.killSlot k).set F.SEC_KEYS_ZEROISE_PENDING 0

/-- Actions 4 and 6 have ended: event 0x0E03 and every switched domain opens (R460 action 7). -/
def State.zeroiseOpen (s : State) : State :=
  s.when (s.keys.erased && s.keys.filled) fun s => (s.openDomains).ev 0x0E03 0

/-- ZEROISE_ERASE_DONE. -/
def execZeroiseEraseDone (killed : List (Fin 4)) (s : State) : Out :=
  done (if s.boot.phase = .zeroise ∧ ¬ s.keys.erased then
    let s1 := s.eraseKeys killed
    { s1 with keys := { s1.keys with erased := true } }.zeroiseOpen
  else s)

/-- L3_FILL_DONE: behind the Pen wipe, every LOFT and ROW at on and the Yard SRAM but the log plot are zero (action 6). -/
def execL3FillDone (s : State) : Out :=
  done (if s.boot.phase = .zeroise ∧ ¬ s.keys.filled ∧ ¬ s.flag F.PEN_STATUS_WIPING then
    let s1 := (s.each ((List.range 16).filter fun d => s.level d == 2) fun s d => s.zeroDomain d).zeroYard
    { s1 with keys := { s1.keys with filled := true } }.zeroiseOpen
  else s)

/-- ZEROISE_HOLD_END: the cold start of cause ALARM_L3 is due (action 8). An L3 raised in BOOT_HOLD, which ends at RESET_N or power-on
only (03 R120), leads back into it, with CORE_MGMT and HOST on again (log 211). -/
def execZeroiseHoldEnd (s : State) : Out :=
  done (if s.boot.phase = .zeroise ∧ s.keys.erased ∧ s.keys.filled then
    if s.flag F.IMG_BOOT_HOLD then { s with boot := { s.boot with phase := .hold } }.recompute
    else { s with boot := { s.boot with phase := .due, cause := 3 } }
  else s)

end Sys2Proof.Machine
end

