-- ==== Sys2Proof/Machine/Gate.lean ====
section
/-! DEFINITION. The Egress Gate and the record outbox (02 R66 to R79; 15 R423). -/

namespace Sys2Proof.Machine

/-! The outbox (15 R423, R424, R430) -/

/-- W, and the index of output `o`: 0 PCIe, 1 SPI target, 2 I²C target, 3 UART. -/
def State.outW (s : State) : Nat := s.get F.PCI_REC_W
def State.outIdx (s : State) (o : Nat) : Nat := s.getAt F.PCI_RECo_INDEX_INDEX o

/-- Output `o` is attached. -/
def State.attached (s : State) (o : Nat) : Bool := bitOf (s.get F.PCI_REC_ATTACHED) o

/-- (a − b) mod 256. -/
def outDiff (a b : Nat) : Nat := (a + 256 - b) % 256

/-- Entries waiting for output `o`. -/
def State.waitingFor (s : State) (o : Nat) : Nat := outDiff s.outW (s.outIdx o)

/-- An outbox entry is free. -/
def State.outboxFree (s : State) : Bool := outDiff s.outW s.host.freed < 64

/-- Entries that every attached output has passed are freed and counted; with none attached, none is. -/
def State.freeOutbox (s : State) : State :=
  let os := (List.range 4).filter s.attached
  if os = [] then s
  else
    let n := os.foldl (fun m o => min m (outDiff (s.outIdx o) s.host.freed)) 255
    { s with host := { s.host with freed := (s.host.freed + n) % 256 } }.addAt F.PCI_COUNTS_DELIVERED 0 n

/-- An entry waits for the attached PCIe output: vector 0, once until the next REC_ACK. -/
def State.tellPcie (s : State) : State :=
  if s.attached 0 && 0 < s.waitingFor 0 && !s.host.vec0 then
    { s with host := { s.host with vec0 := true } }.msix 0
  else s

/-- Output `o` attaches at the oldest entry not yet freed (R424), where the policy's OUTPUTS enables it. -/
def State.attach (s : State) (o : Nat) : State :=
  if s.attached o || !bitOf (s.get F.GATE_CFG_OUTPUTS) o then s
  else
    ((s.setAt F.PCI_RECo_INDEX_INDEX o s.host.freed).set F.PCI_REC_ATTACHED
      (setBitOf (s.get F.PCI_REC_ATTACHED) o true)).when (o == 0) fun s => s.tellPcie

/-- Output `o` detaches. -/
def State.detach (s : State) (o : Nat) : State :=
  (s.set F.PCI_REC_ATTACHED (setBitOf (s.get F.PCI_REC_ATTACHED) o false)).freeOutbox

/-- The PCIe link goes down (15 R447): PCIe detaches and the notify queue's pending vector is discarded. -/
def State.pcieFalls (s : State) : State :=
  if s.flag F.PCI_STATUS_UP then
    let s1 := { s with host := { s.host with pba := setBitOf s.host.pba 2 false } }
    (((((s1.set F.PCI_STATUS_UP 0).set F.PCI_STATUS_GEN 0).set F.PCI_STATUS_WIDTH 0).detach 0).ev 0x0D01 0)
  else s

/-- HOST leaves on (15 R424): the PCIe link goes down, PCIe and the UART detach, a record on the UART is cut short. -/
def State.hostDrop (s : State) : State :=
  let s1 := (s.pcieFalls.detach 0).detach 3
  { s1 with host := { s1.host with uart := [] } }

/-- Output `o` has consumed an entry. -/
def State.consume (s : State) (o : Nat) : State :=
  (s.setAt F.PCI_RECo_INDEX_INDEX o ((s.outIdx o + 1) % 256)).freeOutbox

/-- The 64 bytes of outbox entry `e` (R425). -/
def State.outEntry (s : State) (e : Nat) : List Byte := s.yardRead (0x5000 + 64 * (e % 64)) 64

/-! Records (02 R71 to R73) -/

/-- Bytes of a record of a type. -/
def recLen (type : Nat) : Nat := if bitOf type 7 then 64 else 32

/-- The row of a type in TYPES (Table 02.8). -/
def typeRow (type : Nat) : Option Nat :=
  if 1 ≤ type ∧ type ≤ 6 then some (type - 1) else if 0x83 ≤ type ∧ type ≤ 0x85 then some (type - 0x83 + 6) else none

/-- A zone byte. -/
def zoneOk (z : Nat) : Bool := z ≤ 63 || z == 0xFF

/-- Every field lies within its range in Table 02.6; `mc` and `mk` are MAX_COUNT and MAX_CLASS (step 4). -/
def fieldsOk (r : List Byte) (mc mk : Nat) : Bool :=
  let b := byteAt r
  let lim := min 200 mc
  match b 0 with
  | 0x01 => b 12 ≤ 2 && zoneOk (b 13) && b 15 ≤ 7 && zeroAt r 18 14
  | 0x02 => zoneOk (b 12) && b 13 ≤ lim && b 14 ≤ lim && b 14 ≤ b 13 && b 15 ≤ lim && b 13 ≤ b 15 && b 16 ≤ lim
      && b 17 ≤ lim && zeroAt r 19 13
  | 0x03 => b 28 ≤ 15 && zeroAt r 29 3
  | 0x04 => zoneOk (b 12) && 1 ≤ b 13 && b 13 ≤ 4 && zeroAt r 23 9
      && (List.range 4).all fun j => if j < b 13 then b (14 + 2 * j) ≤ mk else zeroAt r (14 + 2 * j) 2
  | 0x05 => b 12 ≤ mk && fieldAt r 14 2 ≤ 10000 && (b 16 ≤ 35 || b 16 == 0xFF) && (b 17 ≤ 140 || b 17 == 0xFF)
      && zeroAt r 18 14
  | 0x06 => b 12 ≤ 3 && b 13 ≤ 15 && 1 ≤ b 15 && b 15 ≤ 3 && zeroAt r 16 16
  | 0x83 => b 60 ≤ 15 && zeroAt r 61 3
  | 0x84 => 1 ≤ b 12 && b 12 ≤ 16 && zeroAt r 62 2
      && (List.range 16).all fun j =>
        if j < b 12 then b (13 + 3 * j) ≤ 63 && b (14 + 3 * j) ≤ mk && b (15 + 3 * j) ≤ lim else zeroAt r (13 + 3 * j) 3
  | 0x85 => b 12 ≤ 15 && b 13 ≤ 1
  | _ => false

/-! The checks (Table 02.3) -/

/-- A record as it is presented: its bytes, input taint, whether ADAPTED weights were used, its source (head-store slot, or
program slot for a Yard head), and whether its job runs under a fallback entry. -/
structure Presented where
  bytes : List Byte
  taint : Nat
  adapted : Bool
  yard : Bool
  slot : Nat
  remapped : Bool
deriving DecidableEq, Repr

/-- The index of the armed head that a source belongs to (step 1). -/
def State.headOf (s : State) (p : Presented) : Option Nat :=
  (List.range (if p.yard then 16 else 32)).map (· + if p.yard then 32 else 0) |>.find? fun i =>
    s.getAt F.GATE_HEADi_CFG_ARMED i == 1 && elGet 0 s.gate.source i == p.slot

/-- HEAD_ID of a head index (Table 02.4). -/
def headId (i : Nat) : Nat := if i < 32 then i else 0x80 + (i - 32)

/-- The step at which a record of armed head `i` fails, 7 where it passes (Table 02.3). -/
def State.gateStep (s : State) (p : Presented) (i : Nat) : Nat :=
  let fl := s.getAt F.GATE_HEADi_CFG_FLAGS i
  let type := byteAt p.bytes 0
  let typed := match typeRow type with
    | some r => bitOf (s.getAt F.GATE_HEADi_CFG_TYPES i) r && (type != 0x85 || s.flag F.GATE_CFG_SOUND_EXPORT)
    | none => false
  if (bitOf p.taint 0 && !bitOf fl 1) || (bitOf p.taint 1 && !bitOf fl 2) || (p.adapted && !bitOf fl 0) then 2
  else if !typed then 3
  else if !fieldsOk p.bytes (s.getAt F.GATE_HEADi_LIMITS_MAX_COUNT i) (s.getAt F.GATE_HEADi_LIMITS_MAX_CLASS i) then 4
  else if s.getAt F.GATE_HEADi_LIMITS_TOKENS i = 0 then 5
  else if s.get F.GATE_CEIL_REC_TOKENS = 0 ∨ s.get F.GATE_CEIL_BYTE_TOKENS < recLen type then 6
  else 7

/-- The drop counter of a step. -/
def dropFld (step : Nat) : Fld :=
  match step with
  | 1 => F.GATE_DROPS0_PROV
  | 2 => F.GATE_DROPS0_TAINT
  | 3 => F.GATE_DROPS0_TYPE
  | 4 => F.GATE_DROPS0_FIELD
  | 5 => F.GATE_DROPS1_HEAD_RATE
  | _ => F.GATE_DROPS1_CEILING

/-- GATE_FIRST_FAIL holds the first failure since VALID was cleared. -/
def State.firstFail (s : State) (type step id : Nat) : State :=
  if s.flag F.GATE_FIRST_FAIL_VALID then s
  else (((s.set F.GATE_FIRST_FAIL_TYPE type).set F.GATE_FIRST_FAIL_EVENT (step + 1)).set F.GATE_FIRST_FAIL_HEAD_ID id).set
    F.GATE_FIRST_FAIL_VALID 1

/-- A failed check (R67): the record is dropped, counted and logged, and Egress violation is raised. -/
def State.gateFail (s : State) (p : Presented) (step id param : Nat) : State :=
  (((s.firstFail (byteAt p.bytes 0) step id).inc (dropFld step)).ev (0x0701 + step) param).alarm 5

/-- FLAGS of a passing record (Table 02.5). -/
def State.recFlags (s : State) (p : Presented) : Nat :=
  b2n (recLen (byteAt p.bytes 0) == 64) + 2 * b2n p.remapped + 4 * b2n p.yard + 8 * b2n s.gate.lost
    + 16 * b2n (s.flag F.EAR_STATUS_MUTED) + 32 * b2n s.camHeld

/-- The record as stamped (R70, Table 02.4), in 64 bytes. -/
def State.stamp (s : State) (p : Presented) (i seq : Nat) : List Byte :=
  let n := recLen (byteAt p.bytes 0)
  let r := [BitVec.ofNat 8 (byteAt p.bytes 0), BitVec.ofNat 8 (headId i)] ++ leBytes 2 (s.recFlags p)
    ++ leBytes 6 (s.span.count.toNat % 2 ^ 48) ++ leBytes 2 seq ++ slice p.bytes 12 (n - 12)
  r ++ List.replicate (64 - r.length) 0

/-- A passing record takes its tokens and enters the outbox (R69, R70). -/
def State.gatePass (s : State) (p : Presented) (i seq : Nat) : State :=
  let n := recLen (byteAt p.bytes 0)
  let s1 := ((s.set F.GATE_CEIL_REC_TOKENS (s.get F.GATE_CEIL_REC_TOKENS - 1)).set F.GATE_CEIL_BYTE_TOKENS
    (s.get F.GATE_CEIL_BYTE_TOKENS - n)).setAt F.GATE_HEADi_LIMITS_TOKENS i (s.getAt F.GATE_HEADi_LIMITS_TOKENS i - 1)
  let s2 := s1.yardWrite (0x5000 + 64 * (s.outW % 64)) (s.stamp p i seq) 0
  ((s2.set F.GATE_PASSED_COUNT ((s.get F.GATE_PASSED_COUNT + 1) % 2 ^ 32)).set F.PCI_REC_W ((s.outW + 1) % 256)).tellPcie

/-- The Gate checks a record (R67, R68): behind step 1 it takes its head's sequence, whatever follows. -/
def State.gateCheck (s : State) (p : Presented) : State :=
  match s.headOf p with
  | none => s.gateFail p 1 0xFF p.slot
  | some i =>
    let seq := s.getAt F.GATE_HEADi_SEQ_NEXT_SEQ i
    let s1 := s.setAt F.GATE_HEADi_SEQ_NEXT_SEQ i ((seq + 1) % 65536)
    let step := s.gateStep p i
    if step = 7 then s1.gatePass p i seq
    else (s1.incAt F.GATE_HEADi_SEQ_DROPS i).gateFail p step (headId i) (headId i)

/-- The Gate takes records: CORE_MGMT is on or the Yard's path serves (R88), no L2 or L3 stands (16 R459), and an entry is
free. -/
def State.gateOpen (s : State) : Bool := !s.alarmHold && s.outboxFree

/-! The link rule and other egress violations -/

/-- A tainted transfer that breaks the link rule is refused (R63). -/
def State.linkRefused (s : State) (chip : Nat) : State := ((s.ev 0x0708 chip).inc F.GATE_DROPS1_LINK).alarm 5

/-- A Pen access by a non-stall master (R82): event 0x0715 and alarm source 6. -/
def State.penAccess (s : State) (who : Nat) : State := (s.ev 0x0715 who).alarm 6

/-- TOKEN_REFILL (R69): one token for the record bucket or a head, 16 for the byte bucket, never past the depth. -/
def execTokenRefill (b : Bucket) (s : State) : Out :=
  done (match b with
    | .records => s.set F.GATE_CEIL_REC_TOKENS (min 256 (s.get F.GATE_CEIL_REC_TOKENS + 1))
    | .bytes => s.set F.GATE_CEIL_BYTE_TOKENS (min 16384 (s.get F.GATE_CEIL_BYTE_TOKENS + 16))
    | .head i =>
      if s.getAt F.GATE_HEADi_CFG_ARMED i = 1 then
        s.setAt F.GATE_HEADi_LIMITS_TOKENS i (min (s.getAt F.GATE_HEADi_CFG_BURST i)
          (s.getAt F.GATE_HEADi_LIMITS_TOKENS i + 1))
      else s)

end Sys2Proof.Machine
end

