-- ==== Sys2Proof/Machine/Rows.lean ====
section
/-! DEFINITION. The rows of the CIM macros: set records, levels, and how far an interrupted programming has come (12 R347 to R353). -/

namespace Sys2Proof.Machine

/-! Set records (R350, Table 12.2) -/

/-- The 32 bytes of a record: ORIGIN, WSET, FORMAT, FLAGS (VALID, ADAPTED, P, S), COMMITS and the CRC over bytes 0 to 15. -/
def recordBytes (origin wset format flags commits : Nat) : List Byte :=
  let b := leBytes 8 origin ++ leBytes 2 wset ++ leBytes 1 format ++ leBytes 1 flags ++ leBytes 2 commits ++ leBytes 2 0
  b ++ leBytes 4 (crc32 b).toNat ++ leBytes 12 0

/-- The record row of stall `st`; one never written holds level 0. -/
def State.record (s : State) (st : Nat) : List Byte := elGet (leBytes 32 0) s.cim.records st

/-- Its CRC holds. -/
def State.recOk (s : State) (st : Nat) : Bool := fieldAt (s.record st) 16 4 == crc32 ((s.record st).take 16)

/-- A flag of it; a record whose CRC fails reads as not VALID. -/
def State.recFlag (s : State) (st i : Nat) : Bool := s.recOk st && bitOf (byteAt (s.record st) 11) i

/-- Its other fields; WSET reads 0xFFFF where there is no record. -/
def State.recOrigin (s : State) (st : Nat) : Nat := if s.recOk st then fieldAt (s.record st) 0 8 else 0
def State.recWset (s : State) (st : Nat) : Nat := if s.recOk st then fieldAt (s.record st) 8 2 else 0xFFFF
def State.recFormat (s : State) (st : Nat) : Nat := if s.recOk st then byteAt (s.record st) 10 else 0
def State.recCommits (s : State) (st : Nat) : Nat := if s.recOk st then fieldAt (s.record st) 12 2 else 0

/-- The record row is written, and CIM_STALLs_STATE and CIM_STALLs_COMMIT show it. -/
def State.putRecord (s : State) (st : Nat) (b : List Byte) : State :=
  let s1 := { s with cim := { s.cim with records := elPut (leBytes 32 0) s.cim.records st b } }
  (((((s1.setAt F.CIM_STALLs_STATE_WSET st (s1.recWset st)).setAt F.CIM_STALLs_STATE_VALID st (b2n (s1.recFlag st 0))).setAt
    F.CIM_STALLs_STATE_ADAPTED st (b2n (s1.recFlag st 1))).setAt F.CIM_STALLs_STATE_TAINT_P st (b2n (s1.recFlag st 2))).setAt
    F.CIM_STALLs_STATE_TAINT_S st (b2n (s1.recFlag st 3))).setAt F.CIM_STALLs_COMMIT_COMMITS st (s1.recCommits st)

/-- The record is written with VALID 0; what else it holds stays (R351). -/
def State.unvalidate (s : State) (st : Nat) : State :=
  let flags := if s.recOk st then byteAt (s.record st) 11 / 2 * 2 else 0
  s.putRecord st (recordBytes (s.recOrigin st) (s.recWset st) (s.recFormat st) flags (s.recCommits st))

/-! Levels (R349) -/

/-- The levels of row `r` of stall `st`. -/
def State.cimRow (s : State) (st r : Nat) : List Byte := tblGetRange (fun _ => (0 : Byte)) s.cim.cells (64 * (256 * st + r)) 64

/-- The levels a programming is to give it. -/
def State.targetRow (s : State) (st r : Nat) : List Byte := tblGetRange (fun _ => (0 : Byte)) s.cim.targets (64 * (256 * st + r)) 64

/-- Rows of a stall take levels. -/
def State.putRows (s : State) (st : Nat) (rows : List Nat) (new : Nat → List Byte) : State :=
  { s with cim := { s.cim with cells := rows.foldl (fun c r =>
      tblPutRange (fun _ => (0 : Byte)) c (64 * (256 * st + r)) (new r)) s.cim.cells } }

/-- They take their target levels. -/
def State.writeRows (s : State) (st : Nat) (rows : List Nat) : State := s.putRows st rows (s.targetRow st)

/-- Rows whose programming has begun and has not passed verify hold levels that the spec does not give: free ones. -/
def State.spoilRows (s : State) (st : Nat) (rows : List Nat) : State :=
  s.draw.putRows st rows fun r => (List.range 64).map (Config.cellByte s.free r)

/-! Programmings (R351 to R353, R363) -/

/-- The job of a stall. -/
def State.job (s : State) (st : Nat) : Option ProgJob := (s.cim.jobs.find? fun p => p.1 == st).map (·.2)

/-- Set it. -/
def State.setJob (s : State) (st : Nat) (j : ProgJob) : State :=
  { s with cim := { s.cim with jobs := (s.cim.jobs.filter fun p => p.1 != st) ++ [(st, j)] } }

/-- The stalls programming now. -/
def State.programming (s : State) : List Nat :=
  (s.cim.jobs.filter fun p => !p.2.stopped && !s.cim.queue.contains p.1).map (·.1)

/-- CIM_STATUS follows the queue, the programmings and the commits. -/
def State.showCim (s : State) : State :=
  (((s.set F.CIM_STATUS_QUEUED s.cim.queue.length).set F.CIM_STATUS_ACTIVE s.programming.length).set F.CIM_STATUS_COMMIT_WAIT
    (b2n (!s.cim.waiting.isEmpty))).set F.CIM_STATUS_COMMIT (b2n s.cim.commit.isSome)

/-- The rows that a programming has not yet passed, and whether the first of them is in hand: how far it has come is free, as the spec
gives its times as typical and largest ones only (log 57). Where it has stood since Brace began, it has come no further. -/
def State.rowsLeft (s : State) (j : ProgJob) (stood : Bool) : List Nat × Bool :=
  if stood then (j.rows, false)
  else
    let w := Config.freeWord s.free
    let left := j.rows.drop (w.toNat % (j.rows.length + 1))
    (left, w.getLsbD 31 && !left.isEmpty)

/-- The programming of a stall stands where it has come to: the rows it has passed hold their targets, and one in hand free levels. -/
def State.haltRows (s : State) (st : Nat) (stood : Bool) : State :=
  match s.job st with
  | some j =>
    if s.programming.contains st then
      let p := s.rowsLeft j stood
      let s1 := (s.draw.writeRows st (j.rows.take (j.rows.length - p.1.length))).setJob st { j with rows := p.1 }
      if p.2 then s1.spoilRows st (p.1.take 1) else s1
    else s
  | none => s

/-- The job of a stall is given up: its record stays not VALID (R364). -/
def State.dropJob (s : State) (st : Nat) : State :=
  (({ s with cim := { s.cim with jobs := s.cim.jobs.filter (fun p => p.1 != st), queue := without s.cim.queue st } }.setAt
    F.CIM_STALLs_STATE_PROGRAMMING st 0).showCim).endAccess (.prog st)

/-- The same for one that may be programming: its rows stay as they are by then. -/
def State.stopProgram (s : State) (st : Nat) : State := (s.haltRows st (s.flag F.SUP_STATUS_BRACE)).dropJob st

end Sys2Proof.Machine
end

