-- ==== Sys2Proof/Machine/Tiles.lean ====
section
/-! DEFINITION. Tiles as shared operations: descriptors, activation-scale slots, the end of a tile, placement, fencing and
re-issue (10 R294 to R299, R305, R306, R313 to R316; 11 R332 to R336; 14 R406, R407). -/

namespace Sys2Proof.Machine

/-! Stalls -/

/-- Stall `st`. -/
def State.stall (s : State) (st : Nat) : StallSt := elGet {} s.fab.stalls st

/-- Set it. -/
def State.setStall (s : State) (st : Nat) (x : StallSt) : State :=
  { s with fab := { s.fab with stalls := elPut {} s.fab.stalls st x } }

/-- The stall is fenced. -/
def State.fenced (s : State) (st : Nat) : Bool := s.maskBit R.STL_FENCEDk st

/-- The stall runs no tile: fenced, or in a failed ROW (05 R172). -/
def State.barred (s : State) (st : Nat) : Bool := s.fenced st || s.failed (st / 8)

/-- The stall is reserved for class 0 (R305). -/
def State.reserved (s : State) (st : Nat) : Bool := s.get F.STL_RESERVED_RES0 == st || s.get F.STL_RESERVED_RES1 == st

/-! Descriptors (R294, Table 10.2) -/

/-- A layer descriptor. -/
structure Desc where
  op : Nat
  flags : Nat
  wfmt : Nat
  mode : Nat
  zpIn : Nat
  zpOut : Nat
  outliers : Nat
  func : Nat
  src : Nat
  wgt : Nat
  dst : Nat
  scales : Nat
  m : Nat
  k : Nat
  n : Nat
  srcStride : Nat
  dstStride : Nat
  wset : Nat
  emul : Nat
  outScale : Nat
  slot : Nat
  env : Nat
  tally : Nat
  tallyAdd : Nat
  wdog : Nat
  tileId : Nat
  rest : Nat
deriving DecidableEq, Repr

/-- The descriptor that 64 bytes hold. -/
def readDesc (b : List Byte) : Desc :=
  { op := byteAt b 0, flags := byteAt b 1, wfmt := byteAt b 2, mode := byteAt b 3, zpIn := byteAt b 4, zpOut := byteAt b 5,
    outliers := byteAt b 6, func := byteAt b 7, src := fieldAt b 8 4, wgt := fieldAt b 12 4, dst := fieldAt b 16 4,
    scales := fieldAt b 20 4, m := fieldAt b 24 2, k := fieldAt b 26 2, n := fieldAt b 28 2, srcStride := fieldAt b 30 2,
    dstStride := fieldAt b 32 2, wset := fieldAt b 34 2, emul := fieldAt b 36 4, outScale := fieldAt b 40 2,
    slot := byteAt b 42, env := byteAt b 43, tally := fieldAt b 44 2, tallyAdd := fieldAt b 46 2, wdog := fieldAt b 48 2,
    tileId := fieldAt b 50 2, rest := fieldAt b 52 8 }

/-- FLAGS. -/
def Desc.penRead (d : Desc) : Bool := bitOf d.flags 0
def Desc.penRelease (d : Desc) : Bool := bitOf d.flags 1
def Desc.last (d : Desc) : Bool := bitOf d.flags 2
def Desc.sticky (d : Desc) : Bool := bitOf d.flags 3
def Desc.trunc (d : Desc) : Bool := bitOf d.flags 4
def Desc.relu (d : Desc) : Bool := bitOf d.flags 5

/-- MODE: unsigned activations, multi-level input. -/
def Desc.uint (d : Desc) : Bool := bitOf d.mode 2
def Desc.multi (d : Desc) : Bool := bitOf d.mode 3

/-- Descriptor `k` of a tile: of its head-store slot, or of its chain in the Loft. -/
def State.descBytes (s : State) (t : TileJob) (k : Nat) : List Byte :=
  match t.slot with
  | some h => slice (elGet [] s.disp.heads h) (64 * k) 64
  | none => s.mem.read .loft (t.first + 64 * k) 64

/-- Descriptors of a head-store slot. -/
def State.headLen (s : State) (h : Nat) : Nat := (elGet [] s.disp.heads h).length / 64

/-- The tile's descriptor at `k` ends it. -/
def State.endsTile (s : State) (t : TileJob) (k : Nat) : Bool :=
  match t.slot with
  | some h => s.headLen h ≤ k + 1
  | none => (readDesc (s.descBytes t k)).last

/-- The descriptors of a tile from `k` on; the fuel bounds their number. -/
def State.tileDescs (s : State) (t : TileJob) : Nat → Nat → List Desc
  | 0, _ => []
  | n + 1, k => readDesc (s.descBytes t k) :: (if s.endsTile t k then [] else s.tileDescs t n (k + 1))

/-- Its CIM_MATMUL descriptors. -/
def State.cimDescs (s : State) (t : TileJob) : List Desc := (s.tileDescs t 256 0).filter fun d => d.op == 2

/-- Some descriptor of it is STICKY (R298). -/
def State.stickyTile (s : State) (t : TileJob) : Bool := (s.tileDescs t 256 0).any Desc.sticky

/-- Its CIM_MATMUL descriptors all have a digital image (R315). -/
def State.emulTile (s : State) (t : TileJob) : Bool :=
  let ds := s.cimDescs t
  !ds.isEmpty && ds.all fun d => d.emul != 0

/-! Activation-scale slots (11 R332 to R336) -/

/-- Slot `i`. -/
def State.num (s : State) (i : Nat) : NumSlot := elGet {} s.fab.num i

/-- Set it. -/
def State.setNum (s : State) (i : Nat) (x : NumSlot) : State := { s with fab := { s.fab with num := elPut {} s.fab.num i x } }

/-- The slot is valid (R344). -/
def State.numOk (s : State) (i : Nat) : Bool := i < 64 && s.maskBit R.NUM_SLOT_OKk i

/-- S_base: the latest close's, else SCALE (R333, R334). -/
def State.numBase (s : State) (i : Nat) : Nat := (s.num i).base.getD (f16 (s.getAt F.NUM_SLOTi_BASE_SCALE i)).toNat

/-- The adaptation exponent. -/
def State.numExp (s : State) (i : Nat) : Int := signed 5 (s.getAt F.NUM_SLOTi_STAT_E i)

/-- The scale in force, in units of 2^-149 (R335). -/
def State.numScale (s : State) (i : Nat) : Nat := forceScale (s.numBase i) (s.numExp i)

/-- NUM_SLOTi_SCALE and NUM_SLOTi_STEPS follow the slot. -/
def State.showNum (s : State) (i : Nat) : State :=
  (s.setAt F.NUM_SLOTi_SCALE_S i (if s.numOk i then bits32 (s.numScale i) else 0)).setAt F.NUM_SLOTi_STEPS_STEPS i
    ((s.num i).closed % 2 ^ 32)

/-- TILES_PER_STEP; 0 is 1. -/
def State.perStep (s : State) (i : Nat) : Nat := orOne (s.getAt F.NUM_SLOTi_CFG_TILES_PER_STEP i)

/-- A tile joins the open step of slot `i` and latches the scale in force. -/
def State.joinNum (s : State) (i : Nat) : State × TileNum :=
  let x := s.num i
  (s.setNum i { x with joined := x.joined + 1 }, { slot := i, step := x.joined / s.perStep i, scale := s.numScale i })

/-- A limit of the adaptation exponent: event 0x0902. -/
def State.numLimit (s : State) (i dir : Nat) : State := (s.ev2 0x0902 i dir).inc F.NUM_COUNTS_LIMITS

/-- e moves by `by_`, with its event where LOG is set. -/
def State.moveExp (s : State) (i : Nat) (by_ : Int) (code : Nat) : State :=
  (s.setAt F.NUM_SLOTi_STAT_E i (BitVec.ofInt 5 (s.numExp i + by_)).toNat).when (s.getAt F.NUM_SLOTi_CFG_LOG i == 1)
    fun s => s.ev code i

/-- Clip adaptation at a close (R336). At E_MIN the low count stays at or above N_LOW, so that each further close below CLIP_LO logs the
limit again (log 219). -/
def State.adapt (s : State) (i share : Nat) : State :=
  if s.getAt F.NUM_SLOTi_CFG_ADAPT_EN i ≠ 1 then s
  else if s.getAt F.NUM_SLOTi_CLIP_CLIP_HI i < share then
    (if s.numExp i = signed 5 (s.getAt F.NUM_SLOTi_EXP_E_MAX i) then s.numLimit i 1 else s.moveExp i 1 0x0900).setAt
      F.NUM_SLOTi_STAT_LOW_COUNT i 0
  else if share < s.getAt F.NUM_SLOTi_CLIP_CLIP_LO i then
    let s1 := s.incAt F.NUM_SLOTi_STAT_LOW_COUNT i
    if s1.getAt F.NUM_SLOTi_STAT_LOW_COUNT i < orOne (s.getAt F.NUM_SLOTi_CFG_N_LOW i) then s1
    else if s.numExp i = signed 5 (s.getAt F.NUM_SLOTi_EXP_E_MIN i) then s1.numLimit i 0
    else (s1.moveExp i (-1) 0x0901).setAt F.NUM_SLOTi_STAT_LOW_COUNT i 0
  else s.setAt F.NUM_SLOTi_STAT_LOW_COUNT i 0

/-- The oldest open step of slot `i` closes (R332, R333, R336). -/
def State.closeStep (s : State) (i : Nat) (st : NumStep) : State :=
  let x := s.num i
  let hist := (st.peak :: x.hist).take (s.getAt F.NUM_SLOTi_CFG_K_M1 i + 1)
  let base := if s.getAt F.NUM_SLOTi_CFG_RUNMAX i = 1 then
      (match runMaxBase (s.getAt F.NUM_SLOTi_BASE_HEADROOM i) hist (orOne (s.getAt F.NUM_SLOTi_CFG_QSPAN i)) with
        | some b => some b
        | none => x.base)
    else none
  let share := clipShare st.clipped st.outs
  ((s.setNum i { x with closed := x.closed + 1, hist := hist, base := base, tainted := st.taint != 0
                        steps := x.steps.filter fun p => p.1 != x.closed }).setAt F.NUM_SLOTi_STAT_CLIP_SHARE i share).adapt i share

/-- Steps close in order as long as the oldest has all its tiles completed; the fuel is their number. -/
def closeSteps : Nat → Nat → State → State
  | 0, _, s => s
  | n + 1, i, s =>
    let st := elGet {} (s.num i).steps (s.num i).closed
    if s.perStep i ≤ st.done then closeSteps n i (s.closeStep i st) else s

/-- A tile that joined a step has completed; with status OK its statistics fold into the step. -/
def State.foldNum (s : State) (ok : Bool) (t : TileNum) : State :=
  let x := s.num t.slot
  let st := elGet {} x.steps t.step
  let st1 : NumStep := if ok then { done := st.done + 1, outs := st.outs + t.outs, clipped := st.clipped + t.clipped,
                                    peak := max st.peak t.peak, taint := st.taint ||| t.taint }
    else { st with done := st.done + 1 }
  let s1 := s.setNum t.slot { x with steps := elPut {} x.steps t.step st1 }
  (closeSteps (x.steps.length + 1) t.slot s1).showNum t.slot

/-- Every slot is reset (R346). -/
def State.resetNums (s : State) : State :=
  { s with fab := { s.fab with num := [] } }.each (List.range 64) fun s i =>
    (s.setReg R.NUM_SLOTi_STAT i 0).showNum i

/-! Waits and row votes -/

/-- The EARLY waiter of a stall is given up. -/
def State.dropEarly (s : State) (st : Nat) : State :=
  { s with disp := { s.disp with waiters := s.disp.waiters.filter fun w => w.what != WaitFor.early st } }.showWaiters

/-- Some stall of row `r` holds a tile. -/
def State.rowBusy (s : State) (r : Nat) : Bool :=
  (List.range 8).any fun p => (s.stall (8 * r + p)).tile.isSome || (s.stall (8 * r + p)).cut.isSome

/-- The LOFT domain, or PEN, that an address of a descriptor names. -/
def wordDomain (w : Nat) : Option Nat :=
  if bitsOf w 29 3 = 2 then some (12 + bitsOf w 22 2) else if bitsOf w 29 3 = 3 then some 18 else none

/-- The LOFT domains and PEN that a tile is work for: its chain lies there, or its current descriptor names them. -/
def State.tileDomains (s : State) (t : TileJob) : List Nat :=
  let d := readDesc (s.descBytes t t.pos)
  let named := [d.src, d.wgt, d.dst, d.scales, d.emul].filterMap wordDomain
  match t.slot with
  | some _ => named
  | none => let k := 12 + t.first / 0x400000; k :: if s.steadyAt k 2 then named else []

/-- Vote slot 3 of domain `d`. -/
def State.workVote (s : State) (d : Nat) (on : Bool) : State :=
  let v := if on then 2 else 0
  if s.voteSlot d 3 = v then s else s.setVote d 3 v

/-- The tiles in flight on stalls and those that wait for re-issue. -/
def State.tilesNow (s : State) : List TileJob :=
  (s.fab.stalls.map fun p => p.2.tile.toList ++ p.2.cut.toList).flatten ++ s.fab.reissues

/-- Vote slot 3 of every ROW, LOFT and PEN follows the tiles in flight (05 Table 05.4a). -/
def State.rowVotes (s : State) : State :=
  let s1 := s.each (List.range 12) fun s r => s.workVote r (s.rowBusy r)
  let ds := (s1.tilesNow.map s1.tileDomains).flatten
  s1.each [12, 13, 14, 15, 18] fun s d => s.workVote d (ds.contains d)

/-! The end of a tile (R299) -/

/-- A memory with writes that are not visible yet. -/
def MemState.overlay (m : MemState) (ws : List TileWrite) : MemState :=
  ws.foldl (fun m w => m.write w.mem w.off w.bytes w.taint) m

/-- A tile has completed: its writes and releases, its TALLY_ADD and its scale statistics take effect (R299; 11 R332). -/
def State.publish (s : State) (t : TileJob) : State :=
  let s1 := { s with mem := s.mem.overlay t.writes }.each t.releases fun s x => s.releasePen (x / 4) (x % 4)
  (s1.when (t.tallyAdd != 0) fun s => s.raiseTally ⟨.add, t.tally, t.tallyAdd⟩).each t.nums fun s n => s.foldNum true n

/-- The end of a tile with a status: OK, it has completed, and its effects are visible; with another, none of them is, and its statistics
fold nothing (R299; 11 R332). Its ring entry completes. -/
def State.finishTile (s : State) (t : TileJob) (status : Nat) : State :=
  let s1 := if status = 0 then s.publish t else s.each t.nums fun s n => s.foldNum false n
  if t.data then
    ((s1.setRing t.ring { s1.ring t.ring with tileOut := false }).passEntry t.ring t.idx).settle
  else (s1.endEntry t.ring t.idx status).settle

/-- A tile failed under R315: event 0x0803. -/
def State.tileFailed (s : State) (st : Nat) (t : TileJob) (status : Nat) : State :=
  ((s.ev2 0x0803 st status).inc F.STL_COUNTS_TILE_FAILS).finishTile t status

/-! When the dispatcher serves (R422; 04 R146; 16 R459) -/

/-- A transition to a lower chip state is being prepared. -/
def State.preparing (s : State) : Bool :=
  match s.pwr.due with
  | some q => s.pwr.state < q.target
  | none => false

/-- The dispatcher issues entries: in Run and Doze with CORE_MGMT on and the main PLL locked (04 R146), until Doze → Watch is prepared. -/
def State.dispatches (s : State) : Bool :=
  s.isUp && s.coreOn && !s.alarmHold && !s.disp.stopped && s.flag F.SPN_STATUS_PLL_LOCK && s.pwr.state < 2
    && !(s.pwr.state == 1 && s.preparing)

/-- The smallest issue share of classes 1 to 3 is above 0: thermal, rail throttle and Brace (01 R31, R42; 06 R179, R199,
R200). Shares themselves act in time (log 4). -/
def State.issueShare (s : State) : Bool :=
  let therm := s.get F.STW_THROTTLE_LEVEL * orOne (s.get F.STW_THERM_CFG_STEP) < 16
  let rail := 0 < s.get F.VRC_STATUS_SHARE && !s.flag F.VRC_STATUS_CLAMP
  let brace := !s.flag F.SUP_STATUS_BRACE || 0 < s.get F.SUP_CFG_BRACE_SHARE
  therm && rail && brace

/-- Tiles of a class issue, a re-issue among them: in Run, with no step down prepared. -/
def State.issuesTiles (s : State) (cls : Nat) : Bool :=
  s.dispatches && s.pwr.state == 0 && !s.preparing && (cls == 0 || s.issueShare)

/-! Placement (R305, R306, R315; 14 R406) -/

/-- Some stall weight-set entry names the stall. -/
def State.named (s : State) (st : Nat) : Bool := s.cim.sets.any fun w => bitOf w.stalls st

/-- The stall is programmed with weight set `w`, and may run its CIM_MATMUL (12 R353, R361). -/
def State.holdsSet (s : State) (st w : Nat) : Bool :=
  s.named st && s.getAt F.CIM_STALLs_STATE_VALID st == 1 && s.getAt F.CIM_STALLs_STATE_WSET st == w
    && s.getAt F.CIM_STALLs_STATE_UNVERIFIED st == 0

/-- The stall holds weight set `w`, or will once its programming has ended. -/
def State.willHold (s : State) (st w : Nat) : Bool :=
  s.holdsSet st w || (s.cim.sets.any fun x => x.wset == w && bitOf x.stalls st)
    && (s.getAt F.CIM_STALLs_STATE_PROGRAMMING st == 1 || s.getAt F.CIM_STALLs_STATE_UNVERIFIED st == 1
      || s.cim.queue.contains st)

/-- A tile may run on the stall, now or later. -/
def State.mayRun (s : State) (t : TileJob) (st : Nat) : Bool :=
  !s.barred st && (t.cls == 0 || !s.reserved st) && (t.wset == 0xFFFF || t.emul || s.willHold st t.wset)

/-- The stall may take a tile of this class now: none runs on it, a cut one waits only for class-0 work, it is not being
programmed and holds the tile's set, and no commit of that set is in progress, of which the digital image is a part (12 R351, R357). -/
def State.stallFree (s : State) (t : TileJob) (st : Nat) : Bool :=
  (s.stall st).tile.isNone && ((s.stall st).cut.isNone || t.cls == 0)
    && s.getAt F.CIM_STALLs_STATE_PROGRAMMING st == 0
    && (t.wset == 0xFFFF || t.emul || s.holdsSet st t.wset)
    && !(match s.cim.commit with | some c => c.wset == t.wset && t.wset != 0xFFFF | none => false)

/-- The stalls in the order a class takes them: class 0 takes the reserved ones first. -/
def State.stallOrder (s : State) (cls : Nat) : List Nat :=
  let l := List.range 96
  if cls = 0 then l.filter s.reserved ++ l.filter fun st => !s.reserved st else l

/-- A tile begins on a stall; vote slot 3 holds its ROW, and the domains it is work for. -/
def State.putTile (s : State) (st : Nat) (t : TileJob) : State :=
  (s.setStall st { s.stall st with tile := some t }).each (st / 8 :: s.tileDomains t) fun s d => s.workVote d true

/-- Where a tile stands to be placed. -/
inductive Place where
  /-- On this stall, now. -/
  | on (st : Nat)
  /-- Once this ROW is on. -/
  | row (r : Nat)
  /-- Once a stall that may run it is free. -/
  | later
  /-- Nowhere (NO_TARGET). -/
  | nowhere
deriving DecidableEq, Repr

/-- The place of a tile. -/
def State.placeOf (s : State) (t : TileJob) : Place :=
  let may := (s.stallOrder t.cls).filter (s.mayRun t)
  let free := may.filter (s.stallFree t)
  match free.find? fun st => s.steadyAt (st / 8) 2 with
  | some st => .on st
  | none => match free with
    | st :: _ => .row (st / 8)
    | [] => if may.isEmpty then .nowhere else .later

/-- A set of the section in force is named `w` (12 R365: without a valid section there is none). -/
def State.hasSet (s : State) (w : Nat) : Bool := s.cim.sets.any fun x => x.wset == w

/-- The tile with its CIM_MATMUL computed from the digital image, where no stall holds its set, which the section names, and it has one
(R315); a fence that took the set's last stall changes no later tile either (R316; log 221). -/
def State.asEmul (s : State) (t : TileJob) : TileJob :=
  if s.placeOf t = .nowhere ∧ s.hasSet t.wset ∧ s.emulTile t then { t with emul := true } else t

/-! Re-issue (R315) -/

/-- A waiter that an EARLY tile needs again on its new stall. -/
def State.regate (s : State) (st : Nat) (t : TileJob) : State :=
  if t.gated then
    let e := s.entryBytes t.ring t.idx
    let w : Waiter := { what := .early st, ring := t.ring, tally := fieldAt e 4 2, value := fieldAt e 8 4,
                        consume := bitOf (byteAt e 1) 0 }
    if w.value ≤ s.tally w.tally then s.satisfy w else s.addWaiter w
  else s

/-- One waiting re-issue is placed where a stall may take it: event 0x0801; nowhere, it ends with NO_TARGET; else it
waits. -/
def State.reissueOne (s : State) (t0 : TileJob) : State :=
  let t := s.asEmul t0
  let s1 := { s with fab := { s.fab with reissues := s.fab.reissues.erase t0 } }
  match s.placeOf t with
  | .on st => (((s1.putTile st t).regate st t).ev2 0x0801 st t.tileId).inc F.STL_COUNTS_REISSUES
  | .nowhere => s1.tileFailed 0xFF t 10
  | .row r => s.setVote r 3 2
  | .later => s

/-- Every waiting re-issue of a class that issues now, class by class. -/
def State.serveReissues (s : State) : State :=
  s.each (((List.range 4).map fun c => if s.issuesTiles c then s.fab.reissues.filter fun t => t.cls == c else []).flatten)
    fun s t => s.reissueOne t

/-- The tile as it is issued again, from its first descriptor, behind a time-out or not. -/
def TileJob.anew (t : TileJob) (timeout : Bool) : TileJob :=
  { t with pos := t.base, again := t.again || timeout, ended := false, sticky := false, adapted := false, taint := 0, record := [],
           recTaint := 0, writes := [], releases := [], tally := 0, tallyAdd := 0
           nums := t.nums.map fun n => { n with outs := 0, clipped := 0, peak := 0, taint := 0 } }

/-- A tile ends on stall `st` with a failure of R315, which LAST_STATUS shows. -/
def State.stallFailed (s : State) (st : Nat) (t : TileJob) (status : Nat) : State :=
  (s.setAt F.STL_STALLs_STATUS_LAST_STATUS st status).tileFailed st t status

/-- An abandoned tile (R315): timed out a second time, it ends with WATCHDOG; STICKY, with FENCED; else it is issued again. -/
def State.abandonTile (s : State) (st : Nat) (t : TileJob) (watchdog : Bool) : State :=
  if watchdog && t.again then s.stallFailed st t 9
  else if s.stickyTile t then s.stallFailed st t 8
  else { s with fab := { s.fab with reissues := t.anew watchdog :: s.fab.reissues } }

/-- A stall has no tile any more: a cut tile resumes, vote slot 3 follows, and waiting re-issues are served (14 R407). -/
def State.stallIdle (s : State) (st : Nat) : State :=
  let x := s.stall st
  let s1 := match x.cut with
    | some c => if s.barred st then s else s.setStall st { x with tile := some c, cut := none }
    | none => s
  (s1.serveReissues).rowVotes

/-- The tile of a stall ends with a status (R299, R300). -/
def State.endStallTile (s : State) (st status : Nat) : State :=
  match (s.stall st).tile with
  | some t =>
    let s1 := (s.setStall st { s.stall st with tile := none }).setAt F.STL_STALLs_STATUS_LAST_STATUS st status
    ((s1.finishTile t status).endAccess (.stall st)).stallIdle st
  | none => s

/-! Fencing (R306, R313, R314) -/

/-- No reserved stall is left (R306); under the rail clamp that forces Doze (06 R200). -/
def State.reservedLost (s : State) : State :=
  if s.barred (s.get F.STL_RESERVED_RES0) && s.barred (s.get F.STL_RESERVED_RES1) then
    (s.ev 0x0821 0).when (s.flag F.VRC_STATUS_CLAMP) fun s => s.force 1 5
  else s

/-- A tile of a stall that stops: one whose LAST has completed has completed, any other is abandoned (R313, R315). -/
def State.stopTile (s : State) (st : Nat) (t : TileJob) (watchdog : Bool) : State :=
  if t.ended then (s.setAt F.STL_STALLs_STATUS_LAST_STATUS st 0).finishTile t 0 else s.abandonTile st t watchdog

/-- The work of a stall stops: its tile and its cut tile (R313, R315). -/
def State.stopStall (s : State) (st : Nat) (watchdog : Bool) : State :=
  let x := s.stall st
  let s1 := ((s.setStall st { x with tile := none, cut := none, hist := [], level2 := [], closed := [] }).dropEarly st).endAccess (.stall st)
  let s2 := match x.tile with
    | some t => s1.stopTile st t watchdog
    | none => s1
  match x.cut with
  | some t => s2.stopTile st t false
  | none => s2

/-- A fence (R314), once until the next cold start: the stall stops, its tile is abandoned and issued again, it is powered down, and then
event 0x0800 follows. Its bit keeps the re-issue off it from the first step on (log 161). -/
def State.fence (s : State) (st cause : Nat) : State :=
  if s.fenced st then s
  else
    let s1 := (s.setMaskBit R.STL_FENCEDk st true).setAt F.STL_STALLs_STATUS_FENCE_CAUSE st cause
    let s2 := ((((s1.stopProgram st).stopStall st (cause == 4)).serveReissues).rowVotes).loseStall st
    (s2.ev2 0x0800 st cause).when (s.reserved st && (s.isUp || s.boot.warm)) fun s => s.reservedLost

end Sys2Proof.Machine
end

