-- ==== Sys2Proof/Machine/Fabric.lean ====
section
/-! DEFINITION. Layer descriptors on the stalls: their checks, what they compute, range monitors, memory errors and
watchdogs (10 R290 to R304, R313 to R315; 11 R320 to R344; 02 R67, R83). -/

namespace Sys2Proof.Machine

/-! Addresses and regions (R295, R297) -/

/-- Where a descriptor address lies. -/
inductive DLoc where
  | none
  | mem (m : Mem) (off : Nat)
  | pen (off : Nat)
  | outbox
  | bad
deriving DecidableEq, Repr

/-- A descriptor address as stall `st` uses it (Table 10.3). -/
def descLoc (st w : Nat) : DLoc :=
  match bitsOf w 29 3 with
  | 0 => if w = 0 then .none else .bad
  | 1 => if bitsOf w 17 12 = 0 then .mem .stall (st * 0x20000 + bitsOf w 0 17) else .bad
  | 2 => if bitsOf w 24 5 = 0 then .mem .loft (bitsOf w 0 24) else .bad
  | 3 => if bitsOf w 21 8 = 0 then .pen (bitsOf w 0 21) else .bad
  | 4 => if bitsOf w 27 2 = 0 ∧ bitsOf w 17 7 = 0 then
      .mem .stall ((8 * (st / 8) + bitsOf w 24 3) * 0x20000 + bitsOf w 0 17) else .bad
  | 5 => if bitsOf w 0 29 = 0 then .outbox else .bad
  | _ => .bad

/-- A region of a descriptor: a place and a length in bytes. -/
structure Region where
  loc : DLoc
  len : Nat
deriving DecidableEq, Repr

/-- The region lies within its memory; a stall's SRAM is 128 KiB. -/
def Region.fits (r : Region) : Bool :=
  match r.loc with
  | .mem .stall off => off % 0x20000 + r.len ≤ 0x20000
  | .mem m off => off + r.len ≤ m.size
  | .pen off => off + r.len ≤ 0x200000
  | .none => true
  | .outbox => true
  | .bad => false

/-- Two regions share a byte. -/
def Region.meets (a b : Region) : Bool :=
  match a.loc, b.loc with
  | .mem m x, .mem n y => m == n && decide (x < y + b.len) && decide (y < x + a.len) && a.len != 0 && b.len != 0
  | _, _ => false

/-- The span of `n` vectors of `v` bytes. -/
def spanLen (n stride v : Nat) : Nat := (n - 1) * stride + v

/-- A multiple of 64 at or above `x` (R326). -/
def al64 (x : Nat) : Nat := (x + 63) / 64 * 64

/-- K-groups. -/
def Desc.j (d : Desc) : Nat := ceilDiv d.k (groupOf d.mode)

/-- Entries of a codebook. -/
def Desc.bookLen (d : Desc) : Nat := if d.wfmt = 2 then 16 else 256

/-- Offsets of the parts of a scale block, and its size (Table 11.2). -/
def Desc.partB (d : Desc) : Nat := al64 (2 * d.m * d.j)
def Desc.partC (d : Desc) : Nat := al64 (2 * d.m * d.j)
def Desc.partD (d : Desc) : Nat :=
  if d.wfmt < 2 then al64 (d.partB + d.m) else if d.wfmt < 4 then al64 (d.partC + 2 * d.bookLen * d.j) else d.partB
def Desc.scaleLen (d : Desc) : Nat :=
  if d.outliers ≠ 0 then d.partD + 32 + 2 * d.m + d.outliers * d.m
  else if d.wfmt < 2 then d.partB + d.m
  else if d.wfmt < 4 then d.partC + 2 * d.bookLen * d.j
  else 2 * d.m * d.j

/-- Offset of part GA of a gradient block, and its size (R337). -/
def Desc.gradA (d : Desc) : Nat := al64 (d.m * d.k)
def Desc.gradLen (d : Desc) : Nat := d.gradA + 2 * d.m * d.j

/-- Offsets of the parts of a state block, and its size (Table 11.6). -/
def Desc.stA (d : Desc) : Nat := al64 (d.m * d.k)
def Desc.stB (d : Desc) : Nat := al64 (d.stA + 2 * d.m * d.j)
def Desc.stV (d : Desc) : Nat := al64 (d.stB + d.m)
def Desc.stVA (d : Desc) : Nat := al64 (d.stV + d.m * d.k)
def Desc.stLen (d : Desc) : Nat := d.stVA + 2 * d.m * d.j

/-- FUNC takes a second operand: ADD, MUL, MAX. -/
def Desc.binary (d : Desc) : Bool := d.op == 4 && 1 ≤ d.func && d.func ≤ 3

/-- The lengths of the SRC, WGT, DST and SCALES regions; 0 where the operation uses none (log 42). A record of EMIT has 32 bytes at
least. -/
def Desc.srcLen (d : Desc) : Nat := if d.op = 0 then 0 else if d.op = 6 then d.gradLen else if d.op = 15 then 32 else spanLen d.n d.srcStride d.k
def Desc.wgtLen (d : Desc) : Nat :=
  match d.op with
  | 1 => d.m * rowBytes d.wfmt d.k
  | 4 => if d.binary then spanLen d.n d.srcStride d.k else 0
  | 5 => d.n * d.m
  | 6 => d.stLen
  | _ => 0
def Desc.dstLen (d : Desc) : Nat :=
  match d.op with
  | 0 => 0
  | 5 => d.gradLen
  | 6 => d.stLen
  | 15 => 0
  | _ => spanLen d.n d.dstStride d.m
def Desc.sclLen (d : Desc) : Nat :=
  match d.op with
  | 1 => d.scaleLen
  | 2 => d.scaleLen
  | 4 => if d.func = 6 then 256 else 0
  | 5 => 2 * d.n
  | _ => 0

/-- The regions as stall `st` sees them. -/
def Desc.src' (d : Desc) (st : Nat) : Region := ⟨descLoc st d.src, d.srcLen⟩
def Desc.wgt' (d : Desc) (st : Nat) : Region := ⟨descLoc st d.wgt, d.wgtLen⟩
def Desc.dst' (d : Desc) (st : Nat) : Region := ⟨descLoc st d.dst, d.dstLen⟩
def Desc.scl' (d : Desc) (st : Nat) : Region := ⟨descLoc st d.scales, d.sclLen⟩

/-- The space bits of an address are among those allowed. -/
def inSpaces (l : List Nat) (w : Nat) : Bool := l.contains (bitsOf w 29 3)

/-! The checks (R297) -/

/-- Header fields that every operation keeps to. -/
def headerOk (d : Desc) : Bool :=
  d.op < 7 && d.op != 3 || d.op == 15

/-- Flags, modes and reserved bits. -/
def commonOk (d : Desc) : Bool :=
  bitsOf d.flags 6 2 == 0 && bitsOf d.mode 4 4 == 0 && bitsOf d.mode 0 2 != 3 && d.wfmt ≤ 5 && bitsOf d.tally 12 4 == 0
    && d.rest == 0 && (d.op == 4 && d.func ≤ 7 || d.func == 0) && (d.op == 1 && d.outliers ≤ 8 || d.outliers == 0)

/-- Channel counts and vectors. -/
def sizesOk (d : Desc) : Bool := 1 ≤ d.m && d.m ≤ 4096 && 1 ≤ d.k && d.k ≤ 4096 && 1 ≤ d.n

/-- The spaces of Table 10.3, for every operation (log 222); second operands lie in own SRAM or the Loft. EMIT's destination is the
outbox. -/
def spacesOk (d : Desc) : Bool :=
  inSpaces [1, 2, 3, 4] d.src && inSpaces (if d.op = 15 then [5] else [1, 2, 4]) d.dst
    && (if d.wgtLen = 0 then inSpaces [0, 1, 2] d.wgt else inSpaces [1, 2] d.wgt)
    && (if d.sclLen = 0 then inSpaces [0, 1, 2] d.scales else inSpaces [1, 2] d.scales)
    && inSpaces [0, 2] d.emul

/-- An operation's own rule (Table 10.4). -/
def State.opOk (s : State) (st : Nat) (t : TileJob) (d : Desc) : Bool :=
  match d.op with
  | 0 => true
  | 1 => d.wfmt ≤ 3
  | 2 => (d.wfmt == 4 || d.wfmt == 5) && d.k ≤ 256 && d.m ≤ (if d.wfmt = 4 then 128 else 256)
      && bitsOf d.mode 0 2 == 1
      && (if t.emul then d.emul != 0 && s.hasSet d.wset else s.holdsSet st d.wset && s.recFormat st == d.wfmt)
  | 4 => true
  | 5 => d.sticky
  | 6 => d.sticky
  | _ => d.last && t.slot.isSome && s.endsTile t t.pos

/-- The outlier table of a descriptor (Table 11.3), read from its memory. -/
def outlierOk (d : Desc) (st : Nat) (tab : List Byte) : Bool :=
  let osrc := fieldAt tab 0 4
  let ch := (List.range 8).map fun i => fieldAt tab (16 + 2 * i) 2
  let used := ch.take d.outliers
  inSpaces [1, 2, 4] osrc && (Region.fits ⟨descLoc st osrc, spanLen d.n 16 (2 * d.outliers)⟩) && zeroAt tab 4 12
    && used.all (· < d.k) && (used.zip (used.drop 1)).all (fun p => p.1 < p.2) && (ch.drop d.outliers).all (· == 0xFFFF)

/-- Bytes of a region in a memory. -/
def Region.bytes (r : Region) (m : MemState) : List Byte :=
  match r.loc with
  | .mem w off => m.read w off r.len
  | .pen off => m.penRead off r.len
  | _ => []

/-- Its taint; the Pen carries P (02 R58). -/
def Region.taint (r : Region) (m : MemState) : Nat :=
  match r.loc with
  | .mem w off => m.taint w off r.len
  | .pen _ => 1
  | _ => 0

/-- The slot and envelope it names exist (R304, R332, R344; log 43). -/
def State.namesOk (s : State) (d : Desc) : Bool :=
  (d.slot == 0xFF || s.numOk d.slot) && (d.env == 0xFF || decide (d.env < s.fab.envs.length))

/-- Check 2 of R297, but for the outlier table. -/
def State.descOk (s : State) (st : Nat) (t : TileJob) (d : Desc) : Bool :=
  headerOk d && commonOk d && s.opOk st t d && s.namesOk d && (d.tallyAdd == 0 || d.last)
    && sizesOk d && spacesOk d && (d.src' st).fits && (d.wgt' st).fits && (d.dst' st).fits && (d.scl' st).fits
    && Region.fits ⟨descLoc st d.emul, if t.emul then 0x4000 else 0⟩

/-- Check 3. -/
def Desc.overlaps (d : Desc) (st : Nat) : Bool :=
  (d.dst' st).meets (d.src' st) || (d.dst' st).meets (d.wgt' st) || (d.dst' st).meets (d.scl' st)

/-- The Pen slot (4 × port + slot) that a region lies within, if a slot of an enabled port holds all of it (02 R83). -/
def State.penSlotOf (s : State) (off len : Nat) : Option Nat :=
  (List.range 8).find? fun x =>
    let p := x / 4
    s.camOn p && decide (x % 4 < s.penSlots p) && decide (s.penBase p (x % 4) ≤ off)
      && decide (off + len ≤ s.penBase p (x % 4) + s.penBytes p)

/-- Check 4: the status of a Pen source that fails, 0 where it passes or there is none. -/
def State.penStatus (s : State) (t : TileJob) (d : Desc) (st : Nat) : Nat :=
  match (d.src' st).loc with
  | .pen off => if !(t.grant && d.penRead) then 2 else if (s.penSlotOf off d.srcLen).isNone then 3 else 0
  | _ => 0

/-- A descriptor that fails a check: its tile ends with the status (R297). -/
def State.rejectDesc (s : State) (st status : Nat) : State :=
  let s1 := (s.when (status == 2) fun s => s.ev 0x0714 st).when (status == 3) fun s => s.ev 0x0713 st
  ((s1.ev2 0x0804 st status).inc F.STL_COUNTS_REJECTS).endStallTile st status

/-- The memories of every region are on: `f`; one that has failed: `g`, which ends the tile with DOMAIN_FAILED; else the access waits
(05 R161, R172). -/
def State.reachAll (s : State) (e : Engine) (rs : List Region) (f g : State → State) : State :=
  match rs with
  | [] => f s
  | r :: rest =>
    match r.loc with
    | .mem .loft off =>
      if r.len = 0 then s.reachAll e rest f g
      else s.reach e .loft off (fun s => s.reach e .loft (off + r.len - 1) (fun s => s.reachAll e rest f g) g) g
    | .pen _ => s.access e 18 (fun s => s.reachAll e rest f g) g
    | _ => s.reachAll e rest f g

/-- The same for a stall's tile. -/
def State.reachStall (s : State) (st : Nat) (rs : List Region) (f : State → State) : State :=
  s.reachAll (.stall st) rs f fun s => s.endStallTile st 4

/-- A stall's descriptor engine runs: CORE_MGMT and its ROW are on and no alarm halts the fabric. -/
def State.stallRuns (s : State) (st : Nat) : Bool :=
  s.isUp && s.coreOn && s.steadyAt (st / 8) 2 && !s.alarmHold && !s.barred st

/-! Range monitors (R302) -/

/-- A descriptor with another envelope discards the windows; an unmonitored one leaves them (log 44). -/
def StallSt.setEnv (x : StallSt) (env : Nat) (cim : Bool) : StallSt :=
  if env = 0xFF then x
  else if x.env = env then { x with cimEnv := cim }
  else { x with env := env, hist := [], level2 := [], cimEnv := cim }

/-- The 16 counts of a group. -/
def StallSt.counts (x : StallSt) (g : Nat) : List Nat := (List.range 16).map fun b => elGet 0 x.hist (16 * g + b)

/-- One output of channel `c` enters its group's window; at 4,096 the window closes. -/
def StallSt.watch (x : StallSt) (uint : Bool) (c : Nat) (v : Int) : StallSt :=
  let g := c / 32 % 8
  let b := ((if uint then v else v + 128) / 16).toNat
  let y := { x with hist := elPut 0 x.hist (16 * g + b) (elGet 0 x.hist (16 * g + b) + 1) }
  if (y.counts g).sum < 4096 then y
  else { y with closed := y.closed ++ [⟨g, y.env, y.cimEnv, y.counts g⟩]
                hist := y.hist.filter fun p => p.1 / 16 != g }

/-- The codes of a block's rows, each an output channel. -/
def StallSt.watchRows (x : StallSt) (rows : List (List Int)) : StallSt :=
  rows.zipIdx.foldl (fun x p => p.1.foldl (fun x v => x.watch false p.2 v) x) x

/-- The outputs of a descriptor, vector by vector. -/
def StallSt.watchAll (x : StallSt) (uint : Bool) (vs : List (List OutVal)) : StallSt :=
  vs.foldl (fun x v => v.zipIdx.foldl (fun x p => x.watch uint p.2 p.1.code) x) x

/-! The start of a descriptor -/

/-- The tile joins the scale slot of a descriptor, where it is its first that names the slot (11 R332). -/
def State.latch (s : State) (t : TileJob) (d : Desc) : State × TileJob :=
  if d.slot = 0xFF ∨ t.nums.any (fun n => n.slot == d.slot) then (s, t)
  else let r := s.joinNum d.slot; (r.1, { t with nums := t.nums ++ [r.2] })

/-- The scale it latched for the descriptor's slot; none where it names none. -/
def TileJob.scaleOf (t : TileJob) (d : Desc) : Option Nat :=
  if d.slot = 0xFF then none else (t.nums.find? fun n => n.slot == d.slot).map (·.scale)

/-- A descriptor starts (R302; 11 R332): one of another envelope discards the monitor's windows, and its tile joins the slot it names. -/
def State.startDesc (s : State) (st : Nat) (t : TileJob) (d : Desc) (f : State → TileJob → Desc → State) : State :=
  let r := s.latch t d
  f (r.1.setStall st { (r.1.stall st).setEnv d.env (d.op == 2) with tile := some r.2 }) r.2 d

/-- The memory as the tile sees it: its own earlier writes included (R298). -/
def State.tileMem (s : State) (t : TileJob) : MemState := s.mem.overlay t.writes

/-- The last part of check 2 (11 R327, R344): the outlier table, once its memory is on; `f` where it holds or there is none. -/
def State.tableChecked (s : State) (st : Nat) (t : TileJob) (d : Desc) (f : State → State) : State :=
  if d.outliers = 0 then f s
  else s.reachStall st [d.scl' st] fun s =>
    if outlierOk d st (((d.scl' st).bytes (s.tileMem t)).drop d.partD) then f s else s.rejectDesc st 5

/-- The current descriptor of stall `st` starts as an operation: nothing unless its tile runs and its descriptor is of that
operation; the checks of R297 in order. -/
def State.onDesc (s : State) (st op func : Nat) (f : State → TileJob → Desc → State) : State :=
  match (s.stall st).tile with
  | none => s
  | some t =>
    if !s.stallRuns st || t.gated || t.ended || t.record != [] then s
    else
      let go := fun (s : State) =>
        let b := s.descBytes t t.pos
        let d := readDesc b
        let t1 := { t with tileId := d.tileId }
        let bad := fieldAt b 60 4 != crc32 (b.take 60)
        if !bad && headerOk d && (d.op != op || (d.op == 4 && d.func ≤ 7 && d.func != func)) then s
        else
          let s1 := s.setStall st { s.stall st with tile := some t1 }
          if bad then s1.rejectDesc st 6
          else if !s1.descOk st t1 d then s1.rejectDesc st 5
          else s1.tableChecked st t1 d fun s =>
            if d.overlaps st then s.rejectDesc st 7
            else if s.penStatus t1 d st != 0 then s.rejectDesc st (s.penStatus t1 d st)
            else s.startDesc st t1 d f
      match t.slot with
      | none => s.reach (.stall st) .loft (t.first + 64 * t.pos) go fun s => s.endStallTile st 4
      | some _ => go s

/-- The tile goes on behind its descriptor: its last one ends it; in a head store slot a LAST before the final descriptor
makes its tile's effects visible (R294, R299). -/
def State.descDone (s : State) (st : Nat) (t : TileJob) (d : Desc) : State :=
  let rel := match (d.src' st).loc with
    | .pen off => if d.penRelease && d.op != 0 then (s.penSlotOf off d.srcLen).toList else []
    | _ => []
  let t1 := { t with releases := t.releases ++ rel }
  if s.endsTile t t.pos then
    s.setStall st { s.stall st with tile := some { t1 with ended := true, status := 0, tally := d.tally, tallyAdd := d.tallyAdd } }
  else if d.last then
    let next := { t1 with base := t.pos + 1, pos := t.pos + 1, writes := [], releases := [], nums := [] }
    ((s.setStall st { s.stall st with tile := some next }).publish { t1 with tally := d.tally, tallyAdd := d.tallyAdd }).settle
  else s.setStall st { s.stall st with tile := some { t1 with pos := t.pos + 1 } }

/-- NOP (R296). -/
def execNop (stall : Fin 96) (s : State) : Out := done (s.onDesc stall 0 0 fun s t d => s.descDone stall t d)

/-! The end of a computing descriptor -/

/-- The statistics of a descriptor's outputs join the tile's slot (11 R332, R333, R336); an infinite t is the largest there is. -/
def TileJob.count (t : TileJob) (slot taint : Nat) (vs : List OutVal) : TileJob :=
  { t with nums := t.nums.map fun n =>
      if n.slot = slot then
        { n with outs := n.outs + vs.length, clipped := n.clipped + (vs.filter (·.clipped)).length,
                 peak := vs.foldl (fun m v => max m v.t.natAbs) n.peak,
                 taint := n.taint ||| taint }
      else n }

/-- Non-finite scales and infinite results are counted and logged (R342, R343). -/
def State.numFaults (s : State) (st nonfinite past : Nat) : State :=
  let s1 := s.when (nonfinite != 0) fun s => (s.addAt F.NUM_COUNTS_NONFINITE 0 nonfinite).ev 0x0904 st
  s1.when (past != 0) fun s => (s.addAt F.NUM_COUNTS_OVERFLOW 0 past).ev 0x0903 st

/-- The writes of `n` vectors; vectors that lie back to back are one write. -/
def vecWrites (r : DLoc) (stride taint : Nat) (vs : List (List Byte)) : List TileWrite :=
  match r with
  | .mem m off =>
    if vs.length = 1 ∨ vs.all (fun v => v.length == stride) then [⟨m, off, vs.flatten, taint⟩]
    else vs.zipIdx.map fun p => ⟨m, off + p.2 * stride, p.1, taint⟩
  | _ => []

/-- Outputs leave the output stage: written for the tile, counted, watched. -/
def State.putOutputs (s : State) (st : Nat) (t : TileJob) (d : Desc) (taint nonfinite : Nat) (vs : List (List OutVal)) :
    State :=
  let flat := vs.flatten
  let bytes := vs.map fun v => v.map fun o => BitVec.ofInt 8 o.code
  let t1 := { t.count d.slot taint flat with
    writes := t.writes ++ vecWrites (d.dst' st).loc d.dstStride taint bytes, taint := t.taint ||| taint }
  let y := if d.env = 0xFF then s.stall st else (s.stall st).watchAll d.uint vs
  ((s.setStall st y).numFaults st nonfinite (flat.filter (·.past)).length).descDone st t1 d

/-- The output stage's settings of a descriptor. -/
def Desc.outCfg (d : Desc) (scale : Option Nat) : OutCfg :=
  { trunc := d.trunc, relu := d.relu, uint := d.uint, zp := actVal d.uint (BitVec.ofNat 8 d.zpOut), scale := scale }

/-- A read of a Pen slot whose wipe has begun ends the tile with PEN_WIPED (02 R54, R77), one of a slot that is not READY otherwise
with PEN_NOT_READY, event 0x0713 (R83; log 45). -/
def State.penReady (s : State) (st : Nat) (d : Desc) (f : State → State) : State :=
  match (d.src' st).loc with
  | .pen off =>
    match s.penSlotOf off d.srcLen with
    | some x =>
      let k := s.penSlot (x / 4) (x % 4)
      if s.flag F.PEN_STATUS_WIPING ∨ k = 3 then s.endStallTile st 1
      else if k = 2 then f s else (s.ev 0x0713 st).endStallTile st 3
    | none => s
  | _ => f s

/-- The input vectors of a descriptor. -/
def Desc.vectors (d : Desc) (m : MemState) (st : Nat) : List (List Byte) :=
  let b := (d.src' st).bytes m
  (List.range d.n).map fun n => slice b (n * d.srcStride) d.k

/-! MATMUL (11 R320 to R331) -/

/-- The outlier activations of vector `n` (R329). -/
def outlierActs (m : MemState) (st osrc n count : Nat) : List Int :=
  match descLoc st osrc with
  | .mem w off => (List.range count).map fun i => signed 16 (leNat (m.read w (off + 16 * n + 2 * i) 2))
  | _ => []

/-- The weight operands of channel `c`: codes less their zero point, or codebook entries in units of 2^-24. -/
def weightOps (d : Desc) (wgt scl : List Byte) (c : Nat) : List Int :=
  let codes := rowCodes d.wfmt d.k (slice wgt (c * rowBytes d.wfmt d.k) (rowBytes d.wfmt d.k))
  if d.wfmt = 0 then
    let z := signed 8 (byteAt scl (d.partB + c))
    codes.map fun x => signed 8 x - z
  else if d.wfmt = 1 then
    let z := signed 4 (byteAt scl (d.partB + c))
    codes.map fun x => signed 4 x - z
  else codes.zipIdx.map fun p =>
    val16 (fieldAt scl (d.partC + 2 * (p.2 / groupOf d.mode * d.bookLen + p.1)) 2)

/-- One output of a MATMUL: the K-groups, the outliers, the output stage. -/
def matmulOut (d : Desc) (cfg : OutCfg) (wgt scl : List Byte) (a outl : List Int) (c : Nat) : OutVal :=
  let g := groupOf d.mode
  let w := weightOps d wgt scl c
  let gs := if d.wfmt < 2 then intSums g w a else bookSums g w a
  let ss := (List.range d.j).map fun j => f16 (fieldAt scl (2 * (c * d.j + j)) 2)
  let acc := accum gs ss
  let acc1 := if d.outliers = 0 then acc
    else
      let ow := (List.range d.outliers).map fun i => signed 8 (byteAt scl (d.partD + 32 + 2 * d.m + i * d.m + c))
      add32 acc (mul32 (ofInt32 (dotInt outl ow)) (f16 (fieldAt scl (d.partD + 32 + 2 * c) 2)))
  outStage cfg (f16 d.outScale) acc1

/-- The activation operands of a vector: codes less ZP_IN, 0 at outlier channels (R322, R329). -/
def actOps (d : Desc) (chans : List Nat) (v : List Byte) : List Int :=
  let z := actVal d.uint (BitVec.ofNat 8 d.zpIn)
  (v.map fun b => actVal d.uint b - z).zipIdx.map fun p => if chans.contains p.2 then 0 else p.1

/-- The outlier channels of a scale block. -/
def outlierChans (d : Desc) (scl : List Byte) : List Nat :=
  (List.range d.outliers).map fun i => fieldAt scl (d.partD + 16 + 2 * i) 2

/-- Non-finite values among the scales a descriptor reads. -/
def Desc.nonfinite (d : Desc) (scl : List Byte) : Nat :=
  let n := fun (off k : Nat) => ((halves (slice scl off (2 * k))).filter bad16).length
  n 0 (d.m * d.j) + (if d.op = 1 ∧ 2 ≤ d.wfmt then n d.partC (d.bookLen * d.j) else 0)
    + (if d.outliers ≠ 0 then n (d.partD + 32) d.m else 0) + b2n (bad16 d.outScale)

/-- The outlier source as a region. -/
def outlierSrc (d : Desc) (st : Nat) (scl : List Byte) : Region :=
  if d.outliers = 0 then ⟨.none, 0⟩ else ⟨descLoc st (fieldAt scl d.partD 4), spanLen d.n 16 (2 * d.outliers)⟩

/-- MATMUL runs (R325). -/
def State.runMatmul (s : State) (st : Nat) (t : TileJob) (d : Desc) : State :=
  let m := s.tileMem t
  let wgt := (d.wgt' st).bytes m
  let scl := (d.scl' st).bytes m
  let chans := outlierChans d scl
  let osrc := fieldAt scl d.partD 4
  let taint := (d.src' st).taint m ||| (d.wgt' st).taint m ||| (d.scl' st).taint m ||| (outlierSrc d st scl).taint m
  let vs := (d.vectors m st).zipIdx.map fun p =>
    let a := actOps d chans p.1
    let o := outlierActs m st osrc p.2 d.outliers
    (List.range d.m).map (matmulOut d (d.outCfg (t.scaleOf d)) wgt scl a o)
  s.putOutputs st t d taint (d.nonfinite scl) vs

/-- MATMUL (R296, R325). -/
def execMatmul (stall : Fin 96) (s : State) : Out :=
  done (s.onDesc stall 1 0 fun s t d =>
    s.reachStall stall [d.src' stall, d.wgt' stall, d.dst' stall, d.scl' stall] fun s =>
      s.reachStall stall [outlierSrc d stall ((d.scl' stall).bytes (s.tileMem t))] fun s =>
        s.penReady stall d fun s => s.runMatmul stall t d)

/-! CIM_MATMUL (10 R290; 11 R323) -/

/-- The 64 rows of levels of block `j`: of the macro, or of the digital image. -/
def State.cimRows (s : State) (st : Nat) (m : MemState) (t : TileJob) (d : Desc) (j : Nat) : List (List Byte) :=
  (List.range 64).map fun r =>
    let k := 64 * j + r
    if t.emul then m.read .loft (bitsOf d.emul 0 24 + 64 * k) 64
    else tblGetRange (fun _ => (0 : Byte)) s.cim.cells (64 * (256 * st + k)) 64

/-- The macro's conversions are those of its levels: its column offsets have passed calibration, or the digital path computes
them (R290; log 46). -/
def State.cimExact (s : State) (st : Nat) (t : TileJob) : Bool :=
  t.emul || s.getAt F.CIM_STALLs_STATE_OFFSET_SOURCE st == 1 || s.getAt F.CIM_STALLs_STATE_OFFSET_SOURCE st == 2

/-- Input code `u` of a row, and the effective zero point; rows behind K carry the zero point (log 47). -/
def lineCode (uint : Bool) (b : Byte) : Nat := if uint then b.toNat else (b.toInt + 128).toNat

/-- One output of a CIM_MATMUL. -/
def cimOut (d : Desc) (cfg : OutCfg) (blocks : List (List (List Byte))) (us : List (List Nat)) (z : Int) (scl : List Byte)
    (c : Nat) : OutVal :=
  let gs := (blocks.zip us).map fun p => ofInt32 (blockSum (d.wfmt == 4) d.multi z p.1 p.2 c)
  let ss := (List.range d.j).map fun j => f16 (fieldAt scl (2 * (c * d.j + j)) 2)
  outStage cfg (f16 d.outScale) (accum gs ss)

/-- The taint that the record of a stall's set carries, when the set is ADAPTED (02 Table 02.2). -/
def State.setTaint (s : State) (st : Nat) : Nat :=
  if s.getAt F.CIM_STALLs_STATE_ADAPTED st = 1 then
    s.getAt F.CIM_STALLs_STATE_TAINT_P st + 2 * s.getAt F.CIM_STALLs_STATE_TAINT_S st
  else 0

/-- The stalls whose record speaks for the set a CIM_MATMUL names: its own, or, computed from the digital image, every stall that carries
the set, a fenced one too (R316: fencing changes no taint). -/
def State.setCarriers (s : State) (st : Nat) (t : TileJob) (d : Desc) : List Nat :=
  if t.emul then (List.range 96).filter fun x => s.getAt F.CIM_STALLs_STATE_WSET x == d.wset else [st]

/-- CIM_MATMUL runs; where the offsets have not passed calibration each t is free. -/
def State.runCim (s : State) (st : Nat) (t : TileJob) (d : Desc) : State :=
  let m := s.tileMem t
  let scl := (d.scl' st).bytes m
  let z := lineCode d.uint (BitVec.ofNat 8 d.zpIn)
  let image := if t.emul then m.taint .loft (bitsOf d.emul 0 24) 0x4000 else 0
  let from_ := s.setCarriers st t d
  let adapted := from_.any fun x => s.getAt F.CIM_STALLs_STATE_ADAPTED x == 1
  let taint := from_.foldl (fun a x => a ||| s.setTaint x) ((d.src' st).taint m ||| (d.scl' st).taint m ||| image)
  let blocks := (List.range d.j).map (s.cimRows st m t d)
  let cfg := d.outCfg (t.scaleOf d)
  let vs := (d.vectors m st).zipIdx.map fun p =>
    let u := p.1.map (lineCode d.uint)
    let us := inRuns 64 (u ++ List.replicate (64 * d.j - u.length) z)
    (List.range d.m).map fun c =>
      if s.cimExact st t then cimOut d cfg blocks us z scl c
      else outFrom cfg (val32 (Config.freeWord (s.free + p.2 * d.m + c)))
  let s1 := s.when (!s.cimExact st t) fun s => { s with free := s.free + d.n * d.m }
  s1.putOutputs st { t with adapted := t.adapted || adapted } d taint (d.nonfinite scl) vs

/-- CIM_MATMUL (R296, R323). -/
def execCimMatmul (stall : Fin 96) (s : State) : Out :=
  done (s.onDesc stall 2 0 fun s t d =>
    s.reachStall stall ([d.src' stall, d.dst' stall, d.scl' stall]
        ++ (if t.emul then [⟨descLoc stall d.emul, 0x4000⟩] else [])) fun s =>
      s.penReady stall d fun s => s.runCim stall t d)

/-! VECTOR (R296, R330; log 48) -/

/-- The bytes a VECTOR descriptor computes from: its own, those at SRC, at WGT and at SCALES. -/
structure VecArgs where
  desc : List Byte
  src : List Byte
  wgt : List Byte
  scl : List Byte
deriving DecidableEq, Repr

/-- The scale of the slot that produced an operand, which the descriptor does not name: free (log 48). -/
def VecArgs.scale (a : VecArgs) (w : Nat) : Int := mag32 ((Config.vectorScale a.desc w).toNat % 2 ^ 31)

/-- Element `c` of vector `n` of SRC (operand 0) or, laid out as SRC is, of WGT (operand 1), as binary32: (code − ZP_IN) × the scale of the
slot that produced it (11 R321). -/
def VecArgs.elem (a : VecArgs) (d : Desc) (w n c : Nat) : Int :=
  let code := actVal d.uint (BitVec.ofNat 8 (byteAt (if w = 0 then a.src else a.wgt) (n * d.srcStride + c)))
  mul32 (ofInt32 (code - actVal d.uint (BitVec.ofNat 8 d.zpIn))) (a.scale w)

/-- t of output `c` of vector `n`: REQUANT passes the element on; ADD, MUL and MAX combine it with WGT's in binary32; LUT's is a
function of the table and the element's code, and those of the pools and SOFTMAX functions of all the operands. -/
def VecArgs.out (a : VecArgs) (d : Desc) (n c : Nat) : Int :=
  let free := val32 (Config.vectorOut [a.desc, a.src, a.wgt, a.scl] (n * d.m + c))
  if d.k ≤ c then free
  else match d.func with
    | 0 => a.elem d 0 n c
    | 1 => add32 (a.elem d 0 n c) (a.elem d 1 n c)
    | 2 => mul32 (a.elem d 0 n c) (a.elem d 1 n c)
    | 3 => max (a.elem d 0 n c) (a.elem d 1 n c)
    | 6 => val32 (Config.vectorOut [a.desc, a.scl, [byteAt a.src (n * d.srcStride + c)]] 0)
    | _ => free

/-- The operands of a VECTOR descriptor. -/
def State.vecArgs (s : State) (st : Nat) (t : TileJob) (d : Desc) : VecArgs :=
  let m := s.tileMem t
  { desc := s.descBytes t t.pos, src := (d.src' st).bytes m, wgt := (d.wgt' st).bytes m, scl := (d.scl' st).bytes m }

/-- VECTOR runs; steps 2 to 5 of the output stage follow. -/
def State.runVector (s : State) (st : Nat) (t : TileJob) (d : Desc) : State :=
  let m := s.tileMem t
  let a := s.vecArgs st t d
  let taint := (d.src' st).taint m ||| (if d.wgtLen = 0 then 0 else (d.wgt' st).taint m)
    ||| (if d.sclLen = 0 then 0 else (d.scl' st).taint m)
  let vs := (List.range d.n).map fun n => (List.range d.m).map fun c => outFrom (d.outCfg (t.scaleOf d)) (a.out d n c)
  s.putOutputs st t d taint 0 vs

/-- A VECTOR descriptor with FUNC `func`. -/
def State.vector (s : State) (st func : Nat) : State :=
  s.onDesc st 4 func fun s t d =>
    s.reachStall st [d.src' st, d.wgt' st, d.dst' st, d.scl' st] fun s => s.penReady st d fun s => s.runVector st t d

/-- The eight functions. -/
def execVecRequant (stall : Fin 96) (s : State) : Out := done (s.vector stall 0)
def execVecAdd (stall : Fin 96) (s : State) : Out := done (s.vector stall 1)
def execVecMul (stall : Fin 96) (s : State) : Out := done (s.vector stall 2)
def execVecMax (stall : Fin 96) (s : State) : Out := done (s.vector stall 3)
def execVecMaxpool (stall : Fin 96) (s : State) : Out := done (s.vector stall 4)
def execVecAvgpool (stall : Fin 96) (s : State) : Out := done (s.vector stall 5)
def execVecLut (stall : Fin 96) (s : State) : Out := done (s.vector stall 6)
def execVecSoftmax (stall : Fin 96) (s : State) : Out := done (s.vector stall 7)

/-! Room adaptation (11 R337 to R339) -/

/-- A block's parts at their offsets, with zeros between. -/
def placeParts (ps : List (Nat × List Byte)) : List Byte :=
  ps.foldl (fun acc p => acc ++ List.replicate (p.1 - acc.length) 0 ++ p.2) []

/-- Groups of a tensor whose scale was limited. -/
def limitedGroups (q : List (List Requant)) : Nat := ((q.flatten).filter (·.limited)).length

/-- Scales limited to 65,504 are counted and logged (R339). -/
def State.saturated11 (s : State) (st n : Nat) : State :=
  s.when (n != 0) fun s => (s.addAt F.NUM_COUNTS_SATURATED 0 n).ev 0x0906 st

/-- The codes of a requantised tensor, row by row. -/
def codeRows (q : List (List Requant)) : List (List Int) := q.map fun r => (r.map (·.codes)).flatten

/-- A block written for the tile, with the taint of its inputs; the range monitor watches its codes, a row being an output channel (R302;
log 223). -/
def State.putBlock (s : State) (st : Nat) (t : TileJob) (d : Desc) (taint : Nat) (codes : List (List Int)) (bytes : List Byte) : State :=
  let y := if d.env = 0xFF then s.stall st else (s.stall st).watchRows codes
  (s.setStall st y).descDone st { t with writes := t.writes ++ vecWrites (d.dst' st).loc 0 taint [bytes], taint := t.taint ||| taint } d

/-- The gradient of weight (m, k) over the vectors in ascending order (R337). -/
def gradOf (errs acts : List (List Int)) (scales : List Int) (m k : Nat) : Int :=
  ((errs.zip acts).zip scales).foldl (fun acc p =>
    add32 acc (mul32 (ofInt32 (p.1.1.getD m 0 * p.1.2.getD k 0)) p.2)) 0

/-- BACKWARD runs. -/
def State.runBackward (s : State) (st : Nat) (t : TileJob) (d : Desc) : State :=
  let m := s.tileMem t
  let errs := inRuns d.m (((d.wgt' st).bytes m).map fun b => b.toInt)
  let acts := (d.vectors m st).map (actOps d [])
  let sc := halves ((d.scl' st).bytes m)
  let rows := (List.range d.m).map fun i => (List.range d.k).map (gradOf errs acts (sc.map f16) i)
  let q := requantRows 127 (groupOf d.mode) rows
  let taint := (d.src' st).taint m ||| (d.wgt' st).taint m ||| (d.scl' st).taint m
  ((s.numFaults st (sc.filter bad16).length 0).saturated11 st (limitedGroups q)).putBlock st t d taint (codeRows q)
    (placeParts [(0, codeBytes q), (d.gradA, scaleBytes q)])

/-- BACKWARD (R337). -/
def execBackward (stall : Fin 96) (s : State) : Out :=
  done (s.onDesc stall 5 0 fun s t d =>
    s.reachStall stall [d.src' stall, d.wgt' stall, d.dst' stall, d.scl' stall] fun s =>
      s.penReady stall d fun s => s.runBackward stall t d)

/-- Values of a tensor part of a block. -/
def partVals (d : Desc) (b : List Byte) (codes scales : Nat) : List Int :=
  tensorVals (groupOf d.mode) d.k (slice b codes (d.m * d.k)) (halves (slice b scales (2 * d.m * d.j)))

/-- Non-finite group scales of a part. -/
def partBad (d : Desc) (b : List Byte) (scales : Nat) : Nat := ((halves (slice b scales (2 * d.m * d.j))).filter bad16).length

/-- UPDATE runs: mom = β × mom + grad, w = w − η × mom, requantised (R338, R339). -/
def State.runUpdate (s : State) (st : Nat) (t : TileJob) (d : Desc) : State :=
  let m := s.tileMem t
  let gb := (d.src' st).bytes m
  let sb := (d.wgt' st).bytes m
  let beta := f16 (s.get F.NUM_ADAPT_CFG_BETA)
  let mom := ((partVals d sb d.stV d.stVA).zip (partVals d gb 0 d.gradA)).map fun p => add32 (mul32 beta p.1) p.2
  let w := ((partVals d sb 0 d.stA).zip mom).map fun p => add32 p.1 (-(mul32 (f16 d.outScale) p.2))
  let g := groupOf d.mode
  let qw := requantRows 127 g (inRuns d.k w)
  let qv := requantRows 127 g (inRuns d.k mom)
  let bad := partBad d gb d.gradA + partBad d sb d.stA + partBad d sb d.stVA + b2n (bad16 d.outScale)
  let taint := (d.src' st).taint m ||| (d.wgt' st).taint m
  let s1 := match (d.dst' st).loc with
    | .mem .loft off => { s with cim := { s.cim with blocks := elPut (0, 0, 0) s.cim.blocks off (d.m, d.k, d.mode) } }
    | _ => s
  ((s1.numFaults st bad 0).saturated11 st (limitedGroups qw + limitedGroups qv)).putBlock st t d taint (codeRows qw ++ codeRows qv)
    (placeParts [(0, codeBytes qw), (d.stA, scaleBytes qw), (d.stB, List.replicate d.m 0), (d.stV, codeBytes qv),
      (d.stVA, scaleBytes qv)])

/-- UPDATE (R338). -/
def execUpdate (stall : Fin 96) (s : State) : Out :=
  done (s.onDesc stall 6 0 fun s t d =>
    s.reachStall stall [d.src' stall, d.wgt' stall, d.dst' stall] fun s =>
      s.penReady stall d fun s => s.runUpdate stall t d)

/-! EMIT (10 R296, R299; 02 R66, R67) -/

/-- A tile's job runs on a fallback chip (R310). -/
def State.remapped (s : State) (ring : Nat) : Bool :=
  match s.fab.jobs.find? fun j => j.firstRing ≤ ring && decide (ring < j.firstRing + j.rings) with
  | some j => s.get F.STL_GROUP_CHIP_ID != j.primary
  | none => false

/-- The Gate takes the record of a stall's EMIT, which completes (R67). -/
def State.takeEmit (s : State) (st : Nat) : State :=
  match (s.stall st).tile with
  | some t =>
    let d := readDesc (s.descBytes t t.pos)
    let s1 := s.gateCheck { bytes := t.record, taint := t.recTaint, adapted := t.adapted, yard := false,
                            slot := t.slot.getD 0, remapped := s.remapped t.ring }
    match (s1.stall st).tile with
    | some t1 => s1.descDone st { t1 with record := [] } d
    | none => s1
  | none => s

/-- A record in the Pen does not lie wholly within one slot of an enabled port (02 R83). -/
def State.recordSplit (s : State) (r : Region) : Bool :=
  match r.loc with
  | .pen off => (s.penSlotOf off r.len).isNone
  | _ => false

/-- EMIT: the record waits for the Gate, which takes it at once where an outbox entry is free. -/
def execEmit (stall : Fin 96) (s : State) : Out :=
  done (s.onDesc stall 15 0 fun s t d =>
    s.reachStall stall [d.src' stall] fun s => s.penReady stall d fun s =>
      let m := s.tileMem t
      let one : Region := ⟨(d.src' stall).loc, 1⟩
      let r : Region := ⟨one.loc, recLen (byteAt (one.bytes m) 0)⟩
      if !r.fits then s.rejectDesc stall 5
      else if s.recordSplit r then s.rejectDesc stall 3
      else s.reachStall stall [r] fun s =>
        let taint := t.taint ||| r.taint m
        let s1 := s.setStall stall { s.stall stall with
          tile := some { t with record := r.bytes m, recTaint := taint, taint := taint } }
        if s1.gateOpen then s1.takeEmit stall else s1)

/-- GATE_TAKE (R67): an outbox entry is free, and the Gate takes the record that the head of slot `h` holds. -/
def execGateTake (h : Fin 48) (s : State) : Out :=
  done (if s.gateOpen && s.isUp && s.coreOn then
    match (List.range 96).find? fun st => match (s.stall st).tile with
        | some t => t.slot == some (h : Nat) && t.record != []
        | none => false with
    | some st => s.takeEmit st
    | none => s
  else s)

/-! Tiles, errors, windows and watchdogs -/

/-- TILE_COMPLETE (R299): the tile's LAST descriptor has completed. -/
def execTileComplete (stall : Fin 96) (s : State) : Out :=
  done (match (s.stall stall).tile with
    | some t => if t.ended && s.isUp then s.endStallTile stall t.status else s
    | none => s)

/-- ECC_CORRECTED (R291). -/
def execEccCorrected (stall : Fin 96) (word : BitVec 14) (s : State) : Out :=
  done (if 0 < s.level (stall / 8) then
    ((s.incAt F.STL_STALLs_ECC_CORRECTED stall).setAt F.STL_STALLs_ECC_LAST_WORD stall word.toNat).ev 0x0802 stall
  else s)

/-- ECC_UNCORRECTABLE (R291, R314 cause 1). -/
def execEccUncorrectable (stall : Fin 96) (_word : BitVec 14) (s : State) : Out :=
  done (if 0 < s.level (stall / 8) then s.fence stall 1 else s)

/-- The out-of-envelope count of a window (R302). -/
def Envelope.outside (e : Envelope) (counts : List Nat) : Nat :=
  (counts.zipIdx.map fun p => if bitOf e.allowed p.2 then p.1 - 16 * e.max.getD p.2 0 else p.1).sum

/-- A closed window is evaluated (R303). -/
def State.evalWindow (s : State) (st : Nat) (w : WinDone) : State :=
  match s.fab.envs[w.env]? with
  | none => s
  | some e =>
    let n := e.outside w.counts
    let s1 := s.when (e.drift1 < n) fun s =>
      ((s.setAt F.STL_STALLs_STATUS_DRIFT1 st (setBitOf (s.getAt F.STL_STALLs_STATUS_DRIFT1 st) w.group true)).ev2 0x0810 st
        w.group).when w.cim fun s => s.columnDue st
    let x := s1.stall st
    let k := if e.drift2 < n then elGet 0 x.level2 w.group + 1 else 0
    (s1.setStall st { x with level2 := elPut 0 x.level2 w.group k }).when (3 ≤ k) fun s => s.fence st 3

/-- WINDOW_CLOSE (R302, R303): the oldest closed window of the group. -/
def execWindowClose (stall : Fin 96) (g : Nat) (s : State) : Out :=
  done (match (s.stall stall).closed.find? fun w => w.group == g with
    | some w => (s.setStall stall { s.stall stall with closed := (s.stall stall).closed.erase w }).evalWindow stall w
    | none => s)

/-- DESC_WATCHDOG (R314 cause 4, R315): a tile that has timed out before and was issued again ends with WATCHDOG, and its stall is not
fenced. -/
def execDescWatchdog (stall : Fin 96) (s : State) : Out :=
  done (match (s.stall stall).tile with
    | some t =>
      if !s.stallRuns stall || t.gated || t.ended then s
      else if t.again then
        (((s.setStall stall { s.stall stall with tile := none }).abandonTile stall t true).endAccess (.stall stall)).stallIdle stall
      else s.fence stall 4
    | none => s)

/-- The tile at the issue index of ring `i` is ready for unit `unit`, 0 a stall or 1 the Barn (14 R398, R401): a DATA ring's once the
previous one has completed, a TILE's or HEAD's with EARLY or a satisfied gate. -/
def State.tileReady (s : State) (i unit : Nat) : Bool :=
  let e := s.entryBytes i (s.ring i).ii
  s.armed i && s.pi i != (s.ring i).ii
    && (if s.getAt F.RNG_RINGi_CFG_KIND i = 1 then unit == 0 && !(s.ring i).tileOut
      else (byteAt e 0 == 1 && byteAt e 22 == unit || byteAt e 0 == 2 && unit == 0)
        && (fieldAt e 4 2 == 0xFFFF || bitOf (byteAt e 1) 1 || (s.ring i).gateOk || decide (fieldAt e 8 4 ≤ s.tally (fieldAt e 4 2))))

/-- A class-0 tile is ready for a stall: a re-issue, or an entry of a class-0 ring. -/
def State.c0Waits (s : State) : Bool :=
  s.fab.reissues.any (fun t => t.cls == 0) || s.armedRings.any fun i =>
    s.getAt F.RNG_RINGi_CFG_CLASS i == 0 && s.tileReady i 0

/-- No stall is free for class-0 work that any stall may run. -/
def State.c0Blocked (s : State) : Bool :=
  let t : TileJob := { ring := 0, idx := 0, cls := 0, first := 0 }
  !(List.range 96).any fun st => s.mayRun t st && s.stallFree t st && s.steadyAt (st / 8) 2

/-- No running tile that could be cut is of a lower class, which has the higher number (14 R406). -/
def State.lowestClass (s : State) (t : TileJob) : Bool :=
  s.fab.stalls.all fun p => match p.2.tile with
    | some x => x.cls ≤ t.cls || x.ended || p.2.cut.isSome || !s.stallRuns p.1
    | none => true

/-- TILE_CUT (14 R406, R407): class-0 work waits and no stall is free for it; the lowest-class running tile is cut and keeps its progress. -/
def execTileCut (stall : Fin 96) (s : State) : Out :=
  done (match (s.stall stall).tile with
    | some t =>
      if s.stallRuns stall && t.cls != 0 && !t.ended && (s.stall stall).cut.isNone && s.c0Waits && s.c0Blocked && s.lowestClass t then
        (s.setStall stall { s.stall stall with tile := none, cut := some t }).inc F.DSP_COUNTS_CUTS
      else s
    | none => s)

/-- C0_TOKEN_REFILL (14 R408). -/
def execC0TokenRefill (s : State) : Out :=
  done (if s.isUp && s.coreOn then
    s.set F.DSP_STATUS_C0_TOKENS (min (orOne (s.get F.DSP_C0_CFG_C0_BURST)) (s.get F.DSP_STATUS_C0_TOKENS + 1)) else s)

/-- C0_RUN_OVER (14 R408). -/
def execC0RunOver (stall : Fin 96) (s : State) : Out :=
  done (match (s.stall stall).tile with
    | some t =>
      if t.cls = 0 then
        ({ s with fab := { s.fab with c0Over := true } }.ev 0x0C06 t.ring).inc F.DSP_COUNTS_RUN_OVER
      else s
    | none => s)

end Sys2Proof.Machine
end

