-- ==== Sys2Proof/Machine/Cim.lean ====
section
/-! DEFINITION. Weights that stay (12): program-and-verify, wear, unverified rows, learning commits, column offsets. -/

namespace Sys2Proof.Machine

/-! Wear and marks (R353, R354) -/

/-- The wear counter of a row. -/
def State.rowWear (s : State) (st r : Nat) : Nat := elGet 0 s.cim.wear (256 * st + r)

/-- CIM_STALLs_WEAR shows the highest of a stall's rows. -/
def State.showWear (s : State) (st : Nat) : State :=
  s.setAt F.CIM_STALLs_WEAR_MAX_ROW st (satTo 32 ((List.range 256).foldl (fun m r => max m (s.rowWear st r)) 0))

/-- A programming operation on rows of a stall is counted: each row, and the operation (R354). -/
def State.addWear (s : State) (st : Nat) (rows : List Nat) : State :=
  ({ s with cim := { s.cim with wear := rows.foldl (fun w r => elPut 0 w (256 * st + r) (elGet 0 w (256 * st + r) + 1)) s.cim.wear } }.incAt
    F.CIM_STALLs_CYCLES_CYCLES st).showWear st

/-- The wear record failed its read-back: what it was to count has not been incurred. -/
def State.subWear (s : State) (st : Nat) (rows : List Nat) : State :=
  ({ s with cim := { s.cim with wear := rows.foldl (fun w r => elPut 0 w (256 * st + r) (elGet 0 w (256 * st + r) - 1)) s.cim.wear } }.setAt
    F.CIM_STALLs_CYCLES_CYCLES st (s.getAt F.CIM_STALLs_CYCLES_CYCLES st - 1)).showWear st

/-- ROW_MAX; 0 is 1. -/
def State.rowMax (s : State) : Nat := orOne (s.get F.CIM_BUDGET_ROW_MAX)

/-- The unverified rows of a stall. -/
def State.marked (s : State) (st : Nat) : List Nat := (s.cim.marks.filter fun x => x / 256 == st).map (· % 256)

/-- They become these. -/
def State.setMarks (s : State) (st : Nat) (rows : List Nat) : State :=
  { s with cim := { s.cim with marks := s.cim.marks.filter (fun x => x / 256 != st) ++ rows.map (256 * st + ·) } }.setAt
    F.CIM_STALLs_STATE_UNVERIFIED st (b2n (!rows.isEmpty))

/-! Program-and-verify (R351, R352, R364) -/

/-- A programming begins: the record row is written with VALID 0. -/
def State.beginProgram (s : State) (st : Nat) : State :=
  (({ s with cim := { s.cim with queue := without s.cim.queue st } }.unvalidate st).setAt F.CIM_STALLs_STATE_PROGRAMMING st 1).showCim

/-- The record that a job ends with: VALID, ADAPTED, P and S. -/
def ProgJob.record (j : ProgJob) : List Byte :=
  recordBytes j.origin j.wset j.format (1 + 2 * b2n j.adapted + 4 * (j.taint % 4)) j.commits

/-- The programming of a stall ends: event 0x0A01, and its column calibration is due (R358). -/
def State.finishProgram (s : State) (st : Nat) (j : ProgJob) : State :=
  let s1 := ((s.writeRows st j.rows).setMarks st []).putRecord st j.record
  let s2 := { s1 with cim := { s1.cim with
    jobs := s1.cim.jobs.filter (fun p => p.1 != st), targets := tblDrop s1.cim.targets (16384 * st) 16384 } }.setAt
    F.CIM_STALLs_STATE_PROGRAMMING st 0
  ((s2.showCim).ev2 0x0A01 st j.wset).columnDue st

/-- A stall fails verify beyond its retries at a row (R364): those before it are at their targets, its own levels are free. -/
def State.verifyFails (s : State) (st : Nat) (j : ProgJob) (row : Nat) : State :=
  ((((s.writeRows st (j.rows.filter (· < row))).spoilRows st [row]).dropJob st).ev2 0x0A02 st row).fence st 2

/-- Retries of rows, at most RETRIES each (R351). -/
def State.rowRetries (s : State) (st : Nat) (j : ProgJob) (l : List (BitVec 8 × Fin 4)) : State :=
  let most := min 3 (s.get F.CIM_CFG_RETRIES)
  s.each (l.filter fun p => j.rows.contains p.1.toNat) fun s p =>
    s.each (List.range (min most p.2)) fun s _ => (s.ev2 0x0A03 st p.1.toNat).inc F.CIM_COUNTS_RETRIES

/-- A program-and-verify run has ended with an outcome. -/
def State.programEnds (s : State) (st : Nat) (j : ProgJob) (m : ProgMeas) : State :=
  let s1 := s.rowRetries st j m.retried
  match m.failRow with
  | some r =>
    if j.rows.contains r.toNat then s1.verifyFails st j r.toNat
    else s1.finishProgram st j
  | none => s1.finishProgram st j

/-- A programming does not end in the time it has (R352): it fails verify at the row it has come to, the last where it has passed them
all. -/
def State.timesOut (s : State) (st : Nat) (j : ProgJob) : State :=
  s.draw.verifyFails st j ((s.rowsLeft j false).1.headD (j.rows.getLastD 0))

/-- The stall may begin to program: no tile in flight, and its wear recorded (R351; 03 R97). -/
def State.mayProgram (s : State) (st : Nat) : Bool :=
  (s.stall st).tile.isNone && (s.stall st).cut.isNone && !s.cim.recording.contains st

/-- A waiting stall's programming starts (R352): at most 24 at once, waiting stalls in ascending order; no pulse starts in Brace, which
defers it (06 R179, R180). -/
def State.startProgram (s : State) (st : Nat) : State :=
  if s.isUp && s.coreOn && !s.alarmHold && s.programming.length < 24
      && ((List.range 96).find? fun x => s.cim.queue.contains x && s.mayProgram x) == some st then
    if s.flag F.SUP_STATUS_BRACE then s.defer (.prog st)
    else s.access (.prog st) (st / 8) (fun s => s.beginProgram st) fun s => s.stopProgram st
  else s

/-- PROGRAM_START (R352). -/
def execProgramStart (stall : Fin 96) (s : State) : Out := done (s.startProgram stall)

/-- The stall is programming. -/
def State.isProgramming (s : State) (st : Nat) : Bool := s.programming.contains st

/-- PROGRAMMED (R351, R364). -/
def execProgrammed (stall : Fin 96) (meas : ProgMeas) (s : State) : Out :=
  done (match s.job stall with
    | some j => if s.isUp && s.isProgramming stall && !s.flag F.SUP_STATUS_BRACE then
        ((s.programEnds stall j meas).serveReissues).rowVotes else s
    | none => s)

/-- PROGRAM_TIMEOUT (R352, R364): 130 ms have passed, time in Brace excluded; the row is the one it has come to (log 56). -/
def execProgramTimeout (stall : Fin 96) (s : State) : Out :=
  done (match s.job stall with
    | some j => if s.isUp && s.isProgramming stall && !s.flag F.SUP_STATUS_BRACE then s.timesOut stall j else s
    | none => s)

/-! Interruption and verification (R353, R363; log 57) -/

/-- The programming of a stall stops where it is. Brace (`clamp` false) marks the row it interrupts and the programming goes on behind it; a
clamp of its ROW, or Run → Doze, marks every row left, and the programming waits for the next on level (R353, R363). -/
def State.interruptProgram (s : State) (st : Nat) (clamp : Bool) : State :=
  match s.job st with
  | some j =>
    if s.programming.contains st then
      let stood := clamp && s.flag F.SUP_STATUS_BRACE
      let p := s.rowsLeft j stood
      let s1 := s.haltRows st stood
      if clamp then
        (((s1.setJob st { j with rows := p.1, stopped := true }).setMarks st p.1).setAt F.CIM_STALLs_STATE_PROGRAMMING st 0).showCim
      else s1.setMarks st (p.1.filter fun r => (s.marked st).contains r || p.2 && p.1.head? == some r)
    else s
  | none => s

/-- Every programming of the stalls of some ROWs is interrupted. -/
def State.interruptRows (s : State) (rows : List Nat) (clamp : Bool) : State :=
  s.each (s.programming.filter fun st => rows.contains (st / 8)) fun s st => s.interruptProgram st clamp

/-- The marked rows of a stall are verified: those at their targets are unmarked, the others are programmed again without wear, event
0x0A07; then the programming goes on with what was left. -/
def State.reverify (s : State) (st : Nat) : State :=
  match s.job st with
  | some j =>
    let marks := s.marked st
    if (j.stopped || !marks.isEmpty && s.programming.contains st) && s.steadyAt (st / 8) 2 && !s.barred st then
      let again := marks.filter fun r => s.cimRow st r != s.targetRow st r
      let rows := j.rows.filter fun r => !marks.contains r || again.contains r
      let s1 := ((s.setMarks st again).setJob st { j with rows := rows, stopped := false }).when (!marks.isEmpty) fun s =>
        s.ev2 0x0A07 st again.length
      if rows.isEmpty then s1.finishProgram st { j with rows := [] }
      else if j.stopped then { s1 with cim := { s1.cim with queue := withIdx s1.cim.queue st } }.showCim
      else s1
    else s
  | none => s

/-- Every stall with an interrupted programming in a ROW that is on. -/
def State.reverifyAll (s : State) : State := s.each (List.range 96) fun s st => s.reverify st

/-! Learning commits (R355 to R357) -/

/-- The stalls of a set. -/
def WsetCfg.list (w : WsetCfg) : List Nat := (List.range 96).filter fun st => bitOf w.stalls st

/-- A commit is refused: event 0x0A05 with a stall and a cause; its request is consumed. -/
def State.refuseCommit (s : State) (w : WsetCfg) (st cause : Nat) : State :=
  (({ s with cim := { s.cim with waiting := without s.cim.waiting w.wset, commit := none } }.ev2 0x0A05 st cause |>.inc
    F.CIM_COUNTS_REFUSED).showCim).endAccess .commit

/-- The state block of a set: rows, columns and MODE of the UPDATE that last wrote it; else the whole set in groups of 64 (log 55). -/
def State.blockShape (s : State) (w : WsetCfg) : Nat × Nat × Nat :=
  let full := (if w.format = 4 then 128 else 256, 256, 1)
  match s.cim.blocks.find? fun p => p.1 == bitsOf w.stateAddr 0 24 with
  | some p => p.2
  | none => full

/-- Its descriptor form. -/
def blockDesc (m k mode : Nat) : Desc := { readDesc [] with m := m, k := k, mode := mode }

/-- 4 cells a byte. -/
def packCells : List Nat → List Byte
  | a :: b :: c :: d :: rest => BitVec.ofNat 8 (a + 4 * b + 16 * c + 64 * d) :: packCells rest
  | _ => []

/-- Row `r` of a set with the codes of part W put in: for CIM4 the levels H and L of q + 8, for CIM2 q + 2 (R357 step 2). -/
def adaptRow (cim4 : Bool) (m k r : Nat) (codes : List (List Int)) (old : List Byte) : List Byte :=
  if k ≤ r then old
  else packCells ((List.range 256).map fun c =>
    let o := if cim4 then c / 2 else c
    if m ≤ o then cellAt old c
    else
      let q := (codes.getD o []).getD r 0
      if cim4 then (if c % 2 = 0 then (q + 8).toNat / 4 else (q + 8).toNat % 4) else (q + 2).toNat)

/-- The projected wear of programming these rows exceeds the stall's limit (R355). -/
def State.wearOver (s : State) (st : Nat) (rows : List Nat) : Bool :=
  let limit := s.rowMax - 100 * s.get F.CIM_BUDGET_RESERVE
  rows.any (fun r => decide (limit < s.rowWear st r + 1)) || decide (limit < 2 * (s.getAt F.CIM_STALLs_CYCLES_CYCLES st + 1))

/-- What a commit gives one stall: its job, with the target levels. -/
def State.commitJob (s : State) (w : WsetCfg) (st taint : Nat) (rows : List Nat) (new : Nat → List Byte) : State :=
  let old := b2n (s.recFlag st 2) + 2 * b2n (s.recFlag st 3)
  let j : ProgJob := { rows := rows, origin := s.recOrigin st, wset := w.wset, format := w.format, adapted := true,
                       taint := old ||| taint, commits := satAdd 16 (s.recCommits st) 1 }
  let s1 := { s with cim := { s.cim with
    targets := rows.foldl (fun t r => tblPutRange (fun _ => (0 : Byte)) t (64 * (256 * st + r)) (new r)) s.cim.targets
    queue := withIdx s.cim.queue st } }
  (s1.setJob st j).addWear st rows

/-- Steps 2 to 5 of R357. -/
def State.commitFrom (s : State) (w : WsetCfg) (m k mode : Nat) : State :=
  let off := bitsOf w.stateAddr 0 24
  let d := blockDesc m k mode
  let b := s.mem.read .loft off d.stLen
  let taint := s.mem.taint .loft off d.stLen
  let cim4 := w.format == 4
  let q := requantRows (if cim4 then 7 else 1) 64 (inRuns k (partVals d b 0 d.stA))
  let codes := q.map fun r => (r.map fun x => x.codes).flatten
  let sts := w.list.filter fun st => !s.barred st
  let new := fun (st r : Nat) => adaptRow cim4 m k r codes (s.cimRow st r)
  let changed := fun (st : Nat) => (List.range 256).filter fun r => new st r != s.cimRow st r
  match sts.find? fun st => s.wearOver st (changed st) with
  | some st => s.refuseCommit w st 1
  | none =>
    let c : CommitSt := { wset := w.wset, scales := scaleBytes q, taint := taint
                          levels := ((List.range 256).map (new (sts.headD (w.list.headD 0)))).flatten }
    let s1 := { s with cim := { s.cim with waiting := without s.cim.waiting w.wset, commit := some c } }
    ((s1.each sts fun s st => s.commitJob w st taint (changed st) (new st)).recordWear sts).showCim

/-- Bytes of the Loft are on: `f`; their domain failed: `g`; else the access waits (05 R161). -/
def State.reachLoft (s : State) (off len : Nat) (f g : State → State) : State :=
  s.reach .commit .loft off (fun s => s.reach .commit .loft (off + len - 1) f g) g

/-- The interval of a set has elapsed, or it has no last commit (R356). -/
def State.intervalOver (s : State) (w : Nat) : Bool := !(s.cim.last.any fun p => p.1 == w) || s.cim.ended.contains w

/-- COMMIT_INTERVAL_END (R356). -/
def execCommitIntervalEnd (wset : BitVec 16) (s : State) : Out :=
  done (if s.cim.last.any fun p => p.1 == wset.toNat then
    { s with cim := { s.cim with ended := withIdx s.cim.ended wset.toNat } } else s)

/-- COMMIT (R356, R357 steps 1 to 5, R363): the waiting request of the lowest set whose interval has elapsed. -/
def execCommit (wset : BitVec 16) (s : State) : Out :=
  done (match s.cim.sets.find? fun w => w.wset == wset.toNat with
    | none => s
    | some w =>
      if s.isUp && s.coreOn && !s.alarmHold && s.cim.commit.isNone && s.cim.waiting.contains w.wset && s.intervalOver w.wset
          && s.cim.waiting.all (fun x => decide (w.wset ≤ x) || !s.intervalOver x) && w.list.all (fun st => (s.job st).isNone) then
        match w.list.find? s.reserved with
        | some st => s.refuseCommit w st 3
        | none =>
          let g := s.blockShape w
          let bad := fun s : State => s.refuseCommit w (w.list.headD 0) 5
          if bitsOf g.2.2 0 2 ≠ 1 ∨ 256 < g.2.1 then bad s
          else s.reachLoft (bitsOf w.stateAddr 0 24) (blockDesc g.1 g.2.1 g.2.2).stLen
            (fun s => s.commitFrom w g.1 g.2.1 g.2.2) bad
      else s)

/-- The wear record of the commit in progress failed its read-back: it is refused, cause 4. -/
def State.commitUnrecorded (s : State) : State :=
  match s.cim.commit with
  | none => s
  | some c =>
    match s.cim.sets.find? fun w => w.wset == c.wset with
    | none => s
    | some w =>
      (s.each s.cim.recording fun s st => match s.job st with
        | some j => ((s.subWear st j.rows).stopProgram st)
        | none => s).refuseCommit w (w.list.headD 0) 4

/-- The wear record of waiting stalls has been written, or has failed. -/
def State.wearRecorded (s : State) (ok : Bool) : State :=
  if s.cim.recording.isEmpty then s
  else
    let s1 := s.when (!ok) fun s => s.commitUnrecorded
    { s1 with cim := { s1.cim with recording := [] } }

/-- Step 6 of R357. -/
def State.commitEnds (s : State) (w : WsetCfg) (c : CommitSt) : State :=
  let m1 := s.mem.write .loft (bitsOf w.scaleDst 0 24) c.scales c.taint
  let m2 := if w.emulAddr = 0 then m1 else m1.write .loft (bitsOf w.emulAddr 0 24) c.levels c.taint
  let s1 := { s with mem := m2
                     cim := { s.cim with commit := none, last := elPut 0 s.cim.last w.wset (s.span.count.toNat + 1)
                                         ended := without s.cim.ended w.wset } }
  (((s1.ev 0x0A04 w.wset).inc F.CIM_COUNTS_COMMITS).showCim.serveReissues).rowVotes

/-- COMMIT_DONE (R357 step 6, R363): no stall of the set programs any more. -/
def execCommitDone (wset : BitVec 16) (s : State) : Out :=
  done (match s.cim.commit, s.cim.sets.find? fun w => w.wset == wset.toNat with
    | some c, some w =>
      if s.isUp && s.coreOn && c.wset == w.wset && s.cim.recording.isEmpty && w.list.all (fun st => (s.job st).isNone) then
        let f := fun s : State => s.commitEnds w c
        s.reachLoft (bitsOf w.scaleDst 0 24) c.scales.length
          (fun s => if w.emulAddr = 0 then f s else s.reachLoft (bitsOf w.emulAddr 0 24) 16384 f id) id
      else s
    | _, _ => s)

/-! Column offsets (R358, R359) -/

/-- The spread of 256 column means, each over 64 conversions, in 64ths of a code. -/
def sumSpread (l : List Int) : Nat := ((l.foldl max (l.headD 0)) - (l.foldl min (l.headD 0))).toNat

/-- A column calibration is rejected at a step. -/
def State.columnReject (s : State) (st : Fin 96) (step : Nat) : State :=
  (((s.ev2 0x0A10 st step).inc F.CIM_COUNTS_CAL_REJECTS).calReject (.column st)).setCalState st 4

/-- COLUMN_CAL (R359): precondition, measurement, plausibility, application. -/
def execColumnCal (stall : Fin 96) (meas : ColMeas) (s : State) : Out :=
  let sums := (List.range 256).map fun c => meas.sums.getD c 0
  let offs := sums.map fun x => rneDivInt x 64
  done (if s.isUp && s.coreOn && s.steadyAt (stall / 8) 2 && !s.flag F.SUP_STATUS_BRACE
      && s.getAt F.CIM_STALLs_STATE_CAL_STATE stall == 1 && s.getAt F.CIM_STALLs_STATE_PROGRAMMING stall == 0
      && (s.stall stall).tile.isNone && !(s.reserved stall && s.c0Waits) then
    if !meas.quiet || decide (64 * orOne (s.get F.CIM_CFG_SPREAD_MAX) < sumSpread sums) then s.columnReject stall 1
    else if offs.any fun x => decide (24 < x.natAbs) then s.columnReject stall 3
    else
      let tab := tblPutRange (fun _ => (0 : BitVec 16)) s.cim.offsets (256 * stall) (offs.map (BitVec.ofInt 16))
      (((({ s with cim := { s.cim with offsets := tab } }.setAt F.CIM_STALLs_STATE_OFFSET_SOURCE stall 1).calPass
        (.column stall)).setCalState stall 3).calChanged)
  else s)

/-- CIM_CAL_PERIOD (R358): PERIOD_S has elapsed while the ROW was on. -/
def execCimCalPeriod (stall : Fin 96) (s : State) : Out :=
  done (if s.isUp && s.steadyAt (stall / 8) 2 then s.columnDue stall else s)

end Sys2Proof.Machine
end

