-- ==== Sys2Proof/Machine/Yard.lean ====
section
/-! DEFINITION. The Watch Yard: slots, watch-program instructions, feature and net units, detectors, the wake action
(07 R207 to R231), and the triggers that start slots (08 R241; 09 R261, R262). -/

namespace Sys2Proof.Machine

/-! Slots -/

/-- Slot `i`. -/
def State.slot (s : State) (i : Nat) : YardSlot := elGet {} s.yard.slots i

/-- Set it. -/
def State.setSlot (s : State) (i : Nat) (x : YardSlot) : State :=
  { s with yard := { s.yard with slots := elPut {} s.yard.slots i x } }

/-- Its configuration. -/
def State.slotCfg (s : State) (i : Nat) : SlotCfg := elGet {} s.yard.cfg i

/-- Bit `b` of its FLAGS: 0 ENABLE, 1 LOG_DETECT, 2 WAKE_LATCHED, 3 WAKE_PIN. -/
def State.slotFlag (s : State) (i b : Nat) : Bool := bitOf (s.getAt F.YRD_SLOTn_TRIG_FLAGS i) b

/-- The Yard runs: YCLK runs and a start has ended (R207). -/
def State.yardRuns (s : State) : Bool := s.isUp && s.span.running

/-- An address range lies in the data space (R208, R213). -/
def inData (a n : Nat) : Bool := 0x8000 ≤ a && a + n ≤ 0x20000

/-- Vote slot 1 of each domain is the maximum over the 16 slots of VOTE and WAKE settings (R217). -/
def State.yardVote (s : State) (d : Nat) : Nat :=
  (List.range 16).foldl (fun m i => max m (max (elGet 0 (s.slot i).votes d) (elGet 0 (s.slot i).wakes d))) 0

/-- Vote slot 1 follows the slots. -/
def State.syncVotes (s : State) : State :=
  s.putVotes 1 ((List.range 24).filter fun d => s.voteSlot d 1 != s.yardVote d) s.yardVote

/-- A slot faults (R228): it stops until the next start, its votes are withdrawn, event 0x0402. -/
def State.slotFault (s : State) (i cause : Nat) : State :=
  ((((s.setSlot i { s.slot i with phase := .faulted, votes := [], wakes := [] }).setAt F.YRD_SLOTn_STAT_FAULT i
    cause)).syncVotes).ev2 0x0402 i cause

/-- A run of slot `i` starts at instruction 0 (R209), with registers, flags and run taint cleared. A slot in a run stays in
it; `miss` counts the overrun (R224). -/
def State.startRun (s : State) (i : Nat) (miss : Bool) : State :=
  if !s.yardRuns || !bitOf (s.get F.YRD_CFG_SLOT_EN) i then s
  else match (s.slot i).phase with
    | .faulted => s
    | .idle =>
      let x := s.slot i
      (s.setSlot i { phase := .running, votes := x.votes, wakes := x.wakes, det := x.det, margin := x.margin }).incAt
        F.YRD_SLOTn_STAT_RUNS i
    | _ => s.when miss fun s => (s.incAt F.YRD_SLOTn_STAT_OVERRUNS i).ev 0x0403 i

/-- SLOT_TIMER (R209): slots with a PERIOD. -/
def execSlotTimer (slot : Fin 16) (s : State) : Out :=
  done (if s.getAt F.YRD_SLOTn_PERIOD_PERIOD slot = 0 then s else s.startRun slot true)

/-- Slots whose trigger is of kind `k` and index `x` start (R209), in ascending order. -/
def State.trigger (s : State) (k x : Nat) : State :=
  s.each ((List.range 16).filter fun i =>
    s.getAt F.YRD_SLOTn_TRIG_TRIGGER i == k && s.getAt F.YRD_SLOTn_TRIG_TRIG_INDEX i == x) fun s i => s.startRun i true

/-- A WAIT of kind `k` and argument `x` in progress sees its event. -/
def State.meet (s : State) (k x : Nat) : State :=
  s.each ((List.range 16).filter fun i => (s.slot i).phase == .waiting k x) fun s i =>
    s.setSlot i { s.slot i with met := true }

/-! Instructions (R212, Table 07.2) -/

/-- The instruction word at a slot's pc. -/
def State.slotWord (s : State) (i : Nat) : Nat := leNat (s.yardRead (0x400 * i + 4 * (s.slot i).pc) 4)

/-- Its fields. -/
def opOf (w : Nat) : Nat := bitsOf w 24 8
def dOf (w : Nat) : Nat := bitsOf w 20 4
def sOf (w : Nat) : Nat := bitsOf w 16 4
def immOf (w : Nat) : Nat := bitsOf w 0 16

/-- IMM sign-extended. -/
def simmOf (w : Nat) : Word := sext16 (BitVec.ofNat 16 (immOf w))

/-- A register of a slot. -/
def YardSlot.gReg (x : YardSlot) (r : Nat) : Word := elGet 0 x.g r

/-- Set it. -/
def YardSlot.setG (x : YardSlot) (r : Nat) (v : Word) : YardSlot := { x with g := elPut 0 x.g r v }

/-- The slot goes to instruction `t`; out of a loop body the loop ends. -/
def YardSlot.goto (x : YardSlot) (t : Nat) : YardSlot :=
  { x with pc := t, loopLeft := if x.loopAt ≤ t ∧ t < x.loopEnd then x.loopLeft else 0 }

/-- The slot goes on behind its instruction; at the end of a loop body the next iteration begins at no cost. -/
def YardSlot.advance (x : YardSlot) : YardSlot :=
  if x.loopLeft ≠ 0 ∧ x.pc + 1 = x.loopEnd then
    (if 1 < x.loopLeft then { x with pc := x.loopAt, loopLeft := x.loopLeft - 1 }
     else { x with pc := x.pc + 1, loopLeft := 0 })
  else { x with pc := x.pc + 1 }

/-- The slot issues its instruction and takes `n` cycles, or faults where they exceed CYCLE_MAX (R228 cause 5). -/
def State.charge (s : State) (i n : Nat) (f : State → State) : State :=
  let x := s.slot i
  if (s.slotCfg i).cycleMax < x.cycles + n then s.slotFault i 5
  else f ((s.setSlot i { x with cycles := x.cycles + n }).inc F.YRD_ENGINE_CYCLES)

/-- Slot `i` is the lowest-numbered one that is ready: it runs, and neither waits nor has an operation in a unit (R210). -/
def State.slotReady (s : State) (i : Nat) : Bool :=
  (s.slot i).phase == .running && (List.range i).all fun k => (s.slot k).phase != .running

/-- The instruction of slot `i` issues as opcode `op`: nothing unless the engine serves the slot and its word has that opcode; a word
past LENGTH, an opcode from 0x18 on and a field out of range fault (R228). -/
def State.instr (s : State) (i op : Nat) (ok : Nat → Bool) (f : State → Nat → State) : State :=
  if s.yardRuns && s.slotReady i then
    let w := s.slotWord i
    if (s.slotCfg i).length ≤ (s.slot i).pc then s.slotFault i 4
    else if 0x18 ≤ opOf w then s.slotFault i 1
    else if opOf w ≠ op then s
    else if ok w then f s w
    else s.slotFault i 1
  else s

/-- Change a slot and go on behind its instruction. -/
def State.slotNext (s : State) (i : Nat) (f : YardSlot → YardSlot) : State := s.setSlot i (f (s.slot i)).advance

/-- No field but OP is used. -/
def onlyOp (w : Nat) : Bool := bitsOf w 0 24 == 0

/-- HALT: the run ends. -/
def execHalt (slot : Fin 16) (s : State) : Out :=
  done (s.instr slot 0x00 onlyOp fun s _ => s.charge slot 1 fun s =>
    s.setSlot slot { s.slot slot with phase := .idle })

/-- The condition of a WAIT of kind `k` holds now. -/
def State.waitMet (s : State) (i k x : Nat) : Bool :=
  match k with
  | 0 => s.portIdle x
  | 1 => s.portInt x || (s.slot i).met
  | 2 => true
  | _ => (s.slot i).met

/-- WAIT kinds and their arguments: a port or pattern; any count; none. -/
def waitOk (w : Nat) : Bool :=
  sOf w == 0 && (match dOf w with
    | 0 => immOf w < 8
    | 1 => immOf w < 8
    | 2 => true
    | 3 => immOf w < 8
    | 4 => immOf w == 0
    | _ => false)

/-- The WAIT ends: of the kinds that WAIT_MAX also ends, 0, 1, 3 and 4, "the first four" of Table 07.2 (DEDUCED, log 214), one ended by
WAIT_MAX sets TIMEOUT and any other end clears it; kind 2 leaves it. -/
def State.endWait (s : State) (i k : Nat) (late : Bool) : State :=
  s.slotNext i fun x => { x with phase := .running, met := false, timeout := if k = 2 then x.timeout else late }

/-- WAIT (Table 07.2): a port already idle or active, and a count of 0, end it at once. -/
def execWait (slot : Fin 16) (s : State) : Out :=
  done (s.instr slot 0x01 waitOk fun s w => s.charge slot 1 fun s =>
    let k := dOf w
    let x := immOf w
    if (k < 2 && s.waitMet slot k x) || (k == 2 && x == 0) then s.endWait slot k false
    else s.setSlot slot { s.slot slot with phase := .waiting k x, met := false })

/-- WAIT_END: the condition is met. -/
def execWaitEnd (slot : Fin 16) (s : State) : Out :=
  done (match (s.slot slot).phase with
    | .waiting k x => if s.yardRuns && s.waitMet slot k x then s.endWait slot k false else s
    | _ => s)

/-- WAIT_TIMEOUT: WAIT_MAX has elapsed; kind 2 has none. -/
def execWaitTimeout (slot : Fin 16) (s : State) : Out :=
  done (match (s.slot slot).phase with
    | .waiting k _ => if s.yardRuns && k != 2 then s.endWait slot k true else s
    | _ => s)

/-- A SAMPLE starts its script (R211: P enters the run taint); on a port that is busy or not READY it waits. -/
def State.sampleNow (s : State) (i w : Nat) : State :=
  let p := dOf w
  if s.portReady p && s.portIdle p then
    (s.slotNext i fun x => { x with phase := .running }).startScript p (immOf w) none false
  else s.setSlot i { s.slot i with phase := .sampling }

/-- SAMPLE: issues, or starts the script it waited to start. -/
def execSample (slot : Fin 16) (s : State) : Out :=
  done (if s.yardRuns && (s.slot slot).phase == .sampling then s.sampleNow slot (s.slotWord slot)
  else s.instr slot 0x02 (fun w => dOf w < 8 && sOf w == 0 && immOf w < 8) fun s w => s.charge slot 2 fun s =>
    (s.setSlot slot { s.slot slot with taint := (s.slot slot).taint ||| 1 }).sampleNow slot w)

/-- The word address of a LOAD or STORE: Gs plus the sign-extended offset. -/
def State.dataAddr (s : State) (i w : Nat) : Nat := ((s.slot i).gReg (sOf w) + simmOf w).toNat

/-- Register operands D and S. -/
def regsOk (w : Nat) : Bool := dOf w < 8 && sOf w < 8

/-- An aligned word of the data space, or fault cause 2 (R213). -/
def State.atData (s : State) (i w : Nat) (f : State → Nat → State) : State :=
  let a := s.dataAddr i w
  if a % 4 = 0 && inData a 4 then f s a else s.slotFault i 2

/-- LOAD. -/
def execLoad (slot : Fin 16) (s : State) : Out :=
  done (s.instr slot 0x03 regsOk fun s w => s.atData slot w fun s a => s.charge slot 2 fun s =>
    s.slotNext slot fun x =>
      { x.setG (dOf w) (BitVec.ofNat 32 (leNat (s.yardRead a 4))) with taint := x.taint ||| s.mem.taint .yard a 4 })

/-- STORE, with the run taint (R211). -/
def execYardStore (slot : Fin 16) (s : State) : Out :=
  done (s.instr slot 0x04 regsOk fun s w => s.atData slot w fun s a => s.charge slot 2 fun s =>
    (s.yardWrite a (leBytes 4 ((s.slot slot).gReg (dOf w)).toNat) (s.slot slot).taint).slotNext slot id)

/-- MOVI. -/
def execMovi (slot : Fin 16) (s : State) : Out :=
  done (s.instr slot 0x05 (fun w => dOf w < 8 && sOf w ≤ 2) fun s w => s.charge slot 1 fun s =>
    s.slotNext slot fun x =>
      x.setG (dOf w) (if sOf w = 0 then BitVec.ofNat 32 (immOf w)
        else if sOf w = 1 then BitVec.ofNat 32 (immOf w * 65536 + (x.gReg (dOf w)).toNat % 65536)
        else simmOf w))

/-- D names a register; S one, with IMM unused, or 8 for IMM. -/
def aluOk (w : Nat) : Bool := dOf w < 8 && (sOf w == 8 || (sOf w < 8 && immOf w == 0))

/-- The second operand. -/
def YardSlot.operand (x : YardSlot) (w : Nat) : Word := if sOf w = 8 then simmOf w else x.gReg (sOf w)

/-- Gd takes `f` of Gd and the operand. -/
def State.alu (s : State) (i op cycles : Nat) (f : Word → Word → Word) : State :=
  s.instr i op aluOk fun s w => s.charge i cycles fun s =>
    s.slotNext i fun x => x.setG (dOf w) (f (x.gReg (dOf w)) (x.operand w))

/-- ADD, SUB, MUL, AND, OR. -/
def execAdd (slot : Fin 16) (s : State) : Out := done (s.alu slot 0x06 1 fun a b => a + b)
def execSub (slot : Fin 16) (s : State) : Out := done (s.alu slot 0x07 1 fun a b => a - b)
def execMul (slot : Fin 16) (s : State) : Out := done (s.alu slot 0x08 4 fun a b => a * b)
def execAnd (slot : Fin 16) (s : State) : Out := done (s.alu slot 0x09 1 fun a b => a &&& b)
def execOr (slot : Fin 16) (s : State) : Out := done (s.alu slot 0x0A 1 fun a b => a ||| b)

/-- The shift amount IMM[5:0], signed. -/
def shiftBy (w : Nat) : Int := signed 6 (immOf w)

/-- SHIFT: left for a positive amount, arithmetically right for a negative one. -/
def shifted (v : Word) (n : Int) : Word := if 0 ≤ n then v <<< n.toNat else v.sshiftRight (-n).toNat

/-- SHIFT. -/
def execShift (slot : Fin 16) (s : State) : Out :=
  done (s.instr slot 0x0B (fun w => dOf w < 8 && sOf w == 0 && immOf w < 64 && immOf w != 32) fun s w =>
    s.charge slot 1 fun s => s.slotNext slot fun x => x.setG (dOf w) (shifted (x.gReg (dOf w)) (shiftBy w)))

/-- CMP. -/
def execCmp (slot : Fin 16) (s : State) : Out :=
  done (s.instr slot 0x0C aluOk fun s w => s.charge slot 1 fun s => s.slotNext slot fun x =>
    let c := cmpFlags (x.gReg (dOf w)) (x.operand w)
    { x with lt := c.1, eq := c.2.1, gt := c.2.2 })

/-- The conditions of BR. -/
def YardSlot.cond (x : YardSlot) (c : Nat) : Bool :=
  match c with
  | 0 => true
  | 1 => x.eq
  | 2 => !x.eq
  | 3 => x.lt
  | 4 => !x.lt
  | 5 => x.gt
  | 6 => !x.gt
  | 7 => x.active
  | 8 => x.rose
  | 9 => x.fell
  | 10 => x.timeout
  | _ => x.full

/-- BR. -/
def execBr (slot : Fin 16) (s : State) : Out :=
  done (s.instr slot 0x0D (fun w => dOf w ≤ 11 && sOf w == 0 && immOf w < 256) fun s w =>
    if (s.slot slot).cond (dOf w) then
      s.charge slot 2 fun s => s.setSlot slot ((s.slot slot).goto (immOf w))
    else s.charge slot 1 fun s => s.slotNext slot id)

/-- LOOPN: cause 3 inside a body, cause 4 for a body past LENGTH. -/
def execLoopn (slot : Fin 16) (s : State) : Out :=
  done (s.instr slot 0x0E (fun w => dOf w == 0 && sOf w == 0 && 256 ≤ immOf w) fun s w =>
    let len := immOf w / 256
    let n := immOf w % 256
    if (s.slot slot).loopLeft ≠ 0 then s.slotFault slot 3
    else if n ≠ 0 ∧ (s.slotCfg slot).length < (s.slot slot).pc + 1 + len then s.slotFault slot 4
    else s.charge slot 1 fun s =>
      let x := s.slot slot
      s.setSlot slot (if n = 0 then { x with pc := x.pc + 1 + len }
        else { x with pc := x.pc + 1, loopAt := x.pc + 1, loopEnd := x.pc + 1 + len, loopLeft := n }))

/-! Feature unit (R214) -/

/-- A feature descriptor (Table 07.3). -/
structure FeatDesc where
  src : Nat
  dst : Nat
  aux : Nat
  count : Nat
  width : Nat
  shift : Nat
deriving DecidableEq, Repr

/-- Descriptor `k` of slot `i`. -/
def State.featDesc (s : State) (i k : Nat) : FeatDesc :=
  let b := s.yardRead (0x7000 + 0x80 * i + 16 * k) 16
  { src := fieldAt b 0 4, dst := fieldAt b 4 4, aux := fieldAt b 8 4, count := fieldAt b 12 2,
    width := byteAt b 14, shift := byteAt b 15 }

/-- Output bytes of an operation. -/
def FeatDesc.outLen (f : FeatDesc) (op : Nat) : Nat := if op < 3 then ceilDiv f.count f.aux else f.count

/-- Its fields lie in their ranges. -/
def FeatDesc.ok (f : FeatDesc) (op : Nat) : Bool :=
  1 ≤ f.count && f.count ≤ 4096 && 1 ≤ f.width && f.width ≤ 2 && f.shift ≤ 15
    && (if op < 3 then 1 ≤ f.aux else if op = 4 then f.aux ≤ 3 && f.count == 40 else true)

/-- Its addresses lie in the data space; LOGMEL names no source. -/
def FeatDesc.inSpace (f : FeatDesc) (op : Nat) : Bool :=
  inData f.dst (f.outLen op) && (op == 4 || inData f.src (f.count * f.width))
    && (!(op == 3 || op == 5) || inData f.aux (f.count * f.width))

/-- Engine cycles (Table 07.4). -/
def FeatDesc.cycles (f : FeatDesc) (op : Nat) : Nat :=
  if op = 1 then 4 + 2 * f.count else if op = 4 then 44 else 4 + f.count

/-- FEAT: the unit serves it, or it waits (R210). -/
def execFeat (slot : Fin 16) (s : State) : Out :=
  done (s.instr slot 0x0F (fun w => dOf w ≤ 5 && sOf w == 0 && immOf w < 8) fun s w =>
    let f := s.featDesc slot (immOf w)
    if !f.ok (dOf w) then s.slotFault slot 1
    else if !f.inSpace (dOf w) then s.slotFault slot 2
    else s.charge slot (f.cycles (dOf w)) fun s =>
      if s.yard.featUnit.isNone then
        { s with yard := { s.yard with featUnit := some slot } }.setSlot slot
          { s.slot slot with phase := .operating false }
      else s.setSlot slot { s.slot slot with phase := .wanting false })

/-- The bytes an operation gives; `picks` are the free choices of unrounded quotients (log 14). -/
def State.featOut (s : State) (f : FeatDesc) (op : Nat) : List Byte :=
  let src := elements f.width (s.yardRead f.src (f.count * f.width))
  let old := elements f.width (s.yardRead f.aux (f.count * f.width))
  if op < 3 then ((windows f.aux f.count src).zipIdx).map fun p =>
    windowStat op f.shift p.1 (Config.freeWord (s.free + p.2))
  else if op = 4 then (s.logmelBytes f.aux).map fun b => BitVec.ofInt 8 (b.toInt / (2 ^ f.shift : Nat))
  else (src.zip old).map fun p => deltaOf op f.shift p.1 p.2

/-- The taint of what an operation reads; a microphone's frames carry S (02 R58). -/
def State.featTaint (s : State) (f : FeatDesc) (op : Nat) : Nat :=
  if op = 4 then 2
  else s.mem.taint .yard f.src (f.count * f.width)
    ||| (if op = 3 ∨ op = 5 then s.mem.taint .yard f.aux (f.count * f.width) else 0)

/-- The lowest waiting slot takes a free unit (R210). -/
def State.serveUnit (s : State) (net : Bool) : State :=
  match (List.range 16).find? fun i => (s.slot i).phase == .wanting net with
  | some i =>
    (if net then { s with yard := { s.yard with netUnit := some i } }
     else { s with yard := { s.yard with featUnit := some i } }).setSlot i { s.slot i with phase := .operating net }
  | none =>
    if net then { s with yard := { s.yard with netUnit := none } } else { s with yard := { s.yard with featUnit := none } }

/-- FEAT_DONE: output and, for DELTA and TDIFF, the source copied to AUX, with the run taint. -/
def execFeatDone (s : State) : Out :=
  done (match s.yard.featUnit with
    | some i =>
      if s.yardRuns && (s.slot i).phase == .operating false then
        let w := s.slotWord i
        let op := dOf w
        let f := s.featDesc i (immOf w)
        let t := (s.slot i).taint ||| s.featTaint f op
        let src := s.yardRead f.src (f.count * f.width)
        let s1 := { s with free := s.free + f.count }.yardWrite f.dst (s.featOut f op) t
        let s2 := s1.when (op == 3 || op == 5) fun s => s.yardWrite f.aux src t
        (s2.slotNext i fun x => { x with phase := .running, taint := t }).serveUnit false
      else s.serveUnit false
    | none => s)

/-! Net unit and detectors (R215, R216) -/

/-- The base of a slot's net and its layers. -/
def State.slotNet (s : State) (i : Nat) : Option (Nat × Nat) :=
  let n := (s.slotCfg i).net
  if n = 0xFF then none else some (0x20000 + (elGet {} s.yard.nets n).off, (elGet {} s.yard.nets n).layers)

/-- NET: cause 6 without a net, cause 2 for a vector or scores outside the data space. -/
def execNet (slot : Fin 16) (s : State) : Out :=
  done (s.instr slot 0x10 (fun w => dOf w == 0 && sOf w < 8) fun s w =>
    match s.slotNet slot with
    | none => s.slotFault slot 6
    | some (base, layers) =>
      if inData ((s.slot slot).gReg (sOf w)).toNat (netIn s.mem base) && inData (immOf w) (netOut s.mem base layers) then
        s.charge slot (netCycles s.mem base layers) fun s =>
          if s.yard.netUnit.isNone then
            { s with yard := { s.yard with netUnit := some slot } }.setSlot slot
              { s.slot slot with phase := .operating true }
          else s.setSlot slot { s.slot slot with phase := .wanting true }
      else s.slotFault slot 2)

/-- Trues among a history. -/
def countTrue (l : List Bool) : Nat := (l.filter id).length

/-- One evaluation of a detector (R216): the detector, ROSE and FELL. -/
def Detector.eval (x : Detector) (c : SlotCfg) (cls margin : Nat) : Detector × Bool × Bool :=
  let hit := bitOf c.mask cls && c.thresh ≤ margin
  let hits := (hit :: x.hits).take c.m
  if x.active then
    let holds := ((cls == x.cls && min c.hold c.thresh ≤ margin) :: x.holds).take c.m
    if countTrue holds < c.n then ({ x with active := false, hits := hits, holds := holds }, false, true)
    else ({ x with hits := hits, holds := holds }, false, false)
  else if c.n ≤ countTrue hits then
    ({ active := true, cls := cls, hits := hits, holds := List.replicate c.m true }, true, false)
  else ({ x with hits := hits }, false, false)

/-- The wake votes of a level-mode slot are withdrawn (R217). -/
def State.dropWakes (s : State) (i : Nat) : State :=
  if s.slotFlag i 2 then s else (s.setSlot i { s.slot i with wakes := [] }).syncVotes

/-- The evaluation of a NET: detector, flags, events and level-mode votes. -/
def State.detect (s : State) (i cls margin : Nat) : State :=
  let r := (s.slot i).det.eval (s.slotCfg i) cls margin
  let s1 := s.setSlot i { s.slot i with det := r.1, active := r.1.active, rose := r.2.1, fell := r.2.2 }
  (s1.when (r.2.1 && s.slotFlag i 1) fun s => s.ev 0x0404 i).when r.2.2 fun s =>
    (s.when (s.slotFlag i 1) fun s => s.ev 0x0405 i).dropWakes i

/-- NET_DONE: scores with the run taint, G6, G7 and the detector. -/
def execNetDone (s : State) : Out :=
  done (match s.yard.netUnit with
    | some i =>
      match s.slotNet i with
      | some (base, layers) =>
        if s.yardRuns && (s.slot i).phase == .operating true then
          let w := s.slotWord i
          let a := ((s.slot i).gReg (sOf w)).toNat
          let n := netIn s.mem base
          let y := netRun s.mem base layers (s.yardRead a n)
          let t := (s.slot i).taint ||| s.mem.taint .yard a n
          let c := topClass y
          let m := scoreMargin y
          let s1 := s.yardWrite (immOf w) y t
          let s2 := s1.setSlot i
            { ((s1.slot i).setG 6 (BitVec.ofNat 32 c)).setG 7 (BitVec.ofNat 32 m) with
              phase := .running, taint := t, margin := m }
          ((s2.detect i c m).slotNext i id).serveUnit true
        else s.serveUnit true
      | none => s.serveUnit true
    | none => s)

/-! Votes, wakes and the rest (R217 to R220) -/

/-- VOTE: in latched mode it also changes the domain's wake setting (R217). -/
def execVote (slot : Fin 16) (s : State) : Out :=
  done (s.instr slot 0x11 (fun w => dOf w ≤ 2 && sOf w == 0 && immOf w < 24) fun s w => s.charge slot 1 fun s =>
    let x := s.slot slot
    let s1 := s.setSlot slot { x with votes := elPut 0 x.votes (immOf w) (dOf w)
                                      wakes := if s.slotFlag slot 2 then elPut 0 x.wakes (immOf w) 0 else x.wakes }
    (s1.syncVotes).slotNext slot id)

/-- Entries of the wake queue. -/
def State.queued (s : State) : Nat := s.get F.YRD_WAKE_QUEUED

/-- The wake record of slot `i` (Table 07.5). -/
def State.wakeRecord (s : State) (i : Nat) : List Byte :=
  let x := s.slot i
  leBytes 8 s.span.count.toNat ++ [BitVec.ofNat 8 i, BitVec.ofNat 8 (if x.det.active then x.det.cls else 0xFF),
    BitVec.ofNat 8 x.margin, BitVec.ofNat 8 s.pwr.state] ++ leBytes 2 s.yard.wseq.toNat ++ leBytes 2 (s.slotCfg i).ring
    ++ List.replicate 48 0

/-- Steps 2 and 3 of WAKE (R218): the record joins the queue with the run taint; WAKE_OUT where WAKE_PIN is set. -/
def State.queueWake (s : State) (i : Nat) : State :=
  let q := s.queued
  let s1 := s.yardWrite (0x6000 + 64 * ((s.yard.wakeRd + q) % 64)) (s.wakeRecord i) (s.slot i).taint
  let s2 := { s1 with yard := { s1.yard with wseq := s1.yard.wseq + 1 } }.set F.YRD_WAKE_QUEUED (q + 1)
  (s2.when (s.slotFlag i 3) fun s => s.set F.YRD_WAKE_WAKE_OUT 1).slotNext i fun x => { x with phase := .running }

/-- A WAKE stalls at step 2, behind those that stand there already. -/
def State.stallWake (s : State) (i : Nat) : State :=
  { s with yard := { s.yard with stalled := withIdx s.yard.stalled i } }.setSlot i { s.slot i with phase := .wakeStalled }

/-- WAKE (R218, R225). -/
def execWake (slot : Fin 16) (s : State) : Out :=
  done (s.instr slot 0x12 onlyOp fun s _ => s.charge slot 3 fun s =>
    let v := (s.slotCfg slot).wakeVotes
    let wakes := (List.range 24).foldl (fun t d => elPut 0 t d (bitsOf v (2 * d) 2)) []
    let s1 := ((((s.setSlot slot { s.slot slot with wakes := wakes }).set F.YRD_WAKE_LAST_SLOT slot).inc
      F.YRD_WAKE_COUNT_WAKES).syncVotes).ev 0x0406 slot
    if s1.queued < 64 && s1.yard.stalled.isEmpty then s1.queueWake slot
    else ((s1.stallWake slot).inc F.YRD_WAKE_COUNT_STALLS).ev 0x0407 slot)

/-- WAKE_QUEUE_RESUME: the WAKE that stalled first finds room (R225). -/
def execWakeQueueResume (slot : Fin 16) (s : State) : Out :=
  done (if s.yardRuns && s.yard.stalled.head? == some slot.val && s.queued < 64 then
    { s with yard := { s.yard with stalled := s.yard.stalled.tail } }.queueWake slot
  else s)

/-- The oldest wake record enters its ring with its plot's taint, and leaves the queue (R219, R218). -/
def State.moveWake (s : State) (i : Nat) (m : Mem) (off : Nat) (bytes : List Byte) : State :=
  let t := s.mem.plot .yard 6
  let s1 := { s with mem := s.mem.write m off bytes t, yard := { s.yard with wakeRd := (s.yard.wakeRd + 1) % 64 } }
  let n := s.queued - 1
  ((s1.doorbell i 1 0).set F.YRD_WAKE_QUEUED n).when (n == 0) fun s => s.set F.YRD_WAKE_WAKE_OUT 0

/-- WAKE_QUEUE_MOVE (R219): CORE_MGMT is ready; a full ring, or one that is not armed, holds the entry back. -/
def execWakeQueueMove (s : State) : Out :=
  done (if s.coreOn && s.isUp && 0 < s.queued then
    let bytes := s.yardRead (0x6000 + 64 * s.yard.wakeRd) 64
    let i := fieldAt bytes 14 2
    if i < 2048 && s.armed i && ringDiff (s.pi i) (s.di i) < s.ringSize i then
      match s.entryAt i (s.pi i) with
      | some (m, off) => s.reach .wakeQueue m off (fun s => s.moveWake i m off bytes) id
      | none => s
    else s
  else s)

/-- WAKE_CLR: a write withdraws the latched wake votes of the slots it names (R217). -/
def State.wakeClr (s : State) (v : Word) : State :=
  (s.each ((List.range 16).filter fun i => v.getLsbD i && s.slotFlag i 2) fun s i =>
    s.setSlot i { s.slot i with wakes := [] }).syncVotes

/-- WAKE_CLR, through YRD_WAKE_CLR. -/
def execWakeClr (m : Master) (v : Word) (s : State) : Out := done (s.writeAs m R.YRD_WAKE_CLR.base fun s => s.wakeClr v)

/-- REQ: the Yard's chip-state request (R153). -/
def execReq (slot : Fin 16) (s : State) : Out :=
  done (s.instr slot 0x13 (fun w => dOf w ≤ 3 && sOf w == 0 && immOf w == 0) fun s w => s.charge slot 1 fun s =>
    (s.slotNext slot id).request { target := dOf w, cause := 1 })

/-- RECORD (R220, 02 R67, R88): to the Gate, or FULL while it takes none. -/
def execRecord (slot : Fin 16) (s : State) : Out :=
  done (s.instr slot 0x14 (fun w => dOf w == 0 && sOf w < 8 && immOf w == 0) fun s w =>
    let a := ((s.slot slot).gReg (sOf w)).toNat
    let n := recLen (byteAt (s.yardRead a 1) 0)
    if inData a 1 && inData a n then
      s.charge slot (if n = 64 then 20 else 12) fun s =>
        let bytes := s.yardRead a n
        let t := (s.slot slot).taint ||| s.mem.taint .yard a n
        let s1 := s.slotNext slot fun x => { x with taint := t, full := !s.gateOpen }
        if s.gateOpen then
          s1.gateCheck { bytes := bytes, taint := t, adapted := false, yard := true, slot := slot, remapped := false }
        else s1.ev 0x0408 slot
    else s.slotFault slot 2)

/-- MARK. -/
def execMark (slot : Fin 16) (s : State) : Out :=
  done (s.instr slot 0x15 (fun w => dOf w == 0 && sOf w == 0) fun s w => s.charge slot 1 fun s =>
    (s.slotNext slot id).ev2 0x0410 slot (immOf w))

/-- ARM: a running slot stays in its run. -/
def execArm (slot : Fin 16) (s : State) : Out :=
  done (s.instr slot 0x16 (fun w => dOf w == 0 && sOf w == 0 && immOf w < 16) fun s w => s.charge slot 1 fun s =>
    (s.slotNext slot id).startRun (immOf w) false)

/-- CLEAR: the detector is idle with an empty history; level-mode wake votes are withdrawn. -/
def execClear (slot : Fin 16) (s : State) : Out :=
  done (s.instr slot 0x17 onlyOp fun s _ => s.charge slot 1 fun s =>
    ((s.setSlot slot { s.slot slot with det := {} }).dropWakes slot).slotNext slot id)

/-- CYCLE_MAX_EXCEEDED: a run has used more than CYCLE_MAX cycles (R228 cause 5). -/
def execCycleMaxExceeded (slot : Fin 16) (s : State) : Out :=
  done (if s.yardRuns && (s.slot slot).phase == .running && (s.slotCfg slot).cycleMax ≤ (s.slot slot).cycles then
    s.slotFault slot 5 else s)

/-! Sleep and starts (R227, R231) -/

/-- A slot at Rest entry: no run, votes, wakes or detector. -/
def YardSlot.rest (x : YardSlot) : YardSlot :=
  { phase := if x.phase = .faulted then .faulted else .idle, margin := x.margin }

/-- Every run is abandoned at the commit of Watch to Rest, and slot votes and detectors are reset (R227, R231). -/
def State.yardRest (s : State) : State :=
  let s1 := s.each (List.range 16) fun s i => s.setSlot i (s.slot i).rest
  { s1 with yard := { s1.yard with featUnit := none, netUnit := none, stalled := [] } }.syncVotes

/-- At every start detectors, registers, flags and votes are reset, and no slot is faulted (R231, R228). -/
def State.yardStart (s : State) : State :=
  { s with yard := { s.yard with slots := [], featUnit := none, netUnit := none, stalled := [] } }.syncVotes

/-! Patterns and port interrupts (08 R241; 09 R261, R262) -/

/-- A pattern matches (R241): slots, WAIT kind 3, count and event; it is refractory. -/
def State.patMatch (s : State) (p : Nat) : State :=
  let s1 := { s with ear := { s.ear with hits := elPut 0 s.ear.hits p 0 } }
  let s2 := ((s1.setAt F.EAR_PATp_STAT_STATE p 2).incAt F.EAR_PATp_STAT_MATCHES p)
  ((s2.trigger 1 p).meet 3 p).when (bitOf (s.getAt F.EAR_PATp_CFG_FLAGS p) 2) fun s => s.ev 0x0503 p

/-- PATTERN_EVAL (R241): a listening pattern evaluates on its context frames. -/
def execPatternEval (p : Fin 8) (s : State) : Out :=
  done (if s.yardRuns && s.getAt F.EAR_PATp_STAT_STATE p == 1 then
    match s.patInput p with
    | none => s
    | some x =>
      if s.patHit p x then
        let n := elGet 0 s.ear.hits p + 1
        if s.getAt F.EAR_PATp_CFG_PERSIST_M1 p + 1 ≤ n then s.patMatch p
        else { s with ear := { s.ear with hits := elPut 0 s.ear.hits p n } }
      else { s with ear := { s.ear with hits := elPut 0 s.ear.hits p 0 } }
  else s)

/-- LOGMEL_FRAME (R240): a hop of a microphone that an enabled pattern names; its frame ends WAIT kind 4. While the stream stands the hop
passes without one. -/
def execLogmelFrame (mic : Fin 16) (s : State) : Out :=
  done (if s.isUp && s.span.running && s.patNames mic then (s.takeMel mic).when (s.hopFrame mic).isSome fun s => s.meet 4 0 else s)

/-- INT changes on a port: WAIT kind 1, WAIT_INT and, on the edge, the slots it triggers (R262). -/
def State.intRises (s : State) (p : Nat) (was : Bool) : State :=
  ((s.wakeScript p).when (s.portInt p) fun s => s.meet 1 p).when (!was && s.portInt p) fun s => s.trigger 2 p

/-- INT_ACTIVE: the line's level changes (R262); SPI has no line. -/
def execIntActive (port : Fin 8) (level : Bool) (s : State) : Out :=
  done (if s.portReady port || s.portState port == 2 then
    ((s.setPort port { s.port port with intLevel := some level }).showInt port).intRises port (s.portInt port)
  else s)

/-- IBI (R261): an in-band interrupt from an assigned address is INT active for one span tick. -/
def execIbi (port : Fin 8) (addr : BitVec 7) (s : State) : Out :=
  done (if s.portMode port == 1 && (s.portReady port || s.portState port == 2)
      && s.getAt F.SPT_PORTn_CFG_I3C_BASE port ≤ addr.toNat
      && addr.toNat < s.getAt F.SPT_PORTn_CFG_I3C_BASE port + s.getAt F.SPT_PORTn_I3C_TARGETS port then
    (((s.setPort port { s.port port with ibi := true }).showInt port).incAt F.SPT_PORTn_I3C_IBIS port).intRises port
      (s.portInt port)
  else s)

end Sys2Proof.Machine
end

