-- ==== Sys2Proof/Machine/Entries.lean ====
section
/-! DEFINITION. The dispatcher and the Mover: ring entries of every kind, doorbells and tally operations (14 R396 to R419,
R422). -/

namespace Sys2Proof.Machine

/-! Validity of an entry (R400, R411, R412, R419) -/

/-- A Mover side: base address, rows, row length, STRIDE1, planes, STRIDE2 (R410, R412; log 50). -/
structure Side where
  addr : Nat
  rows : Nat
  len : Nat
  s1 : Nat
  planes : Nat
  s2 : Nat
deriving DecidableEq, Repr

/-- Fields of a MOVE body. -/
def mvOp (b : List Byte) : Nat := byteAt b 0
def mvElem (b : List Byte) : Nat := 2 ^ byteAt b 1

/-- The source side of a descriptor body. -/
def srcSide (b : List Byte) : Side :=
  { addr := fieldAt b 4 4, rows := fieldAt b 14 2, len := fieldAt b 12 2, s1 := fieldAt b 20 4, planes := fieldAt b 16 2,
    s2 := fieldAt b 24 4 }

/-- The destination side: a TRANSPOSE writes COUNT0 / E rows of COUNT1 elements. -/
def dstSide (b : List Byte) : Side :=
  let t := mvOp b = 2
  { addr := fieldAt b 8 4, rows := if t then fieldAt b 12 2 / mvElem b else fieldAt b 14 2,
    len := if t then fieldAt b 14 2 * mvElem b else fieldAt b 12 2, s1 := fieldAt b 28 4, planes := fieldAt b 16 2,
    s2 := fieldAt b 32 4 }

/-- Bytes from the base of a side to its last byte. -/
def Side.span (x : Side) : Nat := (x.planes - 1) * x.s2 + (x.rows - 1) * x.s1 + x.len

/-- The side does not overlap itself, and unused dimensions have no stride (R410, R412). -/
def Side.ok (x : Side) : Bool :=
  (if x.rows = 1 then x.s1 == 0 else x.len ≤ x.s1)
    && (if x.planes = 1 then x.s2 == 0 else (x.rows - 1) * x.s1 + x.len ≤ x.s2)

/-- The side names a memory. -/
def Side.named (x : Side) : Bool := match fabAddr x.addr with | .mem _ _ => true | _ => false

/-- The side names the Pen (02 R82). -/
def Side.inPen (x : Side) : Bool := match fabAddr x.addr with | .pen _ => true | _ => false

/-- A MOVE body keeps to Tables 14.5 and 14.6 and to R412. -/
def moveOk (b : List Byte) : Bool :=
  mvOp b ≤ 2 && byteAt b 1 ≤ 2 && (byteAt b 1 == 0 || mvOp b == 2) && zeroAt b 2 2 && zeroAt b 18 2 && zeroAt b 40 8
    && fieldAt b 12 2 != 0 && fieldAt b 14 2 != 0 && fieldAt b 16 2 != 0
    && (mvOp b != 2 || fieldAt b 12 2 % mvElem b == 0)
    && (if mvOp b = 1 then fieldAt b 4 4 == 0 else (srcSide b).named && (srcSide b).ok)
    && (dstSide b).named && (dstSide b).ok

/-- A MOVE names the Pen. -/
def movePen (b : List Byte) : Bool := (dstSide b).inPen || mvOp b != 1 && (srcSide b).inPen

/-- The body of an entry (Table 14.3). -/
def entryBody (e : List Byte) : List Byte := e.drop 16

/-- A tally number, or none. -/
def tallyOk (t : Nat) : Bool := t < 4096 || t == 0xFFFF

/-- The header of Table 14.2. -/
def headerFine (e : List Byte) : Bool :=
  bitsOf (byteAt e 1) 2 6 == 0 && (!bitOf (byteAt e 1) 1 || byteAt e 0 == 1 || byteAt e 0 == 2) && byteAt e 3 == 0
    && tallyOk (fieldAt e 4 2) && tallyOk (fieldAt e 6 2)

/-- The switched domains that a side touches. -/
def Side.domains (x : Side) : List Nat :=
  match fabAddr x.addr with
  | .mem .loft off => (List.range ((off + x.span - 1) / 0x400000 - off / 0x400000 + 1)).map (12 + off / 0x400000 + ·)
      |>.filter (· < 16)
  | .mem .stall off => [off / 0x100000]
  | _ => []

/-- The domains that a Mover descriptor names. -/
def moveDomains (b : List Byte) : List Nat := (dstSide b).domains ++ (if mvOp b = 1 then [] else (srcSide b).domains)

/-- The descriptors of a Mover channel, and all of them. -/
def State.chan (s : State) (c : Nat) : List MoveJob := elGet [] s.disp.chans c
def State.moves (s : State) : Nat := ((List.range 16).map fun c => (s.chan c).length).sum

/-- Set a channel. -/
def State.setChan (s : State) (c : Nat) (l : List MoveJob) : State :=
  { s with disp := { s.disp with chans := elPut [] s.disp.chans c l } }

/-- The channel of a ring. -/
def State.chanOf (s : State) (i : Nat) : Nat := s.getAt F.RNG_RINGi_CFG_CHANNEL i

/-- A ring's class. -/
def State.cls (s : State) (i : Nat) : Nat := s.getAt F.RNG_RINGi_CFG_CLASS i

/-- The channel is busy with a failed domain (R419). -/
def State.chanFailed (s : State) (c : Nat) : Bool :=
  match s.chan c with
  | [] => false
  | j :: _ => !j.ran && (moveDomains j.body).any s.failed

/-- A body keeps to Table 14.3, and its kind is allowed on the ring. -/
def State.bodyOk (s : State) (i : Nat) (e : List Byte) : Bool :=
  let b := entryBody e
  match byteAt e 0 with
  | 0 => zeroAt b 0 48
  | 1 => bitsOf (fieldAt b 0 4) 29 3 == 2 && bitsOf (fieldAt b 0 4) 24 5 == 0 && byteAt b 6 ≤ 1 && zeroAt b 7 41
  | 2 => byteAt b 0 < 32 && 0 < s.headLen (byteAt b 0) && zeroAt b 1 47
  | 3 => moveOk b && !(s.cls i == 0 && s.chanFailed (s.chanOf i))
  | 4 => byteAt b 0 ≤ 2 && byteAt b 1 == 0 && fieldAt b 2 2 < 4096 && zeroAt b 8 40
  | 5 => byteAt b 0 < 8 && byteAt b 1 < 8 && zeroAt b 2 46
  | 6 => fieldAt b 0 2 < 4096 && zeroAt b 2 2 && zeroAt b 8 40 && s.getAt F.RNG_RINGi_CFG_OWNER i == 1
  | 7 => fieldAt b 0 2 < 2048 && fieldAt b 2 2 != 0 && zeroAt b 4 44
  | _ => false

/-- The entry keeps to Tables 14.2 and 14.3. -/
def State.entryOk (s : State) (i : Nat) (e : List Byte) : Bool := headerFine e && s.bodyOk i e

/-! Issue (R397, R401) -/

/-- II passes an entry. -/
def State.passIssue (s : State) (i : Nat) : State :=
  let r := s.ring i
  (s.setRing i { r with ii := (r.ii + 1) % 131072, gateOk := false }).showIssued i

/-- The first failure of the Mover since VALID was cleared. -/
def State.moveErr (s : State) (i status : Nat) : State :=
  if s.flag F.MOV_FIRST_ERR_VALID then s
  else ((s.set F.MOV_FIRST_ERR_STATUS status).set F.MOV_FIRST_ERR_RING i).set F.MOV_FIRST_ERR_VALID 1

/-- An invalid entry completes with ENTRY_INVALID, its gate unasked (R419; log 51). -/
def State.invalidEntry (s : State) (i : Nat) (e : List Byte) : State :=
  let idx := (s.ring i).ii
  let s1 := (((s.passIssue i).ev2 0x0C03 i (byteAt e 0)).inc F.RNG_COUNTS_INVALID).when (byteAt e 0 == 3) fun s =>
    (s.inc F.MOV_COUNTS_FAULTS).moveErr i 16
  (s1.when (byteAt e 0 == 3 && movePen (entryBody e)) fun s => s.penAccess 5).completeEntry i idx 16

/-- The entry at the issue index lies in a failed domain: its access completes with DOMAIN_FAILED (05 R172), and nothing of it can be read
or written. -/
def State.entryLost (s : State) (i : Nat) : State := ((s.passIssue i).passEntry i (s.ring i).ii).settle

/-- The entry at the issue index of ring `i`, when it is a WORK ring with one and its memory is on. -/
def State.atEntry (s : State) (i : Nat) (f : State → List Byte → State) : State :=
  if s.dispatches && s.armed i && s.getAt F.RNG_RINGi_CFG_KIND i == 0 && s.pi i != (s.ring i).ii then
    match s.entryAt i (s.ring i).ii with
    | some (m, off) => s.reach (.ring i) m off (fun s => f s (s.entryBytes i (s.ring i).ii)) fun s => s.entryLost i
    | none => s
  else s

/-- It is of kind `k` and valid: `f`. Invalid, or of no kind, it completes with ENTRY_INVALID. -/
def State.onEntry (s : State) (i k : Nat) (f : State → List Byte → State) : State :=
  s.atEntry i fun s e =>
    if byteAt e 0 ≠ k ∧ byteAt e 0 < 8 then s
    else if s.entryOk i e then f s e
    else s.invalidEntry i e

/-- The waiter an entry's gate takes. -/
def gateWaiter (i : Nat) (e : List Byte) (what : WaitFor) : Waiter :=
  { what := what, ring := i, tally := fieldAt e 4 2, value := fieldAt e 8 4, consume := bitOf (byteAt e 1) 0 }

/-- An entry's gate (R401): satisfied, CONSUME subtracts and `f` follows; unsatisfied, it holds the ring and a waiter. -/
def State.gated (s : State) (i : Nat) (e : List Byte) (f : State → State) : State :=
  let w := gateWaiter i e .gate
  if fieldAt e 4 2 = 0xFFFF ∨ (s.ring i).gateOk then f s
  else if w.value ≤ s.tally w.tally then f (s.satisfy w)
  else s.addWaiter w

/-- A gated entry whose action is done at once: the action, then its completion with OK. -/
def State.atOnce (s : State) (i k : Nat) (f : State → List Byte → State) : State :=
  s.onEntry i k fun s e => s.gated i e fun s =>
    (f (s.passIssue i) (entryBody e)).completeEntry i (s.ring i).ii 0

/-- NOP (R400). -/
def execEntryNop (ring : BitVec 11) (s : State) : Out := done (s.atOnce ring.toNat 0 fun s _ => s)

/-- TALLY: ADD, SUB or SET, `op` by its code. -/
def State.entryTally (s : State) (i op : Nat) (k : TOp) : State :=
  s.onEntry i 4 fun s e =>
    if byteAt (entryBody e) 0 ≠ op then s
    else s.gated i e fun s =>
      ((s.passIssue i).tallyOp k (fieldAt (entryBody e) 2 2) (fieldAt (entryBody e) 4 4)).completeEntry i (s.ring i).ii 0

/-- The three TALLY entries (R404). -/
def execEntryTallyAdd (ring : BitVec 11) (s : State) : Out := done (s.entryTally ring.toNat 0 .add)
def execEntryTallySub (ring : BitVec 11) (s : State) : Out := done (s.entryTally ring.toNat 1 .sub)
def execEntryTallySet (ring : BitVec 11) (s : State) : Out := done (s.entryTally ring.toNat 2 .set)

/-- DOORBELL (R399): another ring's doorbell as owner 0. -/
def execDoorbell (ring : BitVec 11) (s : State) : Out :=
  done (s.atOnce ring.toNat 7 fun s b => s.doorbell (fieldAt b 0 2) (fieldAt b 2 2) 0)

/-- A SAMPLE waits for port `p` (07 R212); it is served before a ring entry (09 R271). -/
def State.yardWaits (s : State) (p : Nat) : Bool :=
  (List.range 16).any fun i => (s.slot i).phase == .sampling && dOf (s.slotWord i) == p

/-- PORT (R271): starts the script of a READY, idle port that no SAMPLE waits for; else it waits, with vote slot 3 for PORTS (05 Table
05.4a). -/
def execPort (ring : BitVec 11) (s : State) : Out :=
  let i := ring.toNat
  done (s.onEntry i 5 fun s e =>
    let p := byteAt (entryBody e) 0
    if !s.portsOn then (if s.voteSlot 20 3 = 2 then s else s.setVote 20 3 2)
    else if s.portReady p && s.portIdle p && !s.yardWaits p then
      s.gated i e fun s => (s.passIssue i).startScript p (byteAt (entryBody e) 1) (some (i, (s.ring i).ii)) false
    else s)

/-- WAIT_NOTIFY (R405): a waiter, or BUSY where none is free. -/
def execWaitNotify (ring : BitVec 11) (s : State) : Out :=
  let i := ring.toNat
  done (s.onEntry i 6 fun s e => s.gated i e fun s =>
    let idx := (s.ring i).ii
    let t := fieldAt (entryBody e) 0 2
    let v := fieldAt (entryBody e) 4 4
    let s1 := s.passIssue i
    if v ≤ s1.tally t then (s1.notifyDone i idx).settle
    else if s1.disp.waiters.length < 8192 then s1.addWaiter { what := .notify idx, ring := i, tally := t, value := v, consume := false }
    else ((s1.ev 0x0C0B i).inc F.TLY_COUNTS_BUSY).completeEntry i idx 18)

/-! Tiles (R398, R400, R406, R408) -/

/-- The tile of ring `i` at its issue index: a DATA ring's handler, a HEAD's slot, or a TILE's chain. -/
def State.ringTile (s : State) (i : Nat) : TileJob :=
  let e := s.entryBytes i (s.ring i).ii
  let t : TileJob := { ring := i, idx := (s.ring i).ii, cls := s.cls i, first := 0, grant := s.getAt F.RNG_RINGi_CFG_PEN_GRANT i == 1 }
  let named := fun (t : TileJob) => { t with wset := match s.cimDescs t with | d :: _ => d.wset | [] => 0xFFFF }
  if s.getAt F.RNG_RINGi_CFG_KIND i = 1 then named { t with first := bitsOf (s.ring i).handler 0 24, data := true }
  else if byteAt e 0 = 2 then named { t with slot := some (byteAt (entryBody e) 0) }
  else { t with first := bitsOf (fieldAt (entryBody e) 0 4) 0 24, wset := fieldAt (entryBody e) 4 2 }

/-- Ring `j` is served before ring `i` (R406): class 0 first; within a class round robin in ascending index behind the ring served last. The
shares of classes 1 to 3 among each other are run cycles (log 4). -/
def State.goesFirst (s : State) (j i : Nat) : Bool :=
  let last := elGet 2047 s.disp.served (s.cls i)
  let turn := fun k => (k + 2047 - last) % 2048
  (s.cls j == 0 && s.cls i != 0) || (s.cls j == s.cls i && decide (turn j < turn i))

/-- No ring that is served before ring `i` can issue its tile now. -/
def State.myTurn (s : State) (i : Nat) (can : Nat → Bool) : Bool := !s.armedRings.any fun j => s.goesFirst j i && can j

/-- The tile at the issue index of ring `i` can be issued to a stall now. -/
def State.placeable (s : State) (i : Nat) : Bool :=
  s.tileReady i 0 && match s.placeOf (s.asEmul (s.ringTile i)) with
    | .on _ => true
    | _ => false

/-- A tile of ring `i` issues. One of class 0 takes a token, and over budget it logs event 0x0C05 (R408); how long it has waited, which
DSP_C0_LAT keeps the longest of, is free. -/
def State.tileIssued (s : State) (i cls : Nat) : State :=
  let s1 := { s with disp := { s.disp with served := elPut 2047 s.disp.served cls i } }
  if cls ≠ 0 then s1
  else
    let n := s1.get F.DSP_STATUS_C0_TOKENS
    let met := 0 < n && !s1.flag F.DSP_STATUS_C0_UNBOUNDED && !s1.fab.c0Over
    let s2 := (s1.draw.set F.DSP_C0_LAT_MAX (max (s1.get F.DSP_C0_LAT_MAX) (Config.freeWord s1.free).toNat)).set F.DSP_STATUS_C0_TOKENS (n - 1)
    s2.when (!met) fun s => (s.ev 0x0C05 i).inc F.DSP_COUNTS_OVER_BUDGET

/-- The tile of an entry is issued to its stall: `ready` first does what the issue needs; without a stall for it, now or
later, it ends with NO_TARGET. -/
def State.issueTile (s : State) (t0 : TileJob) (ready : State → State) : State :=
  let s0 := s.serveReissues
  let t := s0.asEmul t0
  match s0.placeOf t with
  | .on st => ((ready s0).tileIssued t.ring t.cls).putTile st t |>.regate st t
  | .row r => if s0.voteSlot r 3 = 2 then s0 else s0.setVote r 3 2
  | .later => s0
  | .nowhere => (ready s0).tileFailed 0xFF { t with gated := false } 10

/-- A TILE or HEAD entry: EARLY, the tile is issued and waits for its gate on its stall (R401). -/
def State.issueEntry (s : State) (i : Nat) (e : List Byte) (t : TileJob) : State :=
  if !(s.issuesTiles t.cls && s.myTurn i s.placeable) then s
  else if bitOf (byteAt e 1) 1 && fieldAt e 4 2 != 0xFFFF then s.issueTile { t with gated := true } fun s => s.passIssue i
  else if s.placeOf (s.asEmul t) = .later then s
  else s.gated i e fun s => s.issueTile t fun s => s.passIssue i

/-- HEAD (02 R64). -/
def execHead (ring : BitVec 11) (s : State) : Out :=
  let i := ring.toNat
  done (s.onEntry i 2 fun s e => s.issueEntry i e (s.ringTile i))

/-- An opaque record is copied to ARG with its plot's taint, and the handler's tile is issued (R398). -/
def State.dataTile (s : State) (i : Nat) (m : Mem) (off : Nat) (bytes : List Byte) (taint : Nat) : State :=
  s.issueTile (s.ringTile i) fun s =>
    let s1 := { s with mem := s.mem.write m off bytes taint }.passIssue i
    s1.setRing i { s1.ring i with tileOut := true }

/-- DATA_ENTRY (R398): the previous entry's tile has completed; an ARG that cannot take the copy makes the entry invalid. -/
def execDataEntry (ring : BitVec 11) (s : State) : Out :=
  let i := ring.toNat
  done (if s.issuesTiles (s.cls i) && s.myTurn i s.placeable && s.armed i && s.getAt F.RNG_RINGi_CFG_KIND i == 1 && s.pi i != (s.ring i).ii
      && !(s.ring i).tileOut then
    match s.entryAt i (s.ring i).ii with
    | some (m, off) => s.reach (.ring i) m off (fun s =>
        match fabAddr (s.ring i).arg with
        | .mem m2 o2 => s.reach (.ring i) m2 o2 (fun s => s.dataTile i m2 o2 (s.entryBytes i (s.ring i).ii) (s.mem.taint m off 64))
            fun s => s.entryLost i
        | _ =>
          let idx := (s.ring i).ii
          ((((s.passIssue i).ev2 0x0C03 i 0).inc F.RNG_COUNTS_INVALID).passEntry i idx).settle) fun s => s.entryLost i
    | none => s
  else s)

/-! The Mover (R409 to R415) -/

/-- Vote slot 4 follows the descriptors of the channels (05 Table 05.4a). -/
def State.moveVotes (s : State) : State :=
  let named := ((List.range 16).map fun c => ((s.chan c).map fun j => moveDomains j.body).flatten).flatten
  s.each (List.range 16) fun s d =>
    let v := if named.contains d then 2 else 0
    if s.voteSlot d 4 = v then s else s.setVote d 4 v

/-- A MOVE of a class-0 ring waits to be passed to the Mover, which goes ahead of the others (R409). -/
def State.c0Move (s : State) : Bool :=
  s.armedRings.any fun j =>
    let e := s.entryBytes j (s.ring j).ii
    s.cls j == 0 && s.getAt F.RNG_RINGi_CFG_KIND j == 0 && s.pi j != (s.ring j).ii && byteAt e 0 == 3
      && (fieldAt e 4 2 == 0xFFFF || (s.ring j).gateOk || decide (fieldAt e 8 4 ≤ s.tally (fieldAt e 4 2)))

/-- MOVE (R409): the descriptor joins its ring's channel; at 64 active ones the entry waits. -/
def execMove (ring : BitVec 11) (s : State) : Out :=
  let i := ring.toNat
  done (s.onEntry i 3 fun s e =>
    if 64 ≤ s.moves || s.cls i != 0 && s.c0Move then s
    else s.gated i e fun s =>
      let c := s.chanOf i
      ((s.passIssue i).setChan c (s.chan c ++ [{ ring := i, idx := (s.ring i).ii, body := entryBody e }])).moveVotes)

/-- The offset of a side within its memory, and what that memory holds behind it. -/
def Side.place (x : Side) : Option (Mem × Nat) := match fabAddr x.addr with | .mem m off => some (m, off) | _ => none

/-- The side lies in its memory: a stall's 128 KiB, the Loft, or the Yard data space (R419). -/
def Side.inside (x : Side) : Bool :=
  match x.place with
  | some (.stall, off) => off % 0x20000 + x.span ≤ 0x20000
  | some (.yard, off) => off + x.span ≤ 0x20000
  | some (.loft, off) => off + x.span ≤ 0x1000000
  | none => false

/-- The rows of a side: their offsets, plane by plane. -/
def Side.rowOffs (x : Side) (off : Nat) : List Nat :=
  ((List.range x.planes).map fun q => (List.range x.rows).map fun r => off + q * x.s2 + r * x.s1).flatten

/-- The spans of source and destination share a byte of one memory. -/
def spansMeet (b : List Byte) : Bool :=
  match (srcSide b).place, (dstSide b).place with
  | some (m, x), some (n, y) => m == n && decide (x < y + (dstSide b).span) && decide (y < x + (srcSide b).span)
  | _, _ => false

/-- The direction rule of R414 covers the copy. -/
def sameStrides (b : List Byte) : Bool :=
  fieldAt b 20 4 == fieldAt b 28 4 && fieldAt b 24 4 == fieldAt b 32 4

/-- One descriptor's writes, as one write of R59: rows of (offset, bytes, taint). -/
def MemState.writeRows (m : MemState) (w : Mem) (rows : List (Nat × List Byte × Nat)) : MemState :=
  let m1 := rows.foldl (fun m r => m.store w r.1 r.2.1) m
  let plots := (rows.map fun r => plotsOf r.1 r.2.1.length).flatten.eraseDups
  plots.foldl (fun m p =>
    let hit := rows.filter fun r => (plotsOf r.1 r.2.1.length).contains p
    let t := hit.foldl (fun t r => t ||| r.2.2) 0
    let n := (hit.map fun r => min (r.1 + r.2.1.length) (4096 * p + 4096) - max r.1 (4096 * p)).sum
    if n = 4096 then m.setPlot w p t else m.setPlot w p (m.plot w p ||| t)) m1

/-- The rows a COPY writes: every source byte as it was before the descriptor (R414), with its row's taint (R413; log 52). -/
def State.copyRows (s : State) (b : List Byte) (m : Mem) (so dO : Nat) : List (Nat × List Byte × Nat) :=
  let x := srcSide b
  ((x.rowOffs so).zip ((dstSide b).rowOffs dO)).map fun p =>
    (p.2, s.mem.read m p.1 x.len, s.mem.taint m p.1 x.len)

/-- The rows a FILL writes: the pattern runs on over the region's bytes (log 53). -/
def fillRows (b : List Byte) (dO : Nat) : List (Nat × List Byte × Nat) :=
  let x := dstSide b
  (x.rowOffs dO).zipIdx.map fun p =>
    (p.1, (List.range x.len).map fun k => (b.drop 36).getD ((p.2 * x.len + k) % 4) 0, 0)

/-- The rows a TRANSPOSE writes: row c of a plane holds element c of every source row. -/
def State.transRows (s : State) (b : List Byte) (m : Mem) (so dO : Nat) : List (Nat × List Byte × Nat) :=
  let x := srcSide b
  let y := dstSide b
  let e := mvElem b
  ((List.range x.planes).map fun q =>
    let base := so + q * x.s2
    let rows := (List.range x.rows).map fun r => s.mem.read m (base + r * x.s1) x.len
    let taint := (List.range x.rows).foldl (fun t r => t ||| s.mem.taint m (base + r * x.s1) x.len) 0
    (List.range y.rows).map fun c => (dO + q * y.s2 + c * y.s1, (rows.map fun row => slice row (c * e) e).flatten, taint)).flatten

/-- The active descriptor of a channel has moved, or ends, with a status; MOVE_DONE completes its entry. -/
def State.moved (s : State) (c : Nat) (j : MoveJob) (status : Nat) : State :=
  s.setChan c ({ j with ran := true, status := status } :: (s.chan c).drop 1)

/-- A Mover descriptor fails: ALIAS (event 0x0C04) or ADDRESS (event 0x0C0A). -/
def State.moveFails (s : State) (c : Nat) (j : MoveJob) (status : Nat) : State :=
  let s1 := if status = 17 then (s.ev 0x0C04 j.ring).inc F.MOV_COUNTS_ALIAS
    else (s.ev 0x0C0A j.ring).inc F.MOV_COUNTS_FAULTS
  (s1.moveErr j.ring status).moved c j status

/-- The descriptor at the head of channel `c` runs as operation `op`: ADDRESS outside its memories or in a failed domain,
ALIAS before any byte, a wait for its domains, else its rows. -/
def State.runMove (s : State) (c op : Nat) (rows : State → List Byte → Mem → Nat → Nat → List (Nat × List Byte × Nat)) :
    State :=
  match s.chan c with
  | [] => s
  | j :: _ =>
    let b := j.body
    if !(s.isUp && s.coreOn && !s.alarmHold && !s.disp.stopped) || j.ran || mvOp b ≠ op then s
    else
      let src := if op = 1 then some (Mem.yard, 0) else (srcSide b).place
      match src, (dstSide b).place with
      | some (sm, so), some (dm, dO) =>
        if !((op == 1 || (srcSide b).inside) && (dstSide b).inside) then s.moveFails c j 19
        else if op ≠ 1 ∧ spansMeet b ∧ ¬ (op = 0 ∧ sameStrides b) then s.moveFails c j 17
        else if (moveDomains b).any s.failed then s.moveFails c j 19
        else if (moveDomains b).all fun d => s.steadyAt d 2 then
          { s with mem := s.mem.writeRows dm (rows s b sm so dO) }.moved c j 0
        else s.moveVotes
      | _, _ => s

/-- COPY (R410, R413 to R415). -/
def execCopy (ch : Fin 16) (s : State) : Out := done (s.runMove ch 0 fun s b m so dO => s.copyRows b m so dO)

/-- FILL (R410): no taint. -/
def execFill (ch : Fin 16) (s : State) : Out := done (s.runMove ch 1 fun _ b _ _ dO => fillRows b dO)

/-- TRANSPOSE (R410). -/
def execTranspose (ch : Fin 16) (s : State) : Out := done (s.runMove ch 2 fun s b m so dO => s.transRows b m so dO)

/-- MOVE_DONE (R402): the channel's descriptor has ended and its entry completes. -/
def execMoveDone (ch : Fin 16) (s : State) : Out :=
  done (match s.chan ch with
    | [] => s
    | j :: rest =>
      if j.ran && s.isUp && s.coreOn then
        (((s.setChan ch rest).inc F.MOV_COUNTS_DONE).completeEntry j.ring j.idx j.status).moveVotes
      else s)

/-! Registers of the dispatcher (R399, R404) -/

/-- The owner code of a master that writes RNG_DOORBELL; debug owns no ring (log 54). -/
def ownerOf (m : Master) : Nat := match m with | .steward => 2 | .host => 1 | _ => 4

/-- A value written to RNG_DOORBELL. -/
def State.ringBell (s : State) (m : Master) (v : Word) : State :=
  s.doorbell (F.RNG_DOORBELL_RING.of v) (F.RNG_DOORBELL_COUNT.of v) (ownerOf m)

/-- RING_DOORBELL (R399). -/
def execRingDoorbell (m : Master) (v : Word) (s : State) : Out :=
  done (s.writeAs m R.RNG_DOORBELL.base fun s => s.ringBell m v)

/-- A TLY_OP write: the operation with TLY_VALUE; OP 3 has no effect (R404). -/
def State.tlyWrite (s : State) (op t : Nat) : State :=
  let v := s.get F.TLY_VALUE_VALUE
  match op with
  | 0 => s.tallyOp .add t v
  | 1 => s.tallyOp .sub t v
  | 2 => s.tallyOp .set t v
  | _ => s

/-- TLY_ADD, TLY_SUB, TLY_SET. -/
def execTlyAdd (m : Master) (tally : BitVec 12) (s : State) : Out :=
  done (s.writeAs m R.TLY_OP.base fun s => s.tlyWrite 0 tally.toNat)
def execTlySub (m : Master) (tally : BitVec 12) (s : State) : Out :=
  done (s.writeAs m R.TLY_OP.base fun s => s.tlyWrite 1 tally.toNat)
def execTlySet (m : Master) (tally : BitVec 12) (s : State) : Out :=
  done (s.writeAs m R.TLY_OP.base fun s => s.tlyWrite 2 tally.toNat)

end Sys2Proof.Machine
end

