-- ==== Sys2Proof/Machine/Barn.lean ====
section
/-! DEFINITION. The Light Barn (13): wake, bays, maps, tiles, rotation, loss handling; and the TILE entry of either unit (14
R400). -/

namespace Sys2Proof.Machine

/-! Bays -/

/-- Bay `b`. -/
def State.bay (s : State) (b : Nat) : BaySt := elGet {} s.barn.bays b

/-- Set it. -/
def State.setBay (s : State) (b : Nat) (x : BaySt) : State := { s with barn := { s.barn with bays := elPut {} s.barn.bays b x } }

/-- The bay is out of service. -/
def State.bayOut (s : State) (b : Nat) : Bool := bitOf (s.get F.BRN_STATUS_BAYS_OUT) b

/-- The bay's rotation has stopped. -/
def State.rotFixed (s : State) (b : Nat) : Bool := bitOf (s.get F.BRN_STATUS_ROT_FIXED) b

/-- The bay is in a rotation step. -/
def State.stepping (s : State) (b : Nat) : Bool := (s.bay b).part != .none

/-- The Barn is ready and its PLL locked. -/
def State.barnReady (s : State) : Bool :=
  s.isUp && s.coreOn && !s.alarmHold && s.get F.BRN_STATUS_STATE == 4 && s.steadyAt 16 2 && s.steadyAt 17 2

/-- BRN_BAYb_STATUS.STATE, BRN_STATUS.STEPPING and vote slot 10 follow the bays. -/
def State.showBays (s : State) : State :=
  let s1 := s.each (List.range 4) fun s b =>
    (s.setAt F.BRN_BAYb_STATUS_STATE b (if s.bayOut b then 5 else if s.stepping b then 4 else if (s.bay b).loading.isSome then 3
      else if (s.bay b).tile.isSome then 2 else 1)).set F.BRN_STATUS_STEPPING
        (setBitOf (s.get F.BRN_STATUS_STEPPING) b (s.stepping b))
  let v := if (List.range 4).any s1.stepping then 2 else 0
  s1.each [16, 17] fun s d => if s.voteSlot d 10 = v then s else s.setVote d 10 v

/-- The map a bay holds. -/
def State.bayMap (s : State) (b : Nat) : Nat := s.getAt F.BRN_BAYb_STATUS_MAP b

/-- Column `m` of a bay is masked. -/
def State.colMasked (s : State) (b m : Nat) : Bool := bitOf (s.getAt F.BRN_BAYb_COLMASK_MASK b) m

/-! Lines and channels (R381) -/

/-- The out line of a bay, and whether it is out for good. -/
def State.outByte (s : State) (b : Nat) : Nat := bitsOf (s.get F.BRN_CHAN_OUT_OUT) (8 * b) 8
def State.outLine (s : State) (b : Nat) : Nat := s.outByte b % 32
def State.outFixed (s : State) (b : Nat) : Bool := bitOf (s.outByte b) 7

/-- Set its byte. -/
def State.setOut (s : State) (b line : Nat) (fixed : Bool) : State :=
  let w := s.reg R.BRN_CHAN_OUT 0
  let m := BitVec.ofNat 32 (0xFF * 2 ^ (8 * b))
  s.setReg R.BRN_CHAN_OUT 0 ((w &&& ~~~ m) ||| BitVec.ofNat 32 ((line + if fixed then 0x80 else 0) * 2 ^ (8 * b)))

/-- The line that carries logical channel `c`. -/
def State.chanLine (s : State) (b c : Nat) : Nat := bitsOf (s.reg R.BRN_BAYb_MAPw (8 * b + c / 4)).toNat (8 * (c % 4)) 8

/-- Set it. -/
def State.setChanLine (s : State) (b c line : Nat) : State :=
  let w := s.reg R.BRN_BAYb_MAPw (8 * b + c / 4)
  let m := BitVec.ofNat 32 (0xFF * 2 ^ (8 * (c % 4)))
  s.setReg R.BRN_BAYb_MAPw (8 * b + c / 4) ((w &&& ~~~ m) ||| BitVec.ofNat 32 (line * 2 ^ (8 * (c % 4))))

/-- The out line takes over the channel of `line`, which becomes the out line. -/
def State.moveLine (s : State) (b line : Nat) (fixed : Bool) : State :=
  let l := s.outLine b
  let s1 := match (List.range 31).find? fun c => s.chanLine b c == line with
    | some c => s.setChanLine b c l
    | none => s
  s1.setOut b line fixed

/-! Tiles (R375 to R378) -/

/-- The largest M, and the map, of a Barn tile. -/
def State.barnCols (s : State) (t : TileJob) : Nat :=
  ((s.tileDescs t 256 0).filter fun d => d.op == 0x10).foldl (fun m d => max m d.m) 0
def State.barnMap (s : State) (t : TileJob) : Nat := (readDesc (s.descBytes t 0)).wset

/-- The bay may run the tile once it is idle: in service, no column it needs masked, not one it has timed out on (R391). -/
def State.bayMay (s : State) (t : TileJob) (b : Nat) : Bool :=
  !s.bayOut b && t.notBay != some b && (List.range (s.barnCols t)).all fun m => !s.colMasked b m

/-- It runs no tile, and is not in a rotation step nor waits for a move. -/
def State.bayIdle (s : State) (b : Nat) : Bool :=
  !s.stepping b && (s.bay b).tile.isNone && (s.bay b).cut.isNone && (s.bay b).loading.isNone && (s.bay b).lostLine.isNone

/-- The first descriptor of the tile of a TILE entry is a BARN_HINT. -/
def State.isHint (s : State) (t : TileJob) : Bool := (readDesc (s.descBytes t 0)).op == 0x12

/-- A waiting tile names map `m`: one that waits for re-issue, or at the head of a ring. -/
def State.mapAwaited (s : State) (m : Nat) : Bool :=
  s.barn.waiting.any (fun t => s.barnMap t == m) || s.armedRings.any fun i =>
    s.tileReady i 1 && !s.isHint (s.ringTile i) && s.barnMap (s.ringTile i) == m

/-- The tile of the bay may be cut for one of class 0 (14 R407). -/
def State.bayCuts (s : State) (b : Nat) : Bool :=
  !s.stepping b && (s.bay b).cut.isNone && (s.bay b).loading.isNone && (s.bay b).lostLine.isNone && match (s.bay b).tile with
    | some t => t.cls != 0
    | none => false

/-- A tile is issued to bay `b`, whose own tile it cuts. -/
def State.putBay (s : State) (b : Nat) (t : TileJob) : State :=
  let x := s.bay b
  (s.setBay b { x with tile := some t, cut := if x.tile.isSome then x.tile else x.cut }).when x.tile.isSome fun s => s.inc F.DSP_COUNTS_CUTS

/-- Where a Barn tile stands: on a bay, waiting, or nowhere (R378). A class-0 tile takes a bay from a tile of classes 1 to 3, which is cut
between its descriptors and resumes there. -/
def State.bayOf (s : State) (t : TileJob) : Place :=
  let may := (List.range 4).filter (s.bayMay t)
  let idle := may.filter s.bayIdle
  let m := s.barnMap t
  if s.barn.failed || may.isEmpty then .nowhere
  else match idle.find? fun b => s.bayMap b == m with
    | some b => .on b
    | none => match idle.find? fun b => !s.mapAwaited (s.bayMap b) with
      | some b => .on b
      | none => match if t.cls = 0 && idle.isEmpty then may.find? s.bayCuts else none with
        | some b => .on b
        | none => .later

/-- A Barn tile that no bay can run ends: event 0x0B30. -/
def State.noBay (s : State) (t : TileJob) : State :=
  ((s.ev 0x0B30 (readDesc (s.descBytes t 0)).tileId).inc F.BRN_COUNTS_NO_BAY).finishTile t 10

/-- A Barn domain has failed: tiles that wait for it end with DOMAIN_FAILED (05 R172). -/
def State.barnDead (s : State) : Bool := s.failed 16 || s.failed 17

/-- Dispatcher vote slot 3 for BARN_ARRAY: tiles on bays or waiting, or a hint (05 Table 05.4a; R376). -/
def State.barnVotes (s : State) : State :=
  let busy := s.barn.hint || !s.barn.waiting.isEmpty || (List.range 4).any fun b => (s.bay b).tile.isSome || (s.bay b).cut.isSome
  let v := if busy then 2 else 0
  if s.voteSlot 17 3 = v then s else s.setVote 17 3 v

/-- A hint's vote ends when a Barn operation issues (R376). -/
def State.endHint (s : State) : State := { s with barn := { s.barn with hint := false } }.barnVotes

/-- One tile that waits for re-issue. -/
def State.rebayOne (s : State) (t : TileJob) : State :=
  let s1 := { s with barn := { s.barn with waiting := s.barn.waiting.erase t } }
  if s.barnDead then s1.finishTile t 4
  else match s1.bayOf t with
  | .on b => ((s1.putBay b t).endHint).showBays
  | .nowhere => s1.noBay t
  | _ => s

/-- Every waiting tile is placed where a bay may take it, class by class. -/
def State.serveBarn (s : State) : State :=
  let s1 := if s.barnReady || s.barn.failed || s.barnDead then
      s.each (((List.range 4).map fun c => s.barn.waiting.filter fun t => t.cls == c).flatten) fun s t => s.rebayOne t
    else s
  s1.barnVotes

/-- A tile on a bay is abandoned and waits to be issued again from its first descriptor (R389, R391). -/
def State.abandonBay (s : State) (b : Nat) (timeout : Bool) : State :=
  let x := s.bay b
  let ts := (x.tile.toList ++ x.cut.toList).map fun t =>
    { t.anew timeout with notBay := if timeout then some b else t.notBay }
  ({ s with barn := { s.barn with waiting := s.barn.waiting ++ ts } }.setBay b { x with tile := none, cut := none, loading := none }).endAccess
    (.bay b)

/-- The tile of a bay is over; one that it cut resumes there (14 R407). -/
def State.freeBay (s : State) (b : Nat) : State :=
  (s.setBay b { s.bay b with tile := (s.bay b).cut, cut := none }).endAccess (.bay b)

/-- A tile of a bay ends with a status. -/
def State.endBayTile (s : State) (b status : Nat) : State :=
  match (s.bay b).tile with
  | some t => (((s.freeBay b).incAt F.BRN_BAYb_COUNTS_TILES b).finishTile t status).showBays.serveBarn
  | none => s

/-- A Barn descriptor of any operation keeps to Table 13.3. -/
def Desc.barnOk (d : Desc) : Bool :=
  let only := d.flags == 4 * b2n d.last + 16 * b2n d.trunc + 32 * b2n d.relu && d.mode == 4 * b2n d.uint
  let zero := d.wfmt == 0 && d.outliers == 0 && d.wgt == 0 && d.scales == 0 && d.emul == 0 && d.rest == 0 && d.env == 0xFF
  let func := bitsOf d.func 5 3 == 0 && bitsOf d.func 2 3 ≤ 4
  let mat := 1 ≤ d.k && d.k ≤ 31 && 1 ≤ d.m && d.m ≤ 32 && 1 ≤ d.n && inSpaces [2] d.src && inSpaces [2] d.dst
    && (d.src' 0).fits && (d.dst' 0).fits
  only && zero && func && mat && d.wset < 64 && bitsOf d.tally 12 4 == 0 && (d.tallyAdd == 0 || d.last)

/-- The map is loaded (R379). -/
def State.mapLoaded (s : State) (m : Nat) : Bool := s.flag F.BRN_STATUS_MAPS_VALID && s.barn.maps.any fun p => p.1 == m

/-- The checks of R297 on a Barn descriptor: 0, or the status it ends with. -/
def State.barnCheck (s : State) (b : List Byte) : Nat :=
  let d := readDesc b
  if fieldAt b 60 4 ≠ crc32 (b.take 60) then 6
  else if !(0x10 ≤ d.op && d.op ≤ 0x12 && d.barnOk && (d.slot == 0xFF || s.numOk d.slot) && s.mapLoaded d.wset) then 5
  else if (d.dst' 0).meets (d.src' 0) then 7
  else 0

/-- A descriptor of a bay fails a check: event 0x0804, with 0xFF for the stall. -/
def State.rejectBay (s : State) (b status : Nat) : State :=
  ((s.ev2 0x0804 0xFF status).inc F.STL_COUNTS_REJECTS).endBayTile b status

/-- The current descriptor of bay `b` is of operation `op`, or fails a check: a BARN_HINT stands alone in its tile, so one on a bay does. -/
def State.onBay (s : State) (b op : Nat) (f : State → TileJob → Desc → State) : State :=
  match (s.bay b).tile with
  | none => s
  | some t =>
    if !s.barnReady || !s.span.barnLock || (s.bay b).loading.isSome || s.stepping b || s.bayOut b || (s.bay b).lostLine.isSome then s
    else s.reach (.bay b) .loft (t.first + 64 * t.pos) (fun s =>
      let raw := s.descBytes t t.pos
      let d := readDesc raw
      let bad := s.barnCheck raw
      if bad ≠ 0 then s.rejectBay b bad
      else if d.op = 0x12 then s.rejectBay b 5
      else if d.op ≠ op then s
      else f s t d) fun s => s.endBayTile b 4

/-- The tile goes on behind its descriptor; its last one ends it with OK. -/
def State.bayDone (s : State) (b : Nat) (t : TileJob) (d : Desc) : State :=
  if s.endsTile t t.pos then
    (s.setBay b { s.bay b with tile := some { t with status := 0, tally := d.tally, tallyAdd := d.tallyAdd } }).endBayTile b 0
  else s.setBay b { s.bay b with tile := some { t with pos := t.pos + 1 } }

/-- A map begins to load. -/
def State.loadMap (s : State) (b m : Nat) : State := (s.setBay b { s.bay b with loading := some m }).showBays

/-- Row `m` of a map, its scale. -/
def mapRow (d : List Byte) (m k : Nat) : List Int := (slice d (32 * m) k).map fun w => w.toInt
def mapScale (d : List Byte) (m : Nat) : Int := f16 (fieldAt d (1024 + 2 * m) 2)

/-- acc of R377 step 4 in binary32, from y and the integer z × WSUM. -/
def barnAcc (scale y zw : Int) : Int := mul32 scale (add32 y (-(ofInt32 zw)))

/-! Precision (R374) and the estimate of a column (R377) -/

/-- Symbols S of an INTEG code, and its effective bits EB in tenths (Table 13.2). -/
def barnSymbols (integ : Nat) : Nat := 4 ^ integ
def barnBits (integ : Nat) : Nat := [46, 56, 65, 72].getD integ 46

/-- R374's bound on the errors of y over a list of vectors: their mean square is at most (2^−EB × 127 × 255 × K)², here raised to the fifth
power, which makes 2^−EB whole. It is what a claim may assume of Config.barnCode (log 59). -/
def barnPrecise (integ k : Nat) (errors : List Int) : Prop :=
  ((errors.map fun e => e * e).sum.toNat) ^ 5 * 2 ^ barnBits integ ≤ errors.length ^ 5 * (127 * 255 * k) ^ 10

/-- INTEG and the DAC's effective bits D of a descriptor. -/
def Desc.integ (d : Desc) : Nat := bitsOf d.func 0 2
def Desc.dacBits (d : Desc) : Nat := 4 + bitsOf d.func 2 3

/-- The inputs u′ of a vector: the unsigned codes with their low 8 − D bits cleared (steps 1 and 2). -/
def barnInputs (d : Desc) (codes : List Byte) : List Nat :=
  codes.map fun c => let q := 2 ^ (8 - d.dacBits); lineCode d.uint c / q * q

/-- y of a column in binary32: GAIN × Σ (code − DARK) / S over its S codes (step 3), GAIN binary16 and DARK Q8.8. -/
def barnY (gain dark : BitVec 16) (codes : List Byte) : Int :=
  let sum : Int := 256 * (codes.map fun c => (c.toNat : Int)).sum - codes.length * dark.toNat
  mul32 (f16 gain.toNat) (sum * 2 ^ 149 / (256 * codes.length))

/-- The codes of a column, one a symbol. -/
def barnCodes (draw : Nat) (d : Desc) (weights : List Int) (u : List Nat) : List Byte :=
  (List.range (barnSymbols d.integ)).map fun k => Config.barnCode draw k weights u

/-- BARN_MATMUL runs. The codes that the receivers give are free, by the vector's draw, the weights and the inputs applied (log 59). -/
def State.runBarn (s : State) (b : Nat) (t : TileJob) (d : Desc) : State :=
  let m := s.tileMem t
  let map := elGet [] s.barn.maps d.wset
  let z : Int := lineCode d.uint (BitVec.ofNat 8 d.zpIn)
  let taint := (d.src' 0).taint m
  let r := s.latch t d
  let cfg := d.outCfg (r.2.scaleOf d)
  let vs := (d.vectors m 0).zipIdx.map fun p => (List.range d.m).map fun c =>
    let row := mapRow map c d.k
    let y := barnY (elGet 0 s.barn.gain (32 * b + c)) (elGet 0 s.barn.dark (32 * b + c))
      (barnCodes (s.free + p.2 * d.m + c) d row (barnInputs d p.1))
    outStage cfg (f16 d.outScale) (barnAcc (mapScale map c) y (z * row.sum))
  let flat := vs.flatten
  let bytes := vs.map fun v => v.map fun o => BitVec.ofInt 8 o.code
  let t1 := { r.2.count d.slot taint flat with
    writes := t.writes ++ vecWrites (d.dst' 0).loc d.dstStride taint bytes, taint := t.taint ||| taint }
  let s1 := { r.1 with free := s.free + d.n * d.m }
  ((s1.setBay b { s1.bay b with tile := some t1 }).numFaults 0xFF (b2n (bad16 d.outScale)) (flat.filter (·.past)).length).bayDone
    b t1 d

/-- BARN_MATMUL (R376, R377): a bay that holds another map loads the tile's first. -/
def execBarnMatmul (b : Fin 4) (s : State) : Out :=
  done (s.onBay b 0x10 fun s t d =>
    if s.bayMap b ≠ d.wset then s.loadMap b d.wset
    else s.reachAll (.bay b) [d.src' 0, d.dst' 0] (fun s => s.runBarn b t d) fun s => s.endBayTile b 4)

/-- BARN_LOAD (R376). -/
def execBarnLoad (b : Fin 4) (s : State) : Out := done (s.onBay b 0x11 fun s _ d => s.loadMap b d.wset)

/-! Entries -/

/-- The tile at the issue index of ring `i` can be issued to a bay now. -/
def State.bayable (s : State) (i : Nat) : Bool :=
  s.tileReady i 1 && !s.isHint (s.ringTile i) && match s.bayOf (s.ringTile i) with
    | .on _ => true
    | _ => false

/-- A Barn tile of a ring is issued to a bay; where the Barn is not ready its vote stands and the entry waits. -/
def State.issueBarn (s : State) (i : Nat) (e : List Byte) (t : TileJob) : State :=
  if !(s.issuesTiles t.cls && s.myTurn i s.bayable) then s
  else if s.barn.failed then s.gated i e fun s => (s.passIssue i).noBay t
  else if s.barnDead then s.gated i e fun s => (s.passIssue i).finishTile t 4
  else if !s.barnReady then (if s.voteSlot 17 3 = 2 then s else s.setVote 17 3 2)
  else
    let s0 := s.serveBarn
    match s0.bayOf t with
    | .on b => s0.gated i e fun s => (((s.passIssue i).tileIssued i t.cls).putBay b t).endHint.showBays
    | .nowhere => s0.gated i e fun s => (s.passIssue i).noBay t
    | _ => s0

/-- TILE (R400): UNIT 0 a stall, 1 a bay; its chain is read from the Loft. -/
def State.tileEntry (s : State) (i : Nat) (f : State → List Byte → TileJob → State) : State :=
  s.onEntry i 1 fun s e =>
    let t := s.ringTile i
    s.reach (.ring i) .loft t.first (fun s => f s e t) fun s => f s e t

/-- TILE. -/
def execTile (ring : BitVec 11) (s : State) : Out :=
  let i := ring.toNat
  done (s.tileEntry i fun s e t =>
    if byteAt (entryBody e) 6 = 0 then s.issueEntry i e t
    else if s.isHint t then s
    else s.issueBarn i e { t with wset := 0xFFFF })

/-- BARN_HINT (R376): taken without a bay; alone in its tile. -/
def execBarnHint (ring : BitVec 11) (s : State) : Out :=
  let i := ring.toNat
  done (s.tileEntry i fun s e t =>
    if byteAt (entryBody e) 6 = 1 && s.isHint t && s.issuesTiles t.cls then
      s.gated i e fun s =>
        let s1 := s.passIssue i
        let bad := s1.barnCheck (s1.descBytes t 0)
        if bad ≠ 0 ∨ !s1.endsTile t 0 then
          ((s1.ev2 0x0804 0xFF (if bad = 0 then 5 else bad)).inc F.STL_COUNTS_REJECTS).finishTile t (if bad = 0 then 5 else bad)
        else
          let d := readDesc (s1.descBytes t 0)
          ({ s1 with barn := { s1.barn with hint := true } }.barnVotes).finishTile
            { t with tally := d.tally, tallyAdd := d.tallyAdd } 0
    else s)

/-- HINT_EXPIRY (R376). -/
def execHintExpiry (s : State) : Out := done (if s.barn.hint then s.endHint else s)

/-! Steps (R382, R387) -/

/-- Another bay is in a step. -/
def State.otherSteps (s : State) (b : Nat) : Bool := (List.range 4).any fun x => x != b && s.stepping x

/-- A bay begins a step; its tile stands meanwhile. -/
def State.beginStep (s : State) (b : Nat) (lost : Option Nat) : State :=
  (s.setBay b { s.bay b with part := .dark, lostLine := lost }).showBays

/-- A bay whose line is lost begins its move, unless Brace holds it or another bay steps and the loss is not the comb's (R389). -/
def State.beginMove (s : State) (b : Nat) : State :=
  if (s.bay b).lostLine.isSome && !s.stepping b && !s.bayOut b && !s.flag F.SUP_STATUS_BRACE && ((s.bay b).exempt || !s.otherSteps b) then
    (s.abandonBay b false).beginStep b (s.bay b).lostLine
  else s

/-- Steps that wait begin: moves of lost lines first, then the due step of the lowest bay whose map is loaded, one bay at a time. -/
def State.serveSteps (s : State) : State :=
  if !s.barnReady then s
  else
    let s1 := s.each (List.range 4) fun s b => s.beginMove b
    match (List.range 4).find? fun b => s1.barn.due.contains b with
    | some b =>
      if s1.flag F.SUP_STATUS_BRACE || (List.range 4).any s1.stepping || (s1.bay b).loading.isSome then s1
      else
        let s2 := { s1 with barn := { s1.barn with due := without s1.barn.due b } }
        if s2.bayOut b || s2.rotFixed b then s2 else s2.beginStep b none
    | none => s1

/-- A step of bay `b` is due: it begins where it may, and else waits (R382, R387; 06 R179). -/
def State.stepDue (s : State) (b : Nat) : State :=
  if s.barnReady && s.flag F.BRN_CFG_ROT_EN && !s.bayOut b && !s.rotFixed b && !s.stepping b then
    { s with barn := { s.barn with due := withIdx s.barn.due b } }.serveSteps
  else s

/-- A bay's step is over, with what LAST_STEP shows of it. -/
def State.stepOver (s : State) (b last : Nat) : State :=
  (s.setBay b { s.bay b with part := .none, lostLine := none, exempt := false }).setAt F.BRN_BAYb_STATUS_LAST_STEP b last

/-- A bay's step ends, and what waits for it goes on. -/
def State.endStep (s : State) (b last : Nat) : State := (((s.stepOver b last).showBays).serveSteps).serveBarn

/-- A step is abandoned under R43: a move that a lost line awaits stays due, a rotation step comes again. -/
def State.abandonStep (s : State) (b : Nat) : State :=
  if !s.stepping b then s
  else
    let s1 := s.when (s.bay b).lostLine.isNone fun s => s.calAbandon (.line (Fin.ofNat 4 b))
    ((s1.setBay b { s1.bay b with part := .none }).setAt F.BRN_BAYb_STATUS_LAST_STEP b 4).showBays

/-- Brace, a Barn drop or a chip transition abandons every step (R387). -/
def State.abandonSteps (s : State) : State := s.each (List.range 4) fun s b => s.abandonStep b

/-- A full sweep in progress is abandoned (R387). -/
def State.sweepAbandon (s : State) : State :=
  s.when s.barn.sweeping fun s => { s with barn := { s.barn with sweeping := false } }.calAbandon .sweep

/-- An abandoned calibration is taken up. -/
def State.calTaken (s : State) (e : CalElem) : State := { s with cal := { s.cal with abandoned := without s.cal.abandoned (calKey e) } }

/-- What was abandoned under R43 runs again: rotation steps, moves, and the full sweep of a wake. -/
def State.barnAgain (s : State) : State :=
  let s1 := if s.cal.abandoned.contains (calKey .sweep) && s.get F.BRN_STATUS_STATE == 3 && s.rises 17 then
      ({ s with barn := { s.barn with sweeping := true } }.calTaken .sweep) else s
  if s1.barnReady then
    (s1.each ((List.range 4).map (Fin.ofNat 4)) fun s b =>
      s.when (s.cal.abandoned.contains (calKey (.line b))) fun s => (s.calTaken (.line b)).stepDue b).serveSteps
  else s1

/-- LOCK_TOL, 0 being 1, and UNLOCK_TOL, which lies above it (R372, R390). -/
def State.lockTol (s : State) : Nat := orOne (s.get F.BRN_LOCK_CFG_LOCK_TOL)
def State.unlockTol (s : State) : Nat := max (s.get F.BRN_LOCK_CFG_UNLOCK_TOL) (s.lockTol + 1)

/-- The lock loops run: they stand in Brace (06 R179). -/
def State.loopsRun (s : State) : Bool := !s.flag F.SUP_STATUS_BRACE

/-- Rings have locked: over 16 visits no difference was above LOCK_TOL (R372). -/
def State.locks (s : State) (diff : Byte) : Bool := s.loopsRun && decide (diff.toNat ≤ s.lockTol)

/-- MAP_LOAD_DONE (R376): every ring of the map is locked, with the largest difference of their last 16 visits. -/
def execMapLoadDone (b : Fin 4) (diff : Byte) (s : State) : Out :=
  done (match (s.bay b).loading with
    | none => s
    | some m =>
      if !(s.barnReady && s.locks diff) then s
      else
        let s1 := (((s.setBay b { s.bay b with loading := none }).setAt F.BRN_BAYb_STATUS_MAP b m).showBays).serveSteps
        match (s1.bay b).tile with
        | some t =>
          let d := readDesc (s1.descBytes t t.pos)
          if d.op = 0x11 then s1.bayDone b t d else s1
        | none => s1)

/-! Losses (R388 to R390) -/

/-- BRN_LOSS keeps the first loss. -/
def State.firstLoss (s : State) (stage b el : Nat) : State :=
  if s.flag F.BRN_LOSS_VALID then s
  else (((s.set F.BRN_LOSS_STAGE stage).set F.BRN_LOSS_BAY b).set F.BRN_LOSS_ELEMENT el).set F.BRN_LOSS_VALID 1

/-- A bay goes out of service: event 0x0B25. -/
def State.takeOut (s : State) (b : Nat) : State :=
  if s.bayOut b then s
  else
    let s0 := s.abandonStep b
    let s1 := (s0.setBay b { s0.bay b with lostLine := none, exempt := false }).calTaken (.line (Fin.ofNat 4 b))
    ((((s1.set F.BRN_STATUS_BAYS_OUT (setBitOf (s1.get F.BRN_STATUS_BAYS_OUT) b true)).ev 0x0B25 b).abandonBay b
      false).showBays).serveSteps.serveBarn

/-- Bay `b` loses line `n`, by the comb's loss or its own (R389): its tile is re-issued; the out line stays out; another one's channel
moves; a second loss takes the bay out. -/
def State.lineLost (s : State) (b n : Nat) (comb : Bool) : State :=
  let x := s.bay b
  if s.bayOut b || (s.outFixed b && s.outLine b == n) || x.lostLine == some n then s
  else
    let s1 := (s.abandonStep b).abandonBay b false
    let s2 := s1.setBay b { s1.bay b with losses := x.losses + 1, lostLine := none, exempt := false }
    let fixed := fun s : State => s.set F.BRN_STATUS_ROT_FIXED (setBitOf (s.get F.BRN_STATUS_ROT_FIXED) b true)
    if 1 ≤ x.losses then s2.takeOut b
    else if s2.outLine b = n then ((fixed (s2.setOut b n true)).ev2 0x0B26 b n).showBays.serveSteps.serveBarn
    else (((s2.setBay b { s2.bay b with lostLine := some n, exempt := comb }).beginMove b).serveSteps).serveBarn

/-- Column `m` of a bay is masked. -/
def State.maskColumn (s : State) (b m : Nat) : State :=
  s.setAt F.BRN_BAYb_COLMASK_MASK b (setBitOf (s.getAt F.BRN_BAYb_COLMASK_MASK b) m true)

/-- A located loss (R388, R389): logged once and handled. -/
def State.loss (s : State) (l : Loss) : State :=
  let b := l.bay.val
  let n := l.place.val
  if l.stage = 0 then
    if bitOf (s.get F.BRN_COMB_MASK_LOST) n then s
    else
      (((s.ev 0x0B20 n).firstLoss 0 0 n).set F.BRN_COMB_MASK_LOST (setBitOf (s.get F.BRN_COMB_MASK_LOST) n true)).each
        (List.range 4) fun s b => s.lineLost b n true
  else if l.stage = 1 then
    if s.bayOut b || (s.outFixed b && s.outLine b == n) || (s.bay b).lostLine == some n then s
    else ((s.ev2 0x0B21 b n).firstLoss 1 b n).lineLost b n false
  else if s.colMasked b n then s
  else
    let s1 := if l.stage = 2 then s.ev2 0x0B22 b n else s.ev2 0x0B23 b (n + 32 * (l.stage.val - 3))
    (((s1.firstLoss l.stage.val b n).abandonStep b).maskColumn b n).serveSteps

/-- The loss threshold in 0.1 dB; below 0.5 dB it is 0.5 dB (R386). -/
def State.lossDb (s : State) : Nat := max 5 (s.get F.BRN_CFG_LOSS_DB)

/-- The checks that fail: the ratio lies more than LOSS_DB below its reference. -/
def State.failing (s : State) (l : List Loss) : List Loss := l.filter fun x => s.lossDb < x.drop

/-- Losses of one check: in the order of their stages. -/
def State.losses (s : State) (l : List Loss) : State :=
  s.each (((List.range 5).map fun k => (s.failing l).filter fun x => x.stage.val == k).flatten) fun s x => s.loss x

/-- A ring is unlocked (R390): a modulator ring is a line loss, a weight ring a column loss. -/
def State.unlockRing (s : State) (r : Nat) : State :=
  let b := r / 1056
  let k := r % 1056
  let s1 := ((s.ev 0x0B24 r).inc F.BRN_COUNTS_UNLOCKS).firstLoss 5 b r
  if k < 32 then s1.lineLost b k false
  else if s1.colMasked b ((k - 32) / 32) then s1 else ((s1.abandonStep b).maskColumn b ((k - 32) / 32)).serveSteps

/-- RING_UNLOCK (R390): over 64 visits no difference was at most UNLOCK_TOL; `diff` is the smallest. -/
def execRingUnlock (ring : BitVec 13) (diff : Byte) (s : State) : Out :=
  done (if s.barnReady && s.loopsRun && decide (s.unlockTol < diff.toNat) && ring.toNat < 4224 then s.unlockRing ring.toNat else s)

/-! Wake (R369, R385, R391, R393) -/

/-- The comb has locked: event 0x0B01, and the array's wake goes on where it waits for it. -/
def State.combUp (s : State) : State :=
  (({ s with barn := { s.barn with attempts := 0 } }.set F.BRN_STATUS_COMB_LOCKED 1).ev 0x0B01 0).when
    (s.rises 17 && (s.get F.BRN_STATUS_STATE == 1 || s.get F.BRN_STATUS_STATE == 5)) fun s => s.combOn

/-- COMB_LOCKED (R369). -/
def execCombLocked (s : State) : Out :=
  done (if s.isUp && s.rises 16 && !s.barn.failed && !s.flag F.BRN_STATUS_COMB_LOCKED then s.combUp else s)

/-- The maps section has been read since the store was lost, or the image has none (R380). -/
def State.mapsRead (s : State) : Bool := s.barn.fetched || !s.flag F.IMG_STATUS_BARN_IMAGE

/-- The wake's re-lock or sweep is over: the Barn is ready once the maps section has been read (R385); rings that were not found are handled
as unlocked, waiting tiles issue, and what was abandoned runs again. -/
def State.barnUp (s : State) (missing : List Nat) : State :=
  if !s.mapsRead then { s with barn := { s.barn with found := some missing } }
  else
    let s1 := { s with span := { s.span with barnLock := true }, barn := { s.barn with found := none } }.set F.BRN_STATUS_STATE 4
    ((((s1.each missing fun s r => s.unlockRing r).showBays).barnAgain).serveBarn)

/-- Column gains come into use. -/
def State.setGains (s : State) (k : Nat) (l : List (BitVec 16)) : State :=
  { s with barn := { s.barn with gain := tblPutRange (fun _ => (0 : BitVec 16)) s.barn.gain k l } }

/-- RELOCK_DONE (R385): event 0x0B05 with the rings not found within ±32 codes of their setpoints. -/
def execRelockDone (missing : List (BitVec 13)) (gains : List (BitVec 16)) (s : State) : Out :=
  done (if s.isUp && s.rises 17 && s.get F.BRN_STATUS_STATE == 2 && s.barn.found.isNone && s.loopsRun then
    let ms := (missing.map (·.toNat)).eraseDups.filter (· < 4224)
    ((s.setGains 0 (gains.take 128)).ev 0x0B05 ms.length).barnUp ms
  else s)

/-- A ring's sweep result is plausible (R384). -/
def ringFine (r : RingMeas) : Bool := 64 ≤ r.centre.toNat && r.centre.toNat ≤ 4031 && 20 ≤ r.extinction

/-- Setpoints and transfer curves found by a sweep (R373, R384). -/
def State.setPoints (s : State) (l : List RingMeas) : State :=
  { s with barn := { s.barn with setp := l.foldl (fun t r => elPut 0 t r.ring (0x8000 ||| r.centre.setWidth 16)) s.barn.setp
                                 curves := l.foldl (fun t r => elPut (0, 0) t r.ring (r.width, r.extinction)) s.barn.curves } }

/-- A full sweep's result: plausible rings take their new setpoints, the others are handled as unlocked (R384). -/
def State.fullSweep (s : State) (m : SweepMeas) : State :=
  let good := m.rings.filter fun r => r.ring < 4224 && ringFine r
  let bad := (List.range 4224).filter fun r => !good.any fun g => g.ring == r
  ((((({ s with barn := { s.barn with sweeping := false } }.setPoints good).setGains 0 (m.gains.take 128)).ev 0x0B04 0).calPass
    .sweep).calChanged).barnUp bad

/-- A full sweep without its precondition is rejected, and comes again behind its back-off (R384; 01 R32). -/
def State.sweepRejected (s : State) : State :=
  ({ s with barn := { s.barn with sweeping := false } }.ev 0x0B11 0xFF).calReject .sweep

/-- SWEEP_DONE (R384). -/
def execSweepDone (meas : SweepMeas) (s : State) : Out :=
  done (if s.isUp && s.rises 17 && s.get F.BRN_STATUS_STATE == 3 && s.barn.sweeping then
    if meas.combLocked && s.flag F.BRN_STATUS_COMB_LOCKED then s.fullSweep meas else s.sweepRejected
  else s)

/-- The Barn is failed until the next cold start: every waiting tile ends (R391). -/
def State.barnFails (s : State) : State :=
  ({ s with barn := { s.barn with failed := true } }.set F.BRN_STATUS_STATE 6 |>.ev 0x0B03 0).serveBarn

/-- The comb has lost lock: it starts again, the bays hold issue and their tiles wait for re-issue. -/
def State.combLost (s : State) : State :=
  let st := s.get F.BRN_STATUS_STATE
  let s1 := ({ s with barn := { s.barn with found := none } }.sweepAbandon).set F.BRN_STATUS_COMB_LOCKED 0
  let s2 := s1.when (s.rises 17) fun s => s.set F.BRN_STATUS_STATE (if st = 2 ∨ st = 4 ∨ st = 5 then 5 else if st = 3 then 1 else st)
  ((s2.each (List.range 4) fun s b => (s.abandonStep b).abandonBay b false).showBays).barnVotes

/-- COMB_LOCK_LOSS (R391): the bays hold issue and the comb restarts; while it starts, an attempt has failed (log 60). -/
def execCombLockLoss (s : State) : Out :=
  done (if s.isUp && s.rises 16 && !s.barn.failed then
    if s.flag F.BRN_STATUS_COMB_LOCKED then s.combLost
    else
      let n := s.barn.attempts + 1
      ({ s with barn := { s.barn with attempts := n } }.ev 0x0B02 n).when (3 ≤ n) fun s => s.barnFails
  else s)

/-- BAY_WATCHDOG (R391): re-issued once to another eligible bay; the second timeout ends the tile. -/
def execBayWatchdog (b : Fin 4) (s : State) : Out :=
  done (match (s.bay b).tile with
    | some t =>
      if !s.barnReady || s.stepping b then s
      else if t.again then
        ((((s.setBay b { s.bay b with loading := none }).freeBay b).finishTile t 9).showBays).serveBarn
      else ((s.abandonBay b true).ev 0x0B31 b).showBays.serveBarn
    | none => s)

/-- The maps section is read: a valid one fills the store, an invalid one loads no map (R379). -/
def State.loadMaps (s : State) (b : List Byte) : State :=
  let s1 := { s with barn := { s.barn with fetched := true } }
  if b.isEmpty then s1
  else if barnValid b then
    let maps := (barnEntries b).foldl (fun (t : Tab (List Byte)) (e : Nat × List Byte) => elPut [] t e.1 e.2) []
    { s1 with barn := { s1.barn with maps := maps } }.set F.BRN_STATUS_MAPS_VALID 1
  else s1.ev 0x0B00 0

/-- MAP_FETCH (R380): at the first Barn wake after the store was lost the section is read again, which a wake that has ended otherwise waits
for (R385); a digest that does not match raises warm-start tampering, and the Barn stays off. -/
def execMapFetch (s : State) : Out :=
  done (if s.isUp && s.coreOn && !s.mapsRead && !s.barn.failed && 0 < s.voteLevel 16 && !s.flag F.STW_NVM_GRANTED && s.bankOk 1
      && s.loopsRun && s.boot.writing.isNone then
    let slot := s.get F.IMG_BOOT_ACTIVE_SLOT
    let h := s.imgHead slot
    if s.secGood slot h 11 then
      let s1 := s.loadMaps (s.section slot h 11)
      match s1.barn.found with
      | some ms => s1.barnUp ms
      | none => s1
    else
      (((({ s with barn := { s.barn with failed := true, barred := true } }.set F.BRN_STATUS_STATE 6).ev 0x0B07 0).serveBarn).recompute).alarm 8
  else s)

/-! The rotation (R382 to R384, R387) -/

/-- ROTATION_STEP (R382): ROT_PERIOD has run out; the timer stands while a calibration of the bay is in back-off. -/
def execRotationStep (b : Fin 4) (s : State) : Out :=
  done (if s.calLevel (.dark b) = 0 ∧ s.calLevel (.line b) = 0 then s.stepDue b else s)

/-- The bay is in this part of its step, and the step runs. -/
def State.inPart (s : State) (b : Nat) (p : StepPart) : Bool := s.barnReady && (s.bay b).part == p

/-- The step goes on to another part. -/
def State.toPart (s : State) (b : Nat) (p : StepPart) : State := s.setBay b { s.bay b with part := p }

/-- A calibration of the step is rejected: the step ends without a move; a lost line's bay goes out (R382, R389). -/
def State.stepRejected (s : State) (b last : Nat) : State :=
  if (s.bay b).lostLine.isSome then (s.stepOver b last).takeOut b else s.endStep b last

/-- Rows of dark levels are plausible: 112 to 144 codes in Q8.8. -/
def darkFine (d : BitVec 16) : Bool := 112 * 256 ≤ d.toNat && d.toNat ≤ 144 * 256

/-- Every modulator reads blanked: at least BLANK_DB below its line's comb monitor. -/
def State.blanked (s : State) (m : DarkMeas) : Bool :=
  (List.range 32).all fun n => 10 * s.get F.BRN_CFG_BLANK_DB ≤ m.depth.getD n 0

/-- DARK_LEVEL_DONE (R383). -/
def execDarkLevelDone (b : Fin 4) (meas : DarkMeas) (s : State) : Out :=
  let ds := (List.range 32).map fun m => meas.dark.getD m 0
  let reject := fun step => (((s.ev2 0x0B10 b step).incAt F.BRN_BAYb_COUNTS_DARK_REJECTS b).calReject (.dark b)).stepRejected b 2
  done (if s.inPart b .dark then
    if !s.blanked meas then reject 1
    else if !ds.all darkFine then reject 3
    else
      let tab := tblPutRange (fun _ => (0 : BitVec 16)) s.barn.dark (32 * b) ds
      ((({ s with barn := { s.barn with dark := tab } }.calPass (.dark b)).calChanged).toPart b .sweep)
  else s)

/-- The rings of line `l` of a bay: its modulator and its 32 weight rings (R371). -/
def lineRings (b l : Nat) : List Nat := (1056 * b + l) :: (List.range 32).map fun m => 1056 * b + 32 + 32 * m + l

/-- LINE_SWEEP_DONE (R384): the rings of the out line. -/
def execLineSweepDone (b : Fin 4) (meas : SweepMeas) (s : State) : Out :=
  let l := s.outLine b
  let got := meas.rings.filter fun r => (lineRings b l).contains r.ring
  let fine := (lineRings b l).all fun n => got.any fun r => r.ring == n && ringFine r
  done (if s.inPart b .sweep then
    if !(meas.combLocked && s.flag F.BRN_STATUS_COMB_LOCKED && fine) then
      (((s.ev2 0x0B11 b l).incAt F.BRN_BAYb_COUNTS_SWEEP_REJECTS b).calReject (.line b)).stepRejected b 3
    else
      ((((s.setPoints got).setGains (32 * b) (meas.gains.take 32)).calPass (.line b)).calChanged).toPart b
        (if (s.bay b).lostLine.isSome then .move else .pilot)
  else s)

/-- PILOT_DONE (R388): losses it finds abandon the step and are handled. -/
def execPilotDone (b : Fin 4) (losses : List Loss) (s : State) : Out :=
  let found := (s.failing losses).filter fun l => l.bay == b && 2 ≤ l.stage.val && !s.colMasked b l.place.val
  done (if s.inPart b .pilot then
    if found.isEmpty then s.toPart b .move else (s.abandonStep b).losses found
  else s)

/-- LINE_MOVE_DONE (R382, R389): line L's weight rings have locked; the map table changes at once; a lost line stays out for good, event 0x0B26. -/
def execLineMoveDone (b : Fin 4) (diff : Byte) (s : State) : Out :=
  done (if s.inPart b .move && s.locks diff then
    match (s.bay b).lostLine with
    | some n =>
      (((s.moveLine b n true).set F.BRN_STATUS_ROT_FIXED (setBitOf (s.get F.BRN_STATUS_ROT_FIXED) b true)).ev2 0x0B26 b n).endStep b 1
    | none => ((s.moveLine b ((s.outLine b + 1) % 32) false).inc F.BRN_COUNTS_STEPS).endStep b 1
  else s)

end Sys2Proof.Machine
end

