-- ==== Sys2Proof/Machine/Keys.lean ====
section
/-! DEFINITION. Lifecycle, keys, debug unlock and the JTAG port (16 R451 to R456, R463 to R466; 01 R24). -/

namespace Sys2Proof.Machine

/-- Requests are refused during L2 and L3 (R468). -/
def State.secured (s : State) : Bool := 2 ≤ s.get F.SEC_ALARM_STATUS_LEVEL

/-- A debug write to a SEC register acts; another master's has no effect (R471). -/
def State.debugWrite (s : State) (m : Master) (a : Nat) (f : State → State) : State :=
  s.writeAs m a fun s => if m = .debug then f s else s

/-- Every word of both hashes is staged, and the root key hash is not 0 (R451). -/
def State.hashesStaged (s : State) : Bool :=
  (List.range 16).all (fun k => s.keys.staged.any (·.1 == k)) && s.keys.staged.any (fun p => p.1 < 8 && p.2 != 0)

/-- Table 16.1 allows the change: 0 BLANK, 1 PROVISIONED, 2 SEALED, 3 RETURNED. -/
def State.lcAllowed (s : State) (target : Nat) : Bool :=
  let st := s.get F.SEC_LIFECYCLE_STATE
  (st == 0 && target == 1 && s.hashesStaged) || (st == 1 && (target == 2 || target == 3))
    || (st == 2 && target == 3 && s.flag F.SEC_DBG_STATUS_UNLOCKED && bitOf (s.get F.SEC_DBG_STATUS_SCOPE) 2)

/-- A value written to SEC_LC_REQ (R451, R452): one change at a time; PROVISIONED fuses the staged hashes, RETURNED erases
every erasable key first. -/
def State.lcRequest (s : State) (v : Word) (killed : List (Fin 4)) : State :=
  let t := F.SEC_LC_REQ_TARGET.of v
  if F.SEC_LC_REQ_KEY.of v = 0x4C43 && !s.secured && !s.flag F.SEC_LIFECYCLE_PENDING && s.lcAllowed t then
    let s1 := s.when (t == 1) fun s => s.each s.keys.staged fun s p => s.setReg R.SEC_OTP_HASHk p.1 p.2
    let s2 := s1.when (t == 3) fun s => (s.eraseVolatile).eraseKeys killed
    ((s2.set F.SEC_LIFECYCLE_NEXT t).set F.SEC_LIFECYCLE_PENDING 1).ev 0x0E10 t
  else s

/-- A value written to SEC_OTP_STAGEk: acts only in BLANK (R452). -/
def State.otpStage (s : State) (k : Nat) (v : Word) : State :=
  if s.get F.SEC_LIFECYCLE_STATE = 0 ∧ ¬ s.flag F.SEC_LIFECYCLE_PENDING then
    let before := s.keys.staged.filter fun p => p.1 < k
    let behind := s.keys.staged.filter fun p => k < p.1
    { s with keys := { s.keys with staged := before ++ [(k, v)] ++ behind } }
  else s

/-- OTP_STAGE (R452). -/
def execOtpStage (m : Master) (k : Fin 16) (v : Word) (s : State) : Out :=
  done (s.debugWrite m (R.SEC_OTP_STAGEk.at k) fun s => s.otpStage k v)

/-- The staged envelope's 128 bytes. -/
def State.envelope (s : State) : List Byte :=
  ((List.range 32).map fun k => leBytes 4 (elGet 0 s.keys.keyin k).toNat).flatten

/-- The device serial, 8 bytes big-endian (R456). -/
def State.serial (s : State) : List Byte :=
  beBytes 8 ((s.reg R.SEC_SERIALk 1).toNat * 2 ^ 32 + (s.reg R.SEC_SERIALk 0).toNat)

/-- The ASCII bytes "ZGK1". -/
def zgk1 : List Byte := [0x5A, 0x47, 0x4B, 0x31]

/-- The group key an envelope unwraps to under the identity key (R456), if its point and its tag are good. -/
def unwrap (identity serial e : List Byte) : Option (List Byte) :=
  match ecdhX (beNat identity) (beNat (slice e 16 32)) (beNat (slice e 48 32)) with
  | none => none
  | some z =>
    let k := hkdf32 (beBytes 32 z) serial zgk1
    let nonce := List.replicate 12 (0 : Byte)
    if gcmTag k nonce (slice e 0 16) (slice e 80 32) = slice e 112 16 then some (gcmData k nonce (slice e 80 32)) else none

/-- An install is refused with a RESULT. -/
def State.keyRefused (s : State) (r : Nat) : State := (s.set F.SEC_KEYS_RESULT r).ev 0x0E12 r

/-- INSTALL (R456): state and scope, identity key, trust group, then the tag; a malformed envelope counts as a tag failure
(log 32). -/
def State.install (s : State) : State :=
  let e := s.envelope
  let tg := fieldAt e 2 2
  if s.secured || !(s.get F.SEC_LIFECYCLE_STATE == 1
      || (s.flag F.SEC_DBG_STATUS_UNLOCKED && bitOf (s.get F.SEC_DBG_STATUS_SCOPE) 1)) then s.keyRefused 4
  else if s.keys.identity = [] then s.keyRefused 5
  else if tg = 0 ∨ tg ≠ s.get F.GATE_CFG_TRUST_GROUP then s.keyRefused 3
  else if fieldAt e 0 2 ≠ 1 || !zeroAt e 4 12 then s.keyRefused 2
  else match unwrap s.keys.identity s.serial e, s.liveSlot 2 with
    | none, _ => s.keyRefused 2
    | some _, none => s.keyRefused 4
    | some k, some slot =>
      ((({ s with keys := { s.keys with group := k, grpSlot := slot } }.set F.SEC_KEYS_GROUP 1).set
        F.SEC_KEYS_GROUP_TG tg).set F.SEC_KEYS_RESULT 1).ev 0x0E11 tg

/-- ERASE_GROUP; `failed` when the slot's three erase attempts fail (R469). -/
def State.eraseGroupKey (s : State) (failed : Bool) : State :=
  if s.secured then s
  else (s.dropGroup).when failed fun s => s.killSlot s.keys.grpSlot

/-- A value written to SEC_KEY_CMD: ERASE_GROUP acts ahead of INSTALL (log 33). -/
def State.keyCmd (s : State) (v : Word) (failed : Bool) : State :=
  if F.SEC_KEY_CMD_KEY.of v = 0x4B49 then
    (s.when (v.getLsbD 1) fun s => s.eraseGroupKey failed).when (v.getLsbD 0) fun s => s.install
  else s

/-- A key-store operation starts. -/
def State.runKey (s : State) : KeyOp → State
  | .cmd v failed => s.keyCmd v failed
  | .lc v killed => s.lcRequest v killed

/-- A key-store operation starts now, or waits for the end of Brace, each write for itself (06 R179; log 71). -/
def State.keyOp (s : State) (o : KeyOp) : State :=
  if s.flag F.SUP_STATUS_BRACE then { s with sup := { s.sup with deferred := s.sup.deferred ++ [.key o] } } else s.runKey o

/-- LC_REQUEST (R451). `killed` names the key slots that fail erase (R469). -/
def execLcRequest (m : Master) (v : Word) (killed : List (Fin 4)) (s : State) : Out :=
  done (s.debugWrite m R.SEC_LC_REQ.base fun s => s.keyOp (.lc v killed))

/-- KEY_INSTALL (R456). -/
def execKeyInstall (m : Master) (v : Word) (s : State) : Out :=
  done (s.debugWrite m R.SEC_KEY_CMD.base fun s => s.keyOp (.cmd v false))

/-- ERASE_GROUP (SEC_KEY_CMD). -/
def execEraseGroup (m : Master) (v : Word) (failed : Bool) (s : State) : Out :=
  done (s.debugWrite m R.SEC_KEY_CMD.base fun s => s.keyOp (.cmd v failed))

/-- A value written to SEC_KEYINk by debug. -/
def State.keyIn (s : State) (k : Nat) (v : Word) : State :=
  { s with keys := { s.keys with keyin := elPut 0 s.keys.keyin k v } }

/-! JTAG (R463 to R466; 01 R24) -/

/-- The instruction register takes a code. -/
def State.setIr (s : State) (c : Nat) : State := { s with jtag := { s.jtag with ir := c } }

/-- The holds of R24 begin, until the next cold start: camera ports, MICVDD, rails, microphone clocks and TDM input. -/
def State.scanHolds (s : State) : State :=
  if s.jtag.hold then s
  else
    let s1 := { s with jtag := { s.jtag with hold := true } }
    (((s1.portsStop 6).camStop).stopClocks).set F.EAR_STATUS_MICVDD_ON 0

/-- The JTAG pins reach the part: it is powered, and VDDIO_A lies above its detector (17 R485). -/
def State.jtag? (s : State) (f : State → State) : State := if s.powered && s.bankOk 0 then f s else s

/-- EXTEST, SAMPLE/PRELOAD, HIGHZ and CLAMP apply the holds; IDCODE and BYPASS do not. -/
def execExtest (s : State) : Out := done (s.jtag? fun s => (s.setIr 0x00).scanHolds)
def execSamplePreload (s : State) : Out := done (s.jtag? fun s => (s.setIr 0x01).scanHolds)
def execHighz (s : State) : Out := done (s.jtag? fun s => (s.setIr 0x03).scanHolds)
def execClamp (s : State) : Out := done (s.jtag? fun s => (s.setIr 0x04).scanHolds)

/-- IDCODE reads 0x1096_09AF (R463). -/
def execIdcode (s : State) : Out := done (s.jtag? fun s => (s.setIr 0x02).answer (leBytes 4 0x109609AF))

/-- BYPASS: a one-bit register. -/
def execBypass (s : State) : Out := done (s.jtag? fun s => s.setIr 0xFF)

/-- DBG_CHAL (R465): a fresh challenge replaces the held one; the serial follows it, little-endian (log 30). -/
def execDbgChal (s : State) : Out :=
  done (s.jtag? fun s =>
    let s1 := (s.setIr 0x10).draw
    let c := (List.range 32).map (Config.drbgByte s.free)
    { s1 with jtag := { s1.jtag with challenge := c } }.answer (c ++ (s.serial).reverse))

/-- The hash of the debug token key that the OTP holds. -/
def State.tokenHash (s : State) : List Byte :=
  ((List.range 8).map fun k => leBytes 4 (s.reg R.SEC_OTP_HASHk (8 + k)).toNat).flatten

/-- A token passes in SEALED (R465): its layout, its key's hash, its signature over the challenge read last. -/
def State.tokenGood (s : State) (t : List Byte) : Bool :=
  fieldAt t 0 2 == 1 && fieldAt t 2 2 < 8 && zeroAt t 4 12 && s.jtag.challenge != []
    && sha256 (slice t 16 64) == s.tokenHash
    && ecdsaVerify (beNat (slice t 16 32)) (beNat (slice t 48 32))
      (beNat (sha256 (s.jtag.challenge ++ (s.serial).reverse ++ slice t 0 16))) (beNat (slice t 80 32))
      (beNat (slice t 112 32))

/-- An unlock passes (R466): the Pen is wiped first, the sensors are held, debug access is granted with a vote of slot 13
for CORE_MGMT (log 34), FAILS clears. While PEN is off there is nothing to wipe: no wipe runs and no event 0x0710 is logged, as Table 02.1
has it for an alarm (DESIGN CHOICE, log 209). -/
def State.unlock (s : State) (scope : Nat) : State :=
  let s1 := s.when (0 < s.level 18) fun s => (s.startPenWipe 5).penWiped
  let s2 := ((s1.set F.SEC_DBG_STATUS_HELD 1).camStop).earStop
  let s3 := (({ s2 with jtag := { s2.jtag with failedAt := none } }.set F.SEC_DBG_STATUS_UNLOCKED 1).set
    F.SEC_DBG_STATUS_SCOPE scope).set F.SEC_DBG_STATUS_FAILS 0
  (s3.setVote 23 13 2).ev 0x0E20 scope

/-- A failure of an unlock (R465, R466): FAILS, its event, and from the third failure on source 7. -/
def State.unlockFails (s : State) (code : Nat) : State :=
  let n := satTo 4 (s.get F.SEC_DBG_STATUS_FAILS + 1)
  let s1 := { s with jtag := { s.jtag with failedAt := some s.span.count } }.set F.SEC_DBG_STATUS_FAILS n
  let s2 := s1.ev code (if code = 0x0E21 then n else 0)
  s2.when (decide (3 ≤ n)) fun s => s.alarm 7

/-- An attempt less than 1 s after a failure (R465). -/
def State.tooSoon (s : State) : Bool :=
  match s.jtag.failedAt with
  | some t => (s.span.count - t).toNat < 1024000
  | none => false

/-- DBG_UNLOCK (R465, R466, R468): refused during L2 and L3, and within 1 s of a failure, which counts as a failure; in
SEALED the token is checked, in every other state any token unlocks with every scope bit. -/
def execDbgUnlock (token : List Byte) (s : State) : Out :=
  done (s.jtag? fun s =>
    let s1 := s.setIr 0x11
    if s1.secured then s1
    else if s1.tooSoon then s1.unlockFails 0x0E22
    else if s1.get F.SEC_LIFECYCLE_STATE = 2 then
      if s1.tokenGood token then s1.unlock (fieldAt token 2 2) else s1.unlockFails 0x0E21
    else s1.unlock 7)

end Sys2Proof.Machine
end

