-- ==== Sys2Proof/Machine/Regs.lean ====
section
/-! DEFINITION. Accesses of the masters to the Steward address space: reads, writes by access type, faulting accesses (00 R13
to R16; 01 R35 to R39, R45; 04 R132). -/

namespace Sys2Proof.Machine

/-! What a register reads (00 R13, 01 R37, 02 R62) -/

/-- `n` fields of `w` bits each. -/
def packed (w n : Nat) (f : Nat → Nat) : Nat := (List.range n).foldl (fun v k => v + f k % 2 ^ w * 2 ^ (w * k)) 0

/-- The request that occupies the chip's pending slot: a forced one that stands, else the pending one (05 R167). -/
def PwrState.shownReq (p : PwrState) : Option ChipReq :=
  match p.forced.head? with
  | some q => some q
  | none => p.req

/-- PWR_STATE. -/
def State.stateWord (s : State) : Nat :=
  let p := s.pwr
  let pend := match p.shownReq with
    | some q => 2048 * b2n q.forced + 256 * q.target + 128
    | none => 0
  let fly := match p.fly with
    | some q => 16 * q.target + 8
    | none => 0
  65536 * p.lastCause + pend + fly + p.state

/-- STATE of a watch-program slot: 0 idle, 1 running, 2 waiting, 3 faulted. -/
def SlotPhase.code : SlotPhase → Nat
  | .idle => 0
  | .waiting _ _ => 2
  | .faulted => 3
  | _ => 1

/-- STATE of a stall: 0 off, 1 retain, 2 idle, 3 busy, 4 fenced. -/
def State.stallState (s : State) (st : Nat) : Nat :=
  if s.fenced st then 4
  else if s.level (st / 8) < 2 then s.level (st / 8)
  else if (s.stall st).tile.isSome then 3 else 2

/-- Descriptors active on a Mover channel. -/
def State.chanLen (s : State) (c : Nat) : Nat := (elGet [] s.disp.chans c).length

/-- A state-area write waits (03 R97). -/
def State.writeWaits (s : State) : Bool :=
  (s.boot.wearDue || s.boot.calDue || s.boot.calChanged) && s.boot.writing.isNone

/-- The word instance `i` of a register reads. -/
def State.shown (s : State) (r : RegDef) (i : Nat) : Word :=
  let w := s.reg r i
  let n (v : Nat) : Word := BitVec.ofNat 32 v
  let b := r.base
  if b = R.PWR_STATE.base then n s.stateWord
  else if b = R.PWR_LEVEL0.base then n (packed 2 16 s.level)
  else if b = R.PWR_LEVEL1.base then n (packed 2 8 fun d => s.level (16 + d))
  else if b = R.PWR_BUSY.base then n (packed 1 24 fun d => b2n (s.inFlight d).isSome)
  else if b = R.PWR_PEND.base then n (packed 1 24 fun d => b2n (elGet 0 s.pwr.pend d != 0))
  else if b = R.PWR_VOTEd.base then n (packed 2 16 fun k => s.castVote i k)
  else if b = R.YRD_STATUS.base then
    n (packed 1 16 (fun k => b2n ((s.slot k).phase != .idle && (s.slot k).phase != .faulted))
      + 65536 * packed 1 16 fun k => b2n ((s.slot k).phase == .faulted))
  else if b = R.YRD_SLOTn_STAT.base then F.YRD_SLOTn_STAT_STATE.put w (s.slot i).phase.code
  else if b = R.LOG_STATUS.base then F.LOG_STATUS_INTAKE.put w s.log.intake.length
  else if b = R.LOG_ENTRYe_w.base then n (leNat (s.yardRead (0x4000 + 4 * i) 4))
  else if b = R.IMG_STATE.base then F.IMG_STATE_PENDING.put w (b2n s.writeWaits)
  else if b = R.STL_STALLs_STATUS.base then
    F.STL_STALLs_STATUS_RESERVED.put (F.STL_STALLs_STATUS_STATE.put w (s.stallState i)) (b2n (s.reserved i))
  else if b = R.ROWC_ROWr_STATUS.base then
    n (s.level i + 256 * packed 1 8 (fun p => b2n (s.fenced (8 * i + p)))
      + 65536 * packed 1 8 fun p => b2n (s.stall (8 * i + p)).tile.isSome)
  else if (b = R.NUM_SLOTi_STAT.base ∨ b = R.NUM_SLOTi_SCALE.base) ∧ (s.num i).tainted then 0
  else if b = R.MOV_STATUS.base then
    n (65536 * packed 1 16 (fun c => b2n (0 < s.chanLen c)) + (List.range 16).foldl (fun m c => m + s.chanLen c) 0)
  else if b = R.MOV_CHc_STATUS.base then n (s.chanLen i)
  else if b = R.RNG_STATUS.base then F.RNG_STATUS_ARMED.put w ((List.range 2048).filter s.armed).length
  else w &&& ~~~ r.wo

/-- A register read (00 R13, 04 R132): an RC field is cleared behind it, and a read of SPN_COUNT_LO latches the upper half of the
counter for the master. -/
def State.readReg (s : State) (m : Master) (a : Nat) : State × Word :=
  withReg (regAt a) (s, 0) fun r i =>
    if r.base = R.SPN_COUNT_LO.base then (s.latchCount (masterCode m), s.countLo)
    else if r.base = R.SPN_COUNT_HI.base then (s, elGet 0 s.span.shadow (masterCode m))
    else (s.when (r.rc != 0) fun s => s.setReg r i (s.reg r i &&& ~~~ r.rc), s.shown r i)

/-- A read of SPN_COUNT_LO stalls while an alignment is due (04 R141). -/
def State.countStalls (s : State) (a : Nat) : Bool :=
  s.flag F.SPN_STATUS_ALIGNING && withReg (regAt a) false fun r _ => r.base == R.SPN_COUNT_LO.base

/-! Accesses to memory (01 R35, R38; 02 R60; 07 R208) -/

/-- The first plot of the host window (15 R429). -/
def State.winBase (s : State) : Nat := min 3856 (s.get F.PCI_CFG_WIN_BASE)

/-- A Loft offset lies in the host window. -/
def State.inWindow (s : State) (off : Nat) : Bool := decide (4096 * s.winBase ≤ off) && decide (off < 4096 * s.winBase + 0xF0000)

/-- The part of the memory ranges that a master of Table 01.7 has at all: the Steward and debug all of them but what Table 07.1 keeps
from every master, the host what its window maps (15 R429). -/
def State.inRights (s : State) (m : Master) (a : Nat) (write : Bool) : Bool :=
  match m with
  | .host => inLoft a && s.inWindow (a - 0x10000000)
  | .spi => false
  | .i2c => false
  | _ => if inYard a then a - 0x20000000 < 0x80000 && (!write || (0x8000 ≤ a - 0x20000000 && a - 0x20000000 < 0x20000)) else true

/-- Memory at `a` for an egress master, its access `x` waiting where the domain is off (05 R161): `f` where its plot is clean, `g` where
it is tainted or its domain has failed. -/
def State.atMem (s : State) (a : Nat) (x : StalledAcc) (f : State → Mem → Nat → State) (g : State → State) : State :=
  match memAt a with
  | some (w, off) =>
    let go (s : State) : State := if s.mem.plot w (off / 4096) = 0 then f s w off else g s
    match memDomain w off with
    | some d => s.masterAccess d x go g
    | none => go s
  | none => g s

/-- Debug's access is over: the next Capture-DR shows it (16 R464). -/
def State.finishWrite (s : State) (m : Master) : State := s.when (m == .debug) fun s => { s with jtag := { s.jtag with apDone := true } }

/-- A master's 32-bit read of clean memory: four bytes, or 0 for a faulting access. -/
def State.memRead (s : State) (m : Master) (a : Nat) : State :=
  s.atMem a (.read m a) (fun s w off => s.finishRead (masterCode m) (s.mem.read w off 4)) fun s =>
    (s.faultAccess m a .b32 true false).finishRead (masterCode m) (leBytes 4 0)

/-- A master's 32-bit write of clean memory. -/
def State.memWrite (s : State) (m : Master) (a : Nat) (v : Word) : State :=
  s.atMem a (.write m a v) (fun s w off => { s with mem := s.mem.write w off (leBytes 4 v.toNat) 0 }.finishWrite m) fun s =>
    (s.faultAccess m a .b32 true true).finishWrite m

/-- A debug access reaches memory at all: debug is unlocked. -/
def State.memRights (s : State) (m : Master) (a : Nat) (write : Bool) : Bool :=
  s.inRights m a write && (m != .debug || s.flag F.SEC_DBG_STATUS_UNLOCKED)

/-- A 32-bit read by a master: its four bytes are the answer, 0 for a faulting access. A read that stalls is answered when it completes
(04 R141; 05 R161). -/
def State.readAs (s : State) (m : Master) (a : Nat) : State :=
  let give (s : State) (w : Word) : State := s.finishRead (masterCode m) (leBytes 4 w.toNat)
  if !s.reaches m then give s 0
  else if inRegs a then
    if a % 4 ≠ 0 then give (s.faultAccess m a .b32 false false) 0
    else if s.mayRead m a then
      if s.countStalls a then { s with span := { s.span with reads := s.span.reads ++ [masterCode m] } }
      else
        let r := s.readReg m a
        give r.1 r.2
    else give (s.faultAccess m a .b32 true false) 0
  else if s.memRights m a false then s.memRead m a
  else give (s.faultAccess m a .b32 true false) 0

/-! Register writes (00 R13) -/

/-- A value written to STW_START_REQ (03 R110): ignored while L2 stands (16 R459), held during a start (03 R115). -/
def State.warmReq (s : State) (v : Word) : State :=
  if F.STW_START_REQ_KEY.of v = 0x5752 ∧ v.getLsbD 0 ∧ ¬ s.alarmHold then
    if s.boot.phase = .inStart then { s with boot := { s.boot with warmHeld := true } }
    else if s.isUp then s.resetDue 0xA else s
  else s

/-- A value written to PWR_STW_VOTE0 (`hi` false) or PWR_STW_VOTE1: the slot-0 votes (05 R159). -/
def State.stwVotes (s : State) (hi : Bool) (v : Word) : State :=
  let r := if hi then R.PWR_STW_VOTE1 else R.PWR_STW_VOTE0
  let w := v &&& r.rw
  (s.setReg r 0 w).putVotes 0 ((List.range (if hi then 8 else 16)).map fun d => d + if hi then 16 else 0) fun d =>
    bitsOf w.toNat (2 * (d % 16)) 2

/-- A write to a register whose WO fields act on the value written. -/
def State.writeWo (s : State) (m : Master) (r : RegDef) (i : Nat) (v : Word) : State :=
  let dbg (f : State → State) : State := if m = .debug then f s else s
  let b := r.base
  if b = R.STW_START_REQ.base then s.warmReq v
  else if b = R.PWR_STATE_REQ.base then s.stateReq (if m = .debug then 9 else 0) v
  else if b = R.YRD_WAKE_CLR.base then s.wakeClr v
  else if b = R.EAR_PREROLL_CMD.base then s.prerollCmd v
  else if b = R.SPT_FAULT_CLR.base then s.faultClear v
  else if b = R.RNG_DOORBELL.base then s.ringBell m v
  else if b = R.TLY_OP.base then s.tlyWrite (F.TLY_OP_OP.of v) (F.TLY_OP_TALLY.of v)
  else if b = R.SEC_LC_REQ.base then dbg fun s => s.keyOp (.lc v [])
  else if b = R.SEC_KEY_CMD.base then dbg fun s => s.keyOp (.cmd v false)
  else if b = R.SEC_OTP_STAGEk.base then dbg fun s => s.otpStage i v
  else if b = R.SEC_KEYINk.base then dbg fun s => s.keyIn i v
  else s

/-- A register write: RW bits take the value, W1C bits written 1 clear, WO fields act, all others are ignored. STW_ACCESS_INFO
counts from the clearing of its VALID (01 R45); 0 in PWR_SLEEP_TIMER disarms the timer (05 R165). -/
def State.writeReg (s : State) (m : Master) (a : Nat) (v : Word) : State :=
  withReg (regAt a) s fun r i =>
    if r.base = R.PWR_STW_VOTE0.base then s.stwVotes false v
    else if r.base = R.PWR_STW_VOTE1.base then s.stwVotes true v
    else if r.wo ≠ 0 then s.writeWo m r i v
    else
      let old := s.reg r i
      ((s.setReg r i (((old &&& ~~~ r.rw) ||| (v &&& r.rw)) &&& ~~~ (v &&& r.w1c))).when
        (r.base == R.STW_ACCESS_INFO.base && v.getLsbD 0) fun s => s.set F.STW_ACCESS_INFO_COUNT 0).when
        (r.base == R.PWR_SLEEP_TIMER.base && F.PWR_SLEEP_TIMER_MS.of v == 0) fun s =>
          { s with pwr := { s.pwr with timerArmed := false } }

/-- A 32-bit write by a master whose access is not through BAR0. -/
def State.writeAt (s : State) (m : Master) (a : Nat) (v : Word) : State :=
  if !s.reaches m then s.finishWrite m
  else if inRegs a then
    (if a % 4 ≠ 0 then s.faultAccess m a .b32 false true
    else if s.mayWrite m a then s.writeReg m a v
    else s.faultAccess m a .b32 true true).finishWrite m
  else if s.memRights m a true then s.memWrite m a v
  else (s.faultAccess m a .b32 true true).finishWrite m

/-! The mailbox (15 R431) -/

/-- MB_RESP is written with a status, and vector 1 is sent; a status other than OK is logged and counted. -/
def State.mbAnswer (s : State) (seq : Byte) (cmd st : Nat) : State :=
  ({ s with host := { s.host with mbResp := BitVec.ofNat 32 (st + 256 * seq.toNat) } }.when (st != 0)
    fun s => (s.ev2 0x0D02 cmd st).inc F.PCI_COUNTS_MB_ERRORS).msix 1

/-- The Steward acts by `f` on a command whose arguments keep to their ranges, and answers it OK, any other BAD_ARG. -/
def State.mbAct (s : State) (seq : Byte) (cmd : Nat) (ok : Bool) (f : State → State) : State :=
  (s.when ok f).mbAnswer seq cmd (if ok then 0 else 2)

/-- A write of MB_CMD (Table 15.4): the Steward acts and answers in one step (log 64), WARM before the start that resets the mailbox. A code
that the table does not list is answered BAD_CMD. -/
def State.mbCmd (s : State) (seq : Byte) (cmd : Nat) : State :=
  let a (k : Nat) : Word := s.host.mbArgs.getD k 0
  match cmd with
  | 1 => s.mbAct seq 1 (a 0 < 24 && a 1 < 3) fun s => s.setVote (a 0).toNat 5 (a 1).toNat
  | 2 => s.mbAct seq 2 (a 0 < 4) fun s => s.stateReq 0 (a 0)
  | 3 => s.mbAct seq 3 (a 0 < 256) fun s => s.faultClear (0x50430000 + a 0)
  | 4 => s.mbAct seq 4 (a 0 < 2) fun s => if a 0 = 1 then s.attach 0 else s.detach 0
  | 5 => (s.mbAct seq 5 (a 0 == 0x5752) id).when (a 0 == 0x5752) fun s => s.warmReq 0x57520001
  | _ => s.mbAnswer seq cmd 1

/-! BAR0 (15 R428, R430) -/

/-- An index between the PCIe index and W moves it there (R428); egress is open (16 R459). -/
def State.ackTo (s : State) (i : Nat) : State :=
  let n := outDiff i (s.outIdx 0)
  if s.attached 0 && !s.alarmHold && 0 < n && n ≤ s.waitingFor 0 then (s.setAt F.PCI_RECo_INDEX_INDEX 0 i).freeOutbox else s

/-- A write of REC_ACK: vector 0 may be sent again. -/
def State.recAck (s : State) (v : Word) : State := { s with host := { s.host with vec0 := false } }.ackTo (v.toNat % 256)

/-- A host write to BAR0 offset `o`: any that Table 15.2 does not mark writable is a faulting access, recorded under its BAR0 offset, a write into the register window as well
(DESIGN CHOICE, log 205). -/
def State.bar0Write (s : State) (o : Nat) (v : Word) : State :=
  if o % 4 ≠ 0 then s.faultAccess .host o .b32 false true
  else if o = 0x8 then { s with host := { s.host with winsel := v &&& 0x3F } }
  else if 0x104 ≤ o ∧ o ≤ 0x110 then { s with host := { s.host with mbArgs := setNth s.host.mbArgs ((o - 0x104) / 4) v } }
  else if o = 0x100 then s.mbCmd (v.extractLsb' 8 8) (v.toNat % 256)
  else if o = 0x200 then s.ringBell .host v
  else if o = 0x204 then s.recAck v
  else if 0x1000 ≤ o ∧ o < 0x1200 then
    let k := (o - 0x1000) / 4
    let w := if k % 4 = 3 then v &&& 1 else v
    { s with host := { s.host with msix := tblPut (fun k => if k % 4 = 3 then (1 : Word) else 0) s.host.msix k w } }.flushMsix
  else s.faultAccess .host o .b32 true true

/-- The Steward address that BAR0 offset `o` of the register window names (Table 15.2). -/
def State.winAddr (s : State) (o : Nat) : Option Nat :=
  let blk := s.host.winsel.toNat % 32
  if blk < 25 then some (0x40000000 + 0x10000 * blk + (if s.host.winsel.getLsbD 5 then 0x8000 else 0) + (o - 0x8000)) else none

/-- HOST_STATUS. -/
def State.hostStatus (s : State) : Nat :=
  (if s.attached 0 then min 255 (s.waitingFor 0) else 0) + 256 * b2n (s.attached 0) + 1024 * b2n (!s.disp.notify.isEmpty)

/-- The oldest notification is popped; a completion that waited for room takes it (15 R428, R430). -/
def State.popNotify (s : State) : State × Word :=
  match s.disp.notify with
  | [] => (s, 0)
  | (ring, tag) :: rest =>
    let s1 := { s with disp := { s.disp with notify := rest } }
    let s2 := match s1.disp.notifyHeld with
      | [] => s1
      | (i, idx) :: more => ({ s1 with disp := { s1.disp with notifyHeld := more } }.notifyDone i idx).settle
    (s2, BitVec.ofNat 32 (2 ^ 31 + 65536 * (ring % 2048) + tag))

/-- A host read of BAR0 offset `o`: its answer. -/
def State.bar0Read (s : State) (o : Nat) : State :=
  let give (s : State) (v : Nat) : State := s.answer (leBytes 4 v)
  if 0x8000 ≤ o then
    match s.winAddr o with
    | some a => s.readAs .host a
    | none => give s 0
  else if o % 4 ≠ 0 then give (s.faultAccess .host o .b32 false false) 0
  else if o = 0 then s.readAs .host R.STW_ID.base
  else if o = 4 then give s s.hostStatus
  else if o = 8 then give s s.host.winsel.toNat
  else if 0x104 ≤ o ∧ o ≤ 0x110 then give s (s.host.mbArgs.getD ((o - 0x104) / 4) 0).toNat
  else if o = 0x120 then give s s.host.mbResp.toNat
  else if o = 0x208 then
    let r := s.popNotify
    give r.1 r.2.toNat
  else if 0x1000 ≤ o ∧ o < 0x1200 then give s (s.msixWord ((o - 0x1000) / 4)).toNat
  else if o = 0x1800 then give s s.host.pba
  else give s 0

/-! The commands -/

/-- An operand address of the host below 0x1_0000 is a BAR0 offset; any other names a register through the window. -/
def isBar0 (m : Master) (a : Nat) : Bool := m == .host && a < 0x10000

/-- REGISTER_WRITE (00 R13). -/
def execRegisterWrite (m : Master) (addr v : Word) (s : State) : Out :=
  let a := addr.toNat
  done (if isBar0 m a then (if s.reaches .host then s.bar0Write a v else s) else s.writeAt m a v)

/-- RC_READ (00 R13). -/
def execRcRead (m : Master) (addr : Word) (s : State) : Out :=
  let a := addr.toNat
  done (if isBar0 m a then (if s.reaches .host then s.bar0Read a else s) else s.readAs m a)

/-- SPAN_COUNT_READ (04 R132). -/
def execSpanCountRead (m : Master) (s : State) : Out := done (s.readAs m R.SPN_COUNT_LO.base)

/-- A wrong-width access: anywhere in the register range, any width but 32 bits, or an unaligned address (00 R16, 01 R39). -/
def wrongWidth (a : Nat) (size : AccSize) : Bool := inRegs a && (size != .b32 || a % 4 != 0)

/-- FAULTING_ACCESS (01 R45; 02 R82): a wrong width, an unmapped address, or outside the master's rights; an access to the Pen raises
its alarm source. A wrong width is reported as such whatever the rights (log 62). -/
def execFaultingAccess (m : Master) (target : AccTarget) (size : AccSize) (write : Bool) (s : State) : Out :=
  done (if !s.reaches m then s
    else match target with
      | .pen => if m = .spi ∨ m = .i2c then s else (s.penAccess (masterCode m)).answer []
      | .addr w =>
        let a := w.toNat
        let f (unmapped : Bool) (s : State) : State := (s.faultAccess m a size unmapped write).when (!write) fun s => s.answer (leBytes 4 0)
        if wrongWidth a size then f false s
        else if inRegs a then (if (if write then s.mayWrite m a else s.mayRead m a) then s else f true s)
        else if s.memRights m a write then s.atMem a .touch (fun s _ _ => s) (f true)
        else f true s)

/-- WARM_REQ (03 R110). -/
def execWarmReq (m : Master) (v : Word) (s : State) : Out := done (s.writeAs m R.STW_START_REQ.base fun s => s.warmReq v)

/-- STATE_REQUEST (05 R153). -/
def execStateRequest (m : Master) (v : Word) (s : State) : Out :=
  done (s.writeAs m R.PWR_STATE_REQ.base fun s => s.stateReq (if m = .debug then 9 else 0) v)

/-- VOTE_WRITE (05 R159). -/
def execVoteWrite (m : Master) (hi : Bool) (v : Word) (s : State) : Out :=
  done (s.writeAs m (if hi then R.PWR_STW_VOTE1.base else R.PWR_STW_VOTE0.base) fun s => s.stwVotes hi v)

/-- DBG_AP (16 R464): an access with the debug rights of Table 01.7; the next Capture-DR returns its data, with bit 65 set once it has
completed. -/
def execDbgAp (write : Bool) (addr data : Word) (s : State) : Out :=
  done (s.jtag? fun s =>
  let s1 := { s with jtag := { s.jtag with apDone := false, apData := 0 } }
  if write then s1.writeAt .debug addr.toNat data else s1.readAs .debug addr.toNat)

/-- LOG_WRITE (07 R222). -/
def execLogWrite (s : State) : Out := done (if s.span.running then s.writeLog else s)

end Sys2Proof.Machine
end

