-- ==== Sys2Proof/Machine/Link.lean ====
section
/-! DEFINITION. The Geger link and the group: ports, hops, frames, transfer channels, heartbeats, membership and job ownership
(15 R437 to R444, R446, R448, R450; 10 R307 to R310, R318, R319; 02 R63). -/

namespace Sys2Proof.Machine

/-! The group (10 R307, R308) -/

/-- This chip's ID. -/
def State.chipId (s : State) : Nat := s.get F.STL_GROUP_CHIP_ID

/-- The live set as a mask. -/
def State.live (s : State) : Nat := (s.reg R.STL_LIVEk 0).toNat + 2 ^ 32 * (s.reg R.STL_LIVEk 1).toNat

/-- Its members, ascending. -/
def idsOf (mask : Nat) : List Nat := (List.range 64).filter fun i => bitOf mask i

/-- The leader: the lowest live ID. -/
def leaderOf (mask : Nat) : Nat := (idsOf mask).headD 0

/-- A live set has quorum among MEMBERS: more than half of them, or exactly half with the lowest (R308). A chip without a mapping
table forms a group of itself (R311). -/
def State.quorumOf (s : State) (mask : Nat) : Bool :=
  let m := idsOf s.fab.members
  let n := (m.filter fun i => bitOf mask i).length
  s.fab.members == 0 || m.length < 2 * n || (2 * n == m.length && bitOf mask (m.headD 0))

/-- The live set in force, shown in STL_LIVEk and STL_GROUP. -/
def State.showLive (s : State) (mask : Nat) : State :=
  let s1 := (s.setReg R.STL_LIVEk 0 (BitVec.ofNat 32 mask)).setReg R.STL_LIVEk 1 (BitVec.ofNat 32 (mask / 2 ^ 32))
  ((s1.set F.STL_GROUP_LIVE (idsOf mask).length).set F.STL_GROUP_LEADER (leaderOf mask)).set F.STL_GROUP_QUORUM
    (b2n (s1.quorumOf mask))

/-- The owner of a job under a live set: the first live chip of PRIMARY and the fallbacks (R309). -/
def JobCfg.owner (j : JobCfg) (mask : Nat) : Option Nat := (j.primary :: j.fallback).find? fun c => bitOf mask c

/-- The rings of a job. -/
def JobCfg.list (j : JobCfg) : List Nat := (List.range j.rings).map (· + j.firstRing)

/-! Ring arming (10 R309; 14 R422) -/

/-- A ring that the section configures arms: PI at its preload or, empty, at 0, and past the entries doorbelled while it was disarmed
(14 R418; log 147), as many as the ring holds; II and DI at 0. -/
def State.armRing (s : State) (i : Nat) (empty : Bool) : State :=
  if s.reg R.RNG_RINGi_BASE i = 0 then s
  else
    let r := s.ring i
    let n := min (s.ringSize i) ((if empty then 0 else r.preload) + ringDiff (s.pi i) (s.di i))
    let s1 := s.setRing i { r with ii := 0, finished := [], gateOk := false, tileOut := false }
    ((((s1.setAt F.RNG_RINGi_PI_PI i n).setAt F.RNG_RINGi_DI_DI i 0).setAt F.RNG_RINGi_DI_ISSUED i
      0).setAt F.RNG_RINGi_CFG_ARMED i 1)

/-- A ring disarms; its indices stay. -/
def State.disarmRing (s : State) (i : Nat) : State := s.setAt F.RNG_RINGi_CFG_ARMED i 0

/-- A ring with indices of its own arms again (R308: it resumes). -/
def State.rearmRing (s : State) (i : Nat) : State :=
  s.when (s.reg R.RNG_RINGi_BASE i != 0) fun s => s.setAt F.RNG_RINGi_CFG_ARMED i 1

/-- Every ring of a job is empty. -/
def State.jobEmpty (s : State) (j : JobCfg) : Bool := j.list.all fun i => s.pi i == s.di i

/-! Sending (15 R439, R440) -/

/-- A port is up. While LINK is off LNK_PORTp_STATUS shows what it held at the drop (01 R37). -/
def State.portUp (s : State) (p : Nat) : Bool := s.level 22 == 2 && s.getAt F.LNK_PORTp_STATUS_UP p == 1

/-- Frames a port holds. -/
def State.portHeld (s : State) (p : Nat) : List TxFrame := elGet [] s.link.held p

/-- OUTSTANDING follows the frames a port holds, at most 256 being sent. -/
def State.showHeld (s : State) (p : Nat) : State := s.setAt F.LNK_PORTp_STATUS_OUTSTANDING p (min 256 (s.portHeld p).length)

/-- Set them; OUTSTANDING follows while LINK is on. -/
def State.setHeld (s : State) (p : Nat) (l : List TxFrame) : State :=
  { s with link := { s.link with held := elPut [] s.link.held p l } }.when (s.level 22 == 2) fun s => s.showHeld p

/-- A frame joins a port under the next hop sequence and frame counter. -/
def State.enqueue (s : State) (p : Nat) (f : TxFrame) : State :=
  let q := elGet 0 s.link.lseq p
  let c := elGet 0 s.link.ctr p
  let s1 := { s with link := { s.link with lseq := elPut 0 s.link.lseq p ((q + 1) % 65536)
                                           ctr := elPut 0 s.link.ctr p (c + 1) } }
  s1.setHeld p (s1.portHeld p ++ [{ f with lseq := q, count := c }])

/-- Chips in ring order: MEMBERS, ascending; the link's neighbours are the next members (R438; log 69). -/
def State.hopsEast (s : State) (a b : Nat) : Nat :=
  let m := idsOf s.fab.members
  (m.idxOf b + m.length - m.idxOf a) % m.length

/-- In a double ring a frame travels on sublink B while it has at least 2 hops to go (R438, R439). -/
def State.sublinkB (s : State) (p dst : Nat) : Bool :=
  s.flag F.LNK_CFG_TOPO && 2 ≤ (if p = 0 then s.hopsEast s.chipId dst else s.hopsEast dst s.chipId)

/-- The next chip in a direction, east 0 or west 1: at distance 2 on sublink B, otherwise at distance 1. -/
def State.nextHop (s : State) (p dst : Nat) : Nat :=
  let m := idsOf s.fab.members
  let i := m.idxOf s.chipId
  let k := if s.sublinkB p dst then 2 else 1
  m.getD ((if p = 0 then i + k else i + 2 * m.length - k) % m.length) s.chipId

/-- The port towards a chip: fewer hops, ties east; the other where the next chip that way is not live or the port is down
(R439, R446). -/
def State.portTo (s : State) (dst : Nat) : Nat :=
  let e := s.hopsEast s.chipId dst
  let w := s.hopsEast dst s.chipId
  let p := if e ≤ w then 0 else 1
  if bitOf s.live (s.nextHop p dst) && s.portUp p then p else if s.portUp (1 - p) then 1 - p else p

/-- A frame of this chip: HOPS 63 and the next end-to-end count. -/
def State.newFrame (s : State) (type taint channel dst : Nat) (payload : List Byte) : TxFrame :=
  { lseq := 0, type := type, taint := taint, channel := channel, src := s.chipId, dst := dst, hops := 63,
    ctr := elGet 0 s.link.ctr 2, count := 0, payload := payload }

/-- The end-to-end count moves on. -/
def State.countFrame (s : State) : State :=
  { s with link := { s.link with ctr := elPut 0 s.link.ctr 2 (elGet 0 s.link.ctr 2 + 1) } }

/-- A frame of this chip to another. -/
def State.sendTo (s : State) (type taint channel dst : Nat) (payload : List Byte) : State :=
  (s.enqueue (s.portTo dst) (s.newFrame type taint channel dst payload)).countFrame

/-- A broadcast of this chip on every port that is up. -/
def State.broadcast (s : State) (type : Nat) (payload : List Byte) : State :=
  (s.each ((List.range 2).filter s.portUp) fun s p => s.enqueue p (s.newFrame type 0 0 0xFF payload)).countFrame

/-- The 16 header bytes of a frame (Table 15.7). -/
def TxFrame.header (f : TxFrame) : List Byte :=
  [BitVec.ofNat 8 f.type, BitVec.ofNat 8 (f.taint + 16 * f.channel), BitVec.ofNat 8 f.src, BitVec.ofNat 8 f.dst,
    BitVec.ofNat 8 f.hops, 0] ++ leBytes 2 f.payload.length ++ leBytes 8 f.ctr

/-- The 96-bit nonce of a hop (R440), big-endian. -/
def State.linkNonce (s : State) (p : Nat) (f : TxFrame) : List Byte :=
  beBytes 12 (s.chipId * 2 ^ 90 + p * 2 ^ 89 + (s.link.session.toNat % 2 ^ 25) * 2 ^ 64 + f.count)

/-- The bytes of a frame's data blocks as port `p` sends it: header, encrypted payload, tag and CRC-32 (R440). -/
def State.wire (s : State) (p : Nat) (f : TxFrame) : List Byte :=
  let n := s.linkNonce p f
  let ct := gcmData s.keys.group n f.payload
  let body := f.header ++ ct ++ gcmTag s.keys.group n f.header ct
  body ++ leBytes 4 (crc32 body).toNat

/-! Ports and lanes (15 R437, R448) -/

/-- Lanes a port runs on: the largest of 4, 2 and 1 that its locked lanes fill. -/
def widthOf (locked : Nat) : Nat :=
  let n := ((List.range 4).filter fun l => bitOf locked l).length
  if n = 4 then 4 else if 2 ≤ n then 2 else n

/-- The frames a port held are sent the other way, in their order (R446). -/
def State.moveFrames (s : State) (p : Nat) : State :=
  if s.portUp (1 - p) then s.each (s.portHeld p) (fun s f => s.enqueue (1 - p) f) |>.setHeld p [] else s

/-- A port goes down and retrains: event 0x0D12. -/
def State.portDown (s : State) (p : Nat) : State :=
  if s.portUp p then
    let s1 := { s with link := { s.link with resends := elPut 0 s.link.resends p 0, expect := elPut 0 s.link.expect p 0 } }
    ((((s1.setAt F.LNK_PORTp_STATUS_UP p 0).setAt F.LNK_PORTp_STATUS_LOCKED p 0).setAt F.LNK_PORTp_STATUS_WIDTH p 0).ev 0x0D12
      p).moveFrames p
  else s

/-- A port may come up: enabled, LINK on, a group key held, sealed; without a key it stays down (R448). -/
def State.portMay (s : State) (p : Nat) : Bool :=
  s.isUp && s.level 22 == 2 && s.bankOk 4 && bitOf (s.get F.LNK_CFG_PORT_EN) p

/-- Enabled ports without a group key stay down: event 0x0D13 (log 66). -/
def State.linkKeyless (s : State) : State :=
  s.when (s.get F.LNK_CFG_PORT_EN != 0 && !s.flag F.SEC_KEYS_GROUP) fun s => s.ev 0x0D13 0

/-- LANE_LOCKED (R437): the port comes up on its first locked lane, event 0x0D10. -/
def execLaneLocked (port : Fin 2) (lane : Fin 4) (s : State) : Out :=
  done (if s.portMay port then
    if s.flag F.SEC_KEYS_GROUP then
      let l := setBitOf (s.getAt F.LNK_PORTp_STATUS_LOCKED port) lane true
      let s1 := (s.setAt F.LNK_PORTp_STATUS_LOCKED port l).setAt F.LNK_PORTp_STATUS_WIDTH port (widthOf l)
      if s.portUp port then s1 else (s1.setAt F.LNK_PORTp_STATUS_UP port 1).ev2 0x0D10 port (widthOf l)
    else s.linkKeyless
  else s)

/-- LANE_LOST (R448). -/
def execLaneLost (port : Fin 2) (lane : Fin 4) (s : State) : Out :=
  done (if s.level 22 == 2 && bitOf (s.getAt F.LNK_PORTp_STATUS_LOCKED port) lane then
    let l := setBitOf (s.getAt F.LNK_PORTp_STATUS_LOCKED port) lane false
    let s1 := ((s.setAt F.LNK_PORTp_STATUS_LOCKED port l).setAt F.LNK_PORTp_STATUS_WIDTH port (widthOf l)).ev2 0x0D11 port lane
    s1.when (l == 0) fun s => s.portDown port
  else s)

/-- A port that is up holds a frame which awaits its ACK. -/
def State.linkBusy (s : State) : Bool := (List.range 2).any fun p => s.portUp p && !(s.portHeld p).isEmpty

/-- LINK leaves on behind its transfers (05 Table 05.4): its links are down. Frames that no port could send wait on (01 R26; log 218). -/
def State.linkDrop (s : State) : State := { s with link := { s.link with expect := [], resends := [], credits := [] } }

/-- LINK reaches on: both ports are down until their lanes lock. -/
def State.linkUp (s : State) : State :=
  (s.each (List.range 2) fun s p =>
    (((s.setAt F.LNK_PORTp_STATUS_UP p 0).setAt F.LNK_PORTp_STATUS_LOCKED p 0).setAt F.LNK_PORTp_STATUS_WIDTH p 0).showHeld p).linkKeyless

/-! Channels (15 R441, R442) -/

/-- A channel waits for its gate. -/
def State.armChannel (s : State) (c : Nat) : State :=
  if s.getAt F.LNK_CHn_CFG_ENABLE c = 0 then s
  else
    let w : Waiter := { what := .channel c, ring := 2048 + c, tally := s.getAt F.LNK_CHn_CFG_GATE_TALLY c,
                        value := s.getAt F.LNK_CHn_GATE_GATE_VALUE c, consume := s.getAt F.LNK_CHn_CFG_CONSUME c == 1 }
    let s1 := s.setAt F.LNK_CHn_STAT_STATE c 1
    if w.value ≤ s1.tally w.tally then s1.satisfy w else s1.addWaiter w

/-- Slot 6 of a domain (05 Table 05.4a). -/
def State.linkVote (s : State) (d v : Nat) : State := if s.voteSlot d 6 = v then s else s.setVote d 6 v

/-- A link transfer needs a LOFT domain: `f` where it is on, `g` where it has failed, otherwise the vote of slot 6. -/
def State.linkReach (s : State) (d : Nat) (f g : State → State) : State :=
  if s.steadyAt d 2 then f s else if s.failed d then g s else s.linkVote d 2

/-- A channel's send ends (1 OK, 2 REFUSED) and it waits for its gate again. -/
def State.endChannel (s : State) (c last : Nat) : State :=
  let s1 := { s with link := { s.link with sending := without s.link.sending c } }.setAt F.LNK_CHn_STAT_LAST c last
  (s1.when s1.link.sending.isEmpty fun s => s.linkVote 22 0).armChannel c

/-- A channel is refused: event 0x0D15 with its cause. -/
def State.refuseChannel (s : State) (c cause : Nat) : State := ((s.ev2 0x0D15 c cause).inc F.LNK_COUNTS_REFUSED).endChannel c 2

/-- The import window and trust group of a chip, as its latest heartbeat gives them. -/
def State.peer (s : State) (chip : Nat) : Nat × Nat × Nat := elGet (0, 0, 0) s.link.peers chip

/-- The link rule (02 R63): a tainted plot passes only within a trust group other than 0. -/
def State.trusts (s : State) (chip taint : Nat) : Bool :=
  let g := s.get F.GATE_CFG_TRUST_GROUP
  taint == 0 || (g != 0 && (s.peer chip).2.2 == g)

/-- The DATA frames of channel `c` from its `j`-th plot on, then the DOORBELL; a frame that breaks the link rule ends the send
before it leaves. The fuel is the number of plots left. -/
def State.sendPlots (s : State) (c : Nat) : Nat → Nat → State
  | 0, _ =>
    let s1 := s.sendTo 2 0 c (s.getAt F.LNK_CHn_CFG_DST_CHIP c) (leBytes 2 (s.getAt F.LNK_CHn_RING_REMOTE_RING c) ++ leBytes 2 1
      ++ leBytes 4 0)
    { s1 with link := { s1.link with sending := withIdx s1.link.sending c } }.setAt F.LNK_CHn_STAT_STATE c 2
  | n + 1, j =>
    let plot := s.getAt F.LNK_CHn_ADDR_SRC_PLOT c + j
    let chip := s.getAt F.LNK_CHn_CFG_DST_CHIP c
    let t := s.mem.plot .loft plot
    if s.trusts chip t then
      (s.sendTo 1 t c chip (leBytes 4 (0x40000000 + 4096 * (s.getAt F.LNK_CHn_ADDR_DST_PLOT c + j)) ++ leBytes 4 0
        ++ s.mem.read .loft (4096 * plot) 4096)).sendPlots c n (j + 1)
    else (s.linkRefused chip).refuseChannel c 2

/-- CHANNEL_SEND (R441, R442): the channel's gate is satisfied, LINK and the source plots are on, a port is up, egress is open. -/
def execChannelSend (ch : Fin 16) (s : State) : Out :=
  let n := s.getAt F.LNK_CHn_CFG_PLOTS_M1 ch + 1
  let src := s.getAt F.LNK_CHn_ADDR_SRC_PLOT ch
  let dst := s.getAt F.LNK_CHn_ADDR_DST_PLOT ch
  let chip := s.getAt F.LNK_CHn_CFG_DST_CHIP ch
  done (if s.isUp && s.coreOn && s.link.ready.contains ch.val && !s.link.sending.contains ch.val && !s.alarmHold then
    if s.level 22 ≠ 2 then s.linkVote 22 2
    else if !s.portUp (s.portTo chip) then s
    else
      let d (p : Nat) : Nat := 12 + p / 1024
      let start (s : State) : State :=
        (({ s with link := { s.link with ready := without s.link.ready ch } }.linkVote 22 2).linkVote (d src) 0).linkVote (d (src + n - 1)) 0
      let w := s.peer chip
      if w.1 ≤ dst ∧ dst + n ≤ w.1 + w.2.1 ∧ src + n ≤ 4096 then
        s.linkReach (d src) (fun s => s.linkReach (d (src + n - 1))
          (fun s => (start s).sendPlots ch n 0) fun s => (start s).refuseChannel ch 1) fun s => (start s).refuseChannel ch 1
      else (start s).refuseChannel ch 1
  else s)

/-! Acknowledgement (15 R440) -/

/-- A frame of this chip's channel is acknowledged: its DOORBELL completes the send and rings DONE_RING as owner 0 (R441). -/
def State.frameAcked (s : State) (f : TxFrame) : State :=
  if f.src = s.chipId ∧ f.type = 2 ∧ s.link.sending.contains f.channel then
    ((s.incAt F.LNK_CHn_STAT_SENDS f.channel).doorbell (s.getAt F.LNK_CHn_RING_DONE_RING f.channel) 1 0).endChannel f.channel 1
  else s

/-- ACK: every frame up to LSEQ is accepted. -/
def execAck (port : Fin 2) (lseq : BitVec 16) (s : State) : Out :=
  let l := s.portHeld port
  done (match (l.take 256).findIdx? fun f => f.lseq == lseq.toNat with
    | some i =>
      if s.portUp port then
        let s1 := { s with link := { s.link with resends := elPut 0 s.link.resends port 0 } }.setHeld port (l.drop (i + 1))
        s1.each (l.take (i + 1)) fun s f => s.frameAcked f
      else s
    | none => s)

/-- Frames are resent; the eighth resend in a row of the oldest takes the port down (R448). -/
def State.resend (s : State) (p n : Nat) : State :=
  let k := elGet 0 s.link.resends p + 1
  let s1 := { s with link := { s.link with resends := elPut 0 s.link.resends p k } }.addAt F.LNK_COUNTS_RESENDS 0 n
  s1.when (8 ≤ k) fun s => s.portDown p

/-- NAK: the frames from LSEQ on are resent. -/
def execNak (port : Fin 2) (lseq : BitVec 16) (s : State) : Out :=
  let l := (s.portHeld port).take 256
  done (match l.findIdx? fun f => f.lseq == lseq.toNat with
    | some i => if s.portUp port then s.resend port (l.length - i) else s
    | none => s)

/-- RESEND_TIMEOUT: the oldest frame is resent. -/
def execResendTimeout (port : Fin 2) (s : State) : Out :=
  done (if s.portUp port && !(s.portHeld port).isEmpty then s.resend port 1 else s)

/-- CREDIT: the neighbour has freed `n` frame buffers; how many it has at first the spec does not say, so no send waits for them
(log 70). -/
def execCredit (port : Fin 2) (n : Byte) (s : State) : Out :=
  done (if s.portUp port then
    { s with link := { s.link with credits := elPut 0 s.link.credits port (elGet 0 s.link.credits port + n.toNat) } } else s)

/-! Receiving (15 R439, R440) -/

/-- A frame that is not for this chip alone is forwarded with one hop less, unless none is left (R439); a broadcast goes out on
the other port until it is back at its source (log 67). No DATA frame leaves while egress is closed (16 R459). -/
def State.forward (s : State) (p type : Nat) (f : LinkFrame) : State :=
  let g : TxFrame := { lseq := 0, type := type, taint := f.taint.toNat, channel := f.channel.toNat, src := f.src.toNat,
                       dst := f.dst.toNat, hops := f.hops.toNat - 1, ctr := f.ctr.toNat, count := 0, payload := f.payload }
  let out := if f.dst = 0xFF then 1 - p else s.portTo f.dst.toNat
  if f.hops.toNat ≤ 1 ∨ (type = 1 ∧ s.alarmHold) ∨ f.src.toNat = s.chipId ∨ (f.dst = 0xFF ∧ ¬ s.portUp out) then s
  else s.enqueue out g

/-- The answer of a hop: ACK or NAK with a LSEQ (Table 15.6). -/
def ctlBlock (type lseq : Nat) : List Byte := BitVec.ofNat 8 type :: leBytes 2 lseq

/-- A frame arrives on a port (R440): a bad CRC or tag is answered NAK, a repeated frame ACK, one ahead of its turn NAK; a good one
is answered ACK, acts by `f` where it is for this chip, and is forwarded where it is not for it alone. -/
def State.receive (s : State) (p type : Nat) (f : LinkFrame) (act : State → State) : State :=
  let e := elGet 0 s.link.expect p
  let q := f.lseq.toNat
  if !s.portUp p then s
  else if !f.crcOk then s.answer (ctlBlock 0x55 q)
  else if !f.tagOk then ((s.ev 0x0D14 p).inc F.LNK_COUNTS_AUTH_FAILS).answer (ctlBlock 0x55 q)
  else if e ≠ 0 ∧ q ≠ e - 1 then
    (if (q + 65536 - (e - 1)) % 65536 < 32768 then s.answer (ctlBlock 0x55 (e - 1)) else s.answer (ctlBlock 0x4B q))
  else
    let s1 := { s with link := { s.link with expect := elPut 0 s.link.expect p ((q + 1) % 65536 + 1) } }.answer (ctlBlock 0x4B q)
    let mine := f.dst.toNat = s.chipId ∨ (f.dst = 0xFF ∧ f.src.toNat ≠ s.chipId)
    (s1.when (decide mine) act).when (f.dst.toNat != s.chipId) fun s => s.forward p type f

/-- A REFUSE frame back to the source of a DATA frame (R442): 1 outside the import window, 2 the link rule; event 0x0D16. -/
def State.importReject (s : State) (f : LinkFrame) (cause : Nat) : State :=
  (s.ev 0x0D16 f.src.toNat).sendTo 6 0 f.channel.toNat f.src.toNat ([f.channel.setWidth 8, BitVec.ofNat 8 cause] ++ List.replicate 6 0)

/-- The Loft plot a DATA frame is for, inside this chip's import window. -/
def State.importPlot (s : State) (f : LinkFrame) : Option Nat :=
  let w := fieldAt f.payload 0 4
  let lo := s.get F.LNK_CFG_IMPORT_PLOT
  match fabAddr w with
  | .mem .loft off =>
    if f.payload.length = 4104 ∧ off % 4096 = 0 ∧ lo ≤ off / 4096 ∧ off / 4096 < lo + s.get F.LNK_CFG_IMPORT_PLOTS then
      some (off / 4096) else none
  | _ => none

/-- A DATA frame names the Pen as its destination (02 R82). -/
def namesPen (f : LinkFrame) : Bool := match fabAddr (fieldAt f.payload 0 4) with | .pen _ => true | _ => false

/-- A plot arrives: written whole with the frame's taint. -/
def State.importData (s : State) (plot : Nat) (f : LinkFrame) : State :=
  let s1 := s.linkVote (12 + plot / 1024) 0
  { s1 with mem := s1.mem.write .loft (4096 * plot) (slice f.payload 8 4096) f.taint.toNat }

/-- DATA_FRAME (R442): slot 6 votes for the LOFT concerned; until it is on the frame is not
accepted, and is resent; where it has failed the frame is refused with cause 1 (log 68). One that names the Pen is a Pen access of the link
(02 R82). -/
def execDataFrame (port : Fin 2) (f : LinkFrame) (s : State) : Out :=
  let mine := f.dst.toNat = s.chipId
  done (match s.importPlot f with
    | some plot =>
      let d := 12 + plot / 1024
      if mine ∧ s.trusts f.src.toNat f.taint.toNat ∧ ¬ s.steadyAt d 2 ∧ ¬ s.failed d then s.when (s.portUp port) fun s => s.linkVote d 2
      else s.receive port 1 f fun s =>
        if !s.trusts f.src.toNat f.taint.toNat then s.importReject f 2
        else if s.failed d then s.importReject f 1
        else s.importData plot f
    | none => s.receive port 1 f fun s => (s.importReject f 1).when (namesPen f) fun s => s.penAccess 6)

/-- DOORBELL_FRAME (R442): owner 3. -/
def execDoorbellFrame (port : Fin 2) (f : LinkFrame) (s : State) : Out :=
  done (s.receive port 2 f fun s => s.doorbell (fieldAt f.payload 0 2) (fieldAt f.payload 2 2) 3)

/-- REFUSE (R442): the channel ends with REFUSED; its frames that have not left are dropped. -/
def execRefuse (port : Fin 2) (f : LinkFrame) (s : State) : Out :=
  let c := byteAt f.payload 0
  done (s.receive port 6 f fun s =>
    if s.link.sending.contains c then
      (s.each (List.range 2) fun s p =>
        let l := s.portHeld p
        s.setHeld p (l.take 256 ++ (l.drop 256).filter fun g => g.src != s.chipId || g.channel != c)).refuseChannel c (byteAt f.payload 1)
    else s)

/-! Heartbeats and membership (15 R443, R444; 10 R307 to R309, R318) -/

/-- The payload of this chip's heartbeat (Table 15.8). -/
def State.heartbeatBytes (s : State) : List Byte :=
  leBytes 8 s.live ++ leBytes 8 s.fab.digest ++ leBytes 4 s.fab.epoch ++ leBytes 2 (s.get F.GATE_CFG_TRUST_GROUP)
    ++ [BitVec.ofNat 8 (leaderOf s.live), BitVec.ofNat 8 (b2n (!s.fab.joined) + 2 * b2n (s.flag F.STL_GROUP_QUORUM))]
    ++ leBytes 2 (s.get F.LNK_CFG_IMPORT_PLOT) ++ leBytes 2 (s.get F.LNK_CFG_IMPORT_PLOTS) ++ leBytes 4 0

/-- Every tick, on every port that is up. -/
def State.sendHeartbeat (s : State) : State :=
  s.when ((List.range 2).any s.portUp) fun s => s.broadcast 3 s.heartbeatBytes

/-- This chip owns and arms a job: its rings arm by `f`. -/
def State.takeJob (s : State) (j : JobCfg) (f : State → Nat → State) : State :=
  let s1 := s.each j.list f
  { s1 with fab := { s1.fab with owned := withIdx s1.fab.owned j.job, draining := without s1.fab.draining j.job,
                                 awaiting := s1.fab.awaiting.filter fun p => p.1 != j.job } }

/-- A job gained from a dropped chip: its rings arm empty, event 0x0831 (R309). -/
def State.takeOver (s : State) (j : JobCfg) : State := (s.takeJob j fun s i => s.armRing i true).ev2 0x0831 j.job s.chipId

/-- The chip this one waits for before a job's rings arm; this chip itself once the RELEASE has come. -/
def State.drainer (s : State) (job : Nat) : Option Nat := (s.fab.awaiting.find? fun p => p.1 == job).map (·.2)

/-- The rings of a job that this chip owns or drains arm with quorum and disarm without; their indices stay (R308). -/
def State.jobRings (s : State) (j : JobCfg) (has : Bool) : State :=
  s.each j.list fun s i => if has then s.rearmRing i else s.disarmRing i

/-- This chip stops running a job: while it is live it drains the rings (R309), else they disarm. -/
def State.loseJob (s : State) (j : JobCfg) (live has : Bool) : State :=
  let s1 := s.jobRings j (live && has)
  { s1 with fab := { s1.fab with owned := without s1.fab.owned j.job,
                                 draining := if live then withIdx s1.fab.draining j.job else without s1.fab.draining j.job } }

/-- This chip is the owner of a job that it neither runs nor drains. With quorum the rings arm: empty where the chip that ran the job has
left the live set, once its RELEASE has come where it is live, and at once where no other chip ran it. -/
def State.gainJob (s : State) (new : Nat) (has : Bool) (prev : Option Nat) (j : JobCfg) : State :=
  let me := s.chipId
  let p := (s.drainer j.job).getD (prev.getD me)
  if p = me then (if has then s.takeJob j fun s i => s.armRing i false else s)
  else if has && !bitOf new p then s.takeOver j
  else if (s.drainer j.job).isSome then s
  else { s with fab := { s.fab with awaiting := s.fab.awaiting ++ [(j.job, p)] } }

/-- Ownership of a job under a new live set (R308, R309): `has` its quorum, `prev` the owner of the job until then. -/
def State.reown (s : State) (new : Nat) (has : Bool) (prev : Option Nat) (j : JobCfg) : State :=
  let me := s.chipId
  let runs := s.fab.owned.contains j.job
  let drains := s.fab.draining.contains j.job
  if j.owner new = some me then
    if runs then s.jobRings j has
    else if drains then (s.jobRings j has).takeJob j fun s _ => s
    else s.gainJob new has prev j
  else if runs || drains || (prev == some me && (s.drainer j.job).isNone) then s.loseJob j (bitOf new me) has
  else { s with fab := { s.fab with awaiting := s.fab.awaiting.filter fun p => p.1 != j.job } }

/-- A live set is applied (R307 to R309): chips that leave it are logged, as are a new leader and the loss of quorum, and jobs change
owners. `before` is the live set until then; to a chip that joins its group, the set without it. -/
def State.applyLive (s : State) (before new : Nat) : State :=
  let old := s.live
  let has := s.quorumOf new
  let s1 := s.each ((idsOf old).filter fun c => !bitOf new c) fun s c => s.ev 0x0830 c
  let s2 := (s1.showLive new).when (leaderOf new != leaderOf old) fun s => s.ev 0x0834 (leaderOf new)
  let s3 := s2.when (s.quorumOf old && !has) fun s => s.ev 0x0835 0
  s3.each s.fab.jobs fun s j => s.reown new has (j.owner before) j

/-- The leader announces its live set: EPOCH grows by 1 (R443). -/
def State.announce (s : State) (new : Nat) : State :=
  let e := s.fab.epoch + 1
  ({ s with fab := { s.fab with epoch := e } }.applyLive s.live new).broadcast 4
    (leBytes 8 new ++ leBytes 4 e ++ [BitVec.ofNat 8 (leaderOf new), 0, 0, 0])

/-- This chip leads its live set. -/
def State.leads (s : State) : Bool := bitOf s.live s.chipId && leaderOf s.live == s.chipId

/-- A heartbeat at the leader (R443, R318): a JOINING chip of the same mapping table is admitted, event 0x0D20; one of another is
kept out, event 0x0832. A chip without the section stays a group of itself (R311). -/
def State.takeIn (s : State) (chip digest : Nat) (joining : Bool) : State :=
  if digest ≠ s.fab.digest then
    (s.ev 0x0832 chip).when (bitOf s.live chip) fun s => s.announce (setBitOf s.live chip false)
  else if joining ∧ ¬ bitOf s.live chip ∧ s.fab.digest ≠ 0 then
    ({ s with fab := { s.fab with joined := true } }.ev 0x0D20 chip).announce (setBitOf s.live chip true)
  else s

/-- HEARTBEAT (R443). -/
def execHeartbeat (port : Fin 2) (f : LinkFrame) (s : State) : Out :=
  let chip := f.src.toNat
  let b := f.payload
  done (s.receive port 3 f fun s =>
    let w := (fieldAt b 24 2, fieldAt b 26 2, fieldAt b 20 2)
    let s1 := { s with link := { s.link with peers := elPut (0, 0, 0) s.link.peers chip w } }
    s1.when s1.leads fun s => s.takeIn chip (fieldAt b 8 8) (bitOf (byteAt b 23) 0))

/-- MEMBERSHIP (R443, R446): applied once, when its EPOCH exceeds the last one applied. -/
def execMembership (port : Fin 2) (f : LinkFrame) (s : State) : Out :=
  let b := f.payload
  done (s.receive port 4 f fun s =>
    if s.fab.epoch < fieldAt b 8 4 then
      let new := fieldAt b 0 8
      { s with fab := { s.fab with epoch := fieldAt b 8 4, joined := s.fab.joined || bitOf new s.chipId } }.applyLive
        (if s.fab.joined then s.live else setBitOf new s.chipId false) new
    else s)

/-- HEARTBEAT_LOSS (10 R307): a live chip has been silent for 8 ticks; a leader announces the set without it. -/
def execHeartbeatLoss (chip : BitVec 6) (s : State) : Out :=
  let c := chip.toNat
  done (if s.isUp && s.coreOn && bitOf s.live c && c != s.chipId then
    let new := setBitOf s.live c false
    if leaderOf new = s.chipId then s.announce new else s.applyLive s.live new
  else s)

/-- A job of the mapping table. -/
def State.jobCfg (s : State) (job : Nat) : Option JobCfg := s.fab.jobs.find? fun j => j.job == job

/-- JOB_DRAINED (10 R309; R444): the rings are empty; they disarm and RELEASE goes to the gaining chip. -/
def execJobDrained (job : BitVec 8) (s : State) : Out :=
  done (match s.jobCfg job.toNat with
    | some j =>
      if s.isUp && s.coreOn && s.fab.draining.contains j.job && s.jobEmpty j then
        let s0 := s.each j.list fun s i => s.disarmRing i
        let s1 := { s0 with fab := { s0.fab with draining := without s0.fab.draining j.job } }
        match j.owner s1.live with
        | some c => s1.sendTo 5 0 0 c (leBytes 2 j.job ++ leBytes 4 s1.fab.epoch ++ leBytes 2 0)
        | none => s1
      else s
    | none => s)

/-- The RELEASE of a job this chip waits for: its rings arm, without quorum once that returns (R308). -/
def State.released (s : State) (j : JobCfg) : State :=
  if s.quorumOf s.live then s.takeJob j fun s i => s.armRing i false
  else { s with fab := { s.fab with awaiting := s.fab.awaiting.map fun p => if p.1 = j.job then (p.1, s.chipId) else p } }

/-- RELEASE (R444): the gaining chip arms the job's rings where EPOCH is the one it has applied. -/
def execRelease (port : Fin 2) (f : LinkFrame) (s : State) : Out :=
  let b := f.payload
  done (s.receive port 5 f fun s =>
    match s.jobCfg (fieldAt b 0 2) with
    | some j =>
      if (s.drainer j.job).isSome ∧ fieldAt b 2 4 = s.fab.epoch then s.released j else s
    | none => s)

end Sys2Proof.Machine
end

