-- ==== Sys2Proof/Machine/Host.lean ====
section
/-! DEFINITION. The host ports: mailbox, BAR0 and BAR2 writes, the small ports, the UART and the PCIe link (15 R423 to R436,
R446, R447, R450). -/

namespace Sys2Proof.Machine

/-! Mailbox (R431) -/

/-- A mailbox command: the host writes its arguments and MB_CMD. -/
def State.mailbox (s : State) (seq : Byte) (cmd : Nat) (args : List Nat) : State :=
  if s.reaches .host then
    { s with host := { s.host with mbArgs := args.map (BitVec.ofNat 32) ++ s.host.mbArgs.drop args.length } }.mbCmd seq cmd
  else s

/-- MB_VOTE. -/
def execMbVote (seq domain level : Byte) (s : State) : Out := done (s.mailbox seq 1 [domain.toNat, level.toNat])

/-- MB_STATE. -/
def execMbState (seq target : Byte) (s : State) : Out := done (s.mailbox seq 2 [target.toNat])

/-- MB_PORT_CLEAR. -/
def execMbPortClear (seq mask : Byte) (s : State) : Out := done (s.mailbox seq 3 [mask.toNat])

/-- MB_ATTACH (R424). -/
def execMbAttach (seq : Byte) (s : State) : Out := done (s.mailbox seq 4 [1])

/-- MB_DETACH. -/
def execMbDetach (seq : Byte) (s : State) : Out := done (s.mailbox seq 4 [0])

/-- MB_WARM. -/
def execMbWarm (seq : Byte) (s : State) : Out := done (s.mailbox seq 5 [0x5752])

/-- MAILBOX_ERROR: a listed code while a command is pending is answered BUSY, an unlisted one BAD_CMD. -/
def execMailboxError (cmd seq : Byte) (s : State) : Out :=
  done (if s.reaches .host then s.mbAnswer seq cmd.toNat (if 1 ≤ cmd.toNat ∧ cmd.toNat ≤ 5 then 3 else 1) else s)

/-! BAR0 and BAR2 (R428, R429) -/

/-- HOST_DOORBELL: as RNG_DOORBELL, owner 1. -/
def execHostDoorbell (v : Word) (s : State) : Out := done (if s.reaches .host then s.ringBell .host v else s)

/-- REC_ACK. -/
def execRecAck (v : Word) (s : State) : Out := done (if s.reaches .host then s.recAck v else s)

/-- NOTIFY. -/
def execNotify (s : State) : Out :=
  done (if s.reaches .host then
    let r := s.popNotify
    r.1.answer (leBytes 4 r.2.toNat)
  else s)

/-- The aligned words, else single bytes, of [a, a + n): (address, bytes); the fuel is n. -/
def accesses : Nat → Nat → Nat → List (Nat × Nat)
  | 0, _, _ => []
  | fuel + 1, a, n =>
    if n = 0 then []
    else if a % 4 = 0 ∧ 4 ≤ n then (a, 4) :: accesses fuel (a + 4) (n - 4)
    else (a, 1) :: accesses fuel (a + 1) (n - 1)

/-- A host write of Loft bytes: clean plots take it word by word, a word of a tainted plot is a faulting access (02 R60; log 63). -/
def State.windowWrite (s : State) (off : Nat) (data : List Byte) : State :=
  s.each (accesses data.length off data.length) fun s p =>
    if s.mem.plot .loft (p.1 / 4096) = 0 then { s with mem := s.mem.write .loft p.1 (slice data (p.1 - off) p.2) 0 }
    else s.faultAccess .host (0x10000000 + p.1) (if p.2 = 4 then .b32 else .b8) true true

/-- Every word of it is a faulting access: its LOFT has failed. -/
def State.windowFails (s : State) (off : Nat) (data : List Byte) : State :=
  s.each (accesses data.length off data.length) fun s p =>
    s.faultAccess .host (0x10000000 + p.1) (if p.2 = 4 then .b32 else .b8) true true

/-- The write, which waits for the LOFT domains it touches (05 R161). -/
def State.windowAccess (s : State) (off : Nat) (data : List Byte) : State :=
  s.masterAccess (12 + off / 0x400000) (.window off data) (fun s =>
    s.masterAccess (12 + (off + data.length - 1) / 0x400000) (.window off data) (fun s => s.windowWrite off data)
      fun s => s.windowFails off data) fun s => s.windowFails off data

/-- An access that has waited for domain `d`, which is on now or has failed, goes on. -/
def State.resume (s : State) : StalledAcc → State
  | .touch => s
  | .engine _ => s
  | .read m a => s.memRead m a
  | .write m a v => s.memWrite m a v
  | .window off data => s.windowAccess off data
  | .store dest data => s.storeLate dest data

/-- The masters' accesses that wait for domain `d` go on, in the order they came, and its slot-7 vote ends where none waits any more
(05 R161). The engines make theirs with their next command. -/
def State.serveStalled (s : State) (d : Nat) : State :=
  let due := s.pwr.stalled.filter fun p => p.1 == d && (match p.2 with | .engine _ => false | _ => true)
  ({ s with pwr := { s.pwr with stalled := s.pwr.stalled.filter fun p => !due.contains p } }.each due
    fun s p => s.resume p.2).releaseAccess (if s.voteSlot d 7 = 0 then [] else [d])

/-- HOST_WINDOW_WRITE (R429): bytes of BAR2 below 0x1_0000 and past its end are ignored. -/
def execHostWindowWrite (off : Word) (data : List Byte) (s : State) : Out :=
  let skip := 0x10000 - off.toNat
  let o := max 0x10000 off.toNat - 0x10000
  let bytes := (data.drop skip).take (0xF0000 - o)
  let loft := 4096 * s.winBase + o
  done (if s.reaches .host && 0 < bytes.length then s.windowAccess loft bytes else s)

/-! The small ports (R432 to R434, R450) -/

/-- The output of a small port. -/
def portOut : SmallPort → Nat
  | .spi => 1
  | .i2c => 2

/-- The master it is. -/
def portMaster : SmallPort → Master
  | .spi => .spi
  | .i2c => .i2c

/-- What its output may be given now: nothing while egress is closed. -/
def State.deliverable (s : State) (o : Nat) : Nat := if s.attached o && !s.alarmHold then s.waitingFor o else 0

/-- The port answers: in every state but Rest. In Rest the SPI target returns 0xFF, the I²C target nothing. -/
def State.portAnswers (s : State) (o : SmallPort) (n : Nat) (f : State → State) : State :=
  if !s.bankOk 0 then s
  else if s.span.running then f s
  else s.answer (if o = .spi then List.replicate n 0xFF else [])

/-- STATUS (Table 15.5): a detached output attaches (log 65). -/
def execStatus (o : SmallPort) (s : State) : Out :=
  let i := portOut o
  done (s.portAnswers o 4 fun s =>
    let s1 := s.attach i
    s1.answer [BitVec.ofNat 8 (min 64 (s1.deliverable i)), BitVec.ofNat 8 (b2n (s1.level 21 != 2) + 2 * s1.get F.IMG_BOOT_HOLD),
      BitVec.ofNat 8 (s1.outIdx i), 0])

/-- READ_RECORD (Table 15.5, R433, R434): consumed when the transaction ends after all 64 bytes. -/
def execReadRecord (o : SmallPort) (completed : Bool) (s : State) : Out :=
  let i := portOut o
  done (s.portAnswers o 64 fun s =>
    let s1 := s.attach i
    if s1.deliverable i = 0 then s1.answer (List.replicate 64 0)
    else (s1.answer (s1.outEntry (s1.outIdx i))).when completed fun s => s.consume i)

/-- READ_REG (Table 15.5): LOG and IMG addresses only. -/
def execReadReg (o : SmallPort) (addr : Word) (s : State) : Out :=
  done (s.portAnswers o 4 fun s => s.readAs (portMaster o) addr.toNat)

/-- OUTPUT_DETACHED (R424): an entry has waited DETACH_S seconds. -/
def execOutputDetached (o : SmallPort) (s : State) : Out :=
  let i := portOut o
  done (if s.attached i && 0 < s.waitingFor i && s.span.running then
    (((s.detach i).ev 0x0D03 i).when s.coreOn fun s => s.inc F.PCI_COUNTS_DETACHES)
  else s)

/-! The UART (R435) -/

/-- The bytes the UART sends for an entry, with the CRC-16 of polynomial 0x1021 and initial value 0xFFFF. -/
def uartFrame (e : List Byte) : List Byte := [0xA5, 0x5A, 64] ++ e ++ leBytes 2 (crc16 ((64 : Byte) :: e)).toNat

/-- UART_RECORD: with UART_CTS_EN set the record's bytes wait for UART_CTS_N (log 61). -/
def execUartRecord (s : State) : Out :=
  done (if s.level 21 = 2 ∧ 0 < s.deliverable 3 ∧ s.host.uart = [] then
    let f := uartFrame (s.outEntry (s.outIdx 3))
    if s.flag F.PCI_SMALL_CFG_UART_CTS_EN then { s with host := { s.host with uart := f } }
    else (s.answer f).consume 3
  else s)

/-- UART_CTS_N_LOW: the next byte of the held record leaves; the entry is consumed behind its last. -/
def execUartCtsNLow (s : State) : Out :=
  done (match (if s.bankOk 0 then s.host.uart else []) with
    | [] => s
    | b :: rest =>
      ({ s with host := { s.host with uart := rest } }.answer [b]).when rest.isEmpty fun s => s.consume 3)

/-! The PCIe link (R424, R426, R447) -/

/-- PCIE_UP: generations 1 to 4, x1 or x2. -/
def execPcieUp (gen : BitVec 3) (width : BitVec 2) (s : State) : Out :=
  let g := gen.toNat
  let w := width.toNat
  done (if s.level 21 = 2 ∧ ¬ s.flag F.PCI_STATUS_UP ∧ 1 ≤ g ∧ g ≤ 4 ∧ 1 ≤ w ∧ w ≤ 2 ∧ s.bankOk 4 then
    ((((s.set F.PCI_STATUS_UP 1).set F.PCI_STATUS_GEN g).set F.PCI_STATUS_WIDTH w).ev2 0x0D00 g w).flushMsix
  else s)

/-- PCIE_DOWN. -/
def execPcieDown (s : State) : Out := done s.pcieFalls

/-- D_STATE_CHANGE: out of D0 PCIe detaches; D0 and D3 are supported. -/
def execDStateChange (d : BitVec 2) (s : State) : Out :=
  done (if s.level 21 ≠ 2 then s
    else if d = 0 then (s.set F.PCI_STATUS_DSTATE 0).flushMsix
    else if d = 3 then (s.set F.PCI_STATUS_DSTATE 3).detach 0
    else s)

/-! The output pins (R436) -/

/-- WAKE_OUT: the Yard holds it, or WAKE_ON_RECORD is set and an entry is there that no attached output has consumed. -/
def State.wakeOut (s : State) : Bool :=
  let os := (List.range 4).filter s.attached
  let reach := os.foldl (fun m o => max m (outDiff (s.outIdx o) s.host.freed)) 0
  s.flag F.YRD_WAKE_WAKE_OUT || (s.flag F.PCI_SMALL_CFG_WAKE_ON_RECORD && reach < outDiff s.outW s.host.freed)

/-- IRQ_OUT_N is asserted (low): an attached SPI or I²C output has a waiting entry and its IRQ_MASK bit is set. -/
def State.irqAsserted (s : State) : Bool :=
  [1, 2].any fun o => s.attached o && 0 < s.waitingFor o && bitOf (s.get F.PCI_SMALL_CFG_IRQ_MASK) (o - 1)

end Sys2Proof.Machine
end

