-- ==== Sys2Proof/Machine/Area.lean ====
section
/-! DEFINITION. The contents of a state-area bank, and how a write of one begins (03 R94, R96, R97, R116). -/

namespace Sys2Proof.Machine

/-- The bytes of a list of halfwords in a table, `n` of them. -/
def halfBytes (t : Tab (BitVec 16)) (n : Nat) : List Byte := ((tblGetRange (fun _ => 0) t 0 n).map fun h => leBytes 2 h.toNat).flatten

/-- The Barn's setpoints and dark levels as the state area is to hold them: those in use, else the retained copy, else what the newest
valid bank holds; before any of these no setpoint, and the dark levels of R33's defaults that a start has not replaced, 128.0 (log 207). -/
def State.savedSetpoints (s : State) : List Byte :=
  if !s.barn.setp.isEmpty then halfBytes s.barn.setp 4224
  else if !s.barn.copy.isEmpty then halfBytes s.barn.copy 4224
  else match s.boot.newest with
    | some k => s.bankRead k 0x25000 8448
    | none => halfBytes [] 4224
def State.savedDark (s : State) : List Byte :=
  if !s.barn.dark.isEmpty then halfBytes s.barn.dark 128
  else if !s.barn.copyDark.isEmpty then halfBytes s.barn.copyDark 128
  else match s.boot.newest with
    | some k => s.bankRead k 0x28000 256
    | none => (List.replicate 128 (leBytes 2 0x8000)).flatten

/-- Bytes 0x40 to 0x2810F of a bank (Table 03.3); unlisted bytes are 0. -/
def State.bankImage (s : State) : List Byte :=
  let gap := fun (a b : Nat) => List.replicate (b - a) (0 : Byte)
  let cycles := ((List.range 96).map fun st => leBytes 4 (s.getAt F.CIM_STALLs_CYCLES_CYCLES st)).flatten
  let wear := ((tblGetRange (fun _ => 0) s.cim.wear 0 24576).map fun n => leBytes 4 n).flatten
  let vrc := ((List.range 4).map fun n => leBytes 4 (s.getAt F.VRC_OFFSETn_OFFSET n)).flatten
  cycles ++ gap 0x1C0 0x1000 ++ wear ++ halfBytes s.cim.offsets 24576 ++ s.savedSetpoints ++ gap 0x27100 0x28000
    ++ s.savedDark ++ vrc

/-- The header of a bank whose body is `b` (Table 03.4). -/
def bankHeader (lost : Bool) (seq : Nat) (b : List Byte) : List Byte :=
  leBytes 4 0x5A535441 ++ leBytes 2 1 ++ leBytes 2 (b2n lost) ++ leBytes 4 seq ++ leBytes 4 0x280D0 ++ List.replicate 16 0 ++ sha256 b

/-- The Steward may start an NVM operation. -/
def State.nvmFree (s : State) : Bool :=
  s.isUp && s.flag F.IMG_STATUS_SEALED && s.coreOn && s.bankOk 1 && !s.flag F.SUP_STATUS_BRACE && !s.flag F.STW_NVM_GRANTED
    && !s.flag F.STW_NVM_REQ && !s.alarmHold && s.boot.writing.isNone

/-- Changed results are written ahead of the interval where the chip prepares for Rest (R97; 05 R155). -/
def State.restDue (s : State) : Bool := s.boot.calChanged && s.pwr.state == 1 && (match s.pwr.due with | some q => q.target == 3 | none => false)

/-- A write of a bank begins: it is erased and its body programmed. It serves the write cases that stand; calibration results start the
interval. -/
def State.beginWrite (s : State) (b : Nat) (again : Bool) : State :=
  let m1 := { s.mem with nvm := tblDrop s.mem.nvm (bankBase b) 0x80000 }
  let cal := s.boot.calDue || s.boot.calChanged || (again && s.boot.wroteCal)
  { s with mem := m1.nvmWrite (bankBase b + 0x40) s.bankImage
           boot := { s.boot with writing := some b, again := again, retryBank := none, wrote := s.boot.wearDue, wroteCal := cal
                                 wearDue := false, calDue := false, calChanged := false, calTimer := cal || s.boot.calTimer } }

/-- A state-area write begins where a write case stands and the Steward may start it: into the bank that does not hold the newest valid
copy. One that Brace alone holds is deferred (06 R179, R180). -/
def State.startWrite (s : State) : State :=
  if s.boot.retryBank.isNone && (s.boot.wearDue || s.boot.calDue || s.restDue) then
    if s.nvmFree then s.beginWrite (match s.boot.newest with | some k => 1 - k | none => 0) false
    else s.when (s.flag F.SUP_STATUS_BRACE && s.isUp && s.boot.writing.isNone) fun s => s.defer .nvm
  else s

end Sys2Proof.Machine
end

