-- ==== Sys2Proof/Machine/Rail.lean ====
section
/-! DEFINITION. The core-rail controller: phase currents and limits, sense calibration, phase loss, the rail throttle, light-load mode and
soft-start (06 R184 to R190, R194 to R203, R205). -/

namespace Sys2Proof.Machine

/-- A reset other than RESET_N and a brown-out acts: neither BOOT_HOLD, which ends at RESET_N or power-on only (03 R120), nor
the L3 actions (16 R468) let it, and a part held in reset has none to take. -/
def State.resets (s : State) : Bool := s.boot.phase == .up || s.boot.phase == .inStart || s.boot.phase == .alarmed

/-! Phases and their currents (R184, R185, R187, R198) -/

/-- Set bits of a 4-bit mask. -/
def countBits4 (v : Nat) : Nat := ((List.range 4).filter fun n => bitOf v n).length

/-- Phase `n` is shed; it is blind. -/
def State.phaseShed (s : State) (n : Nat) : Bool := bitOf (s.get F.VRC_STATUS_SHED) n
def State.phaseBlind (s : State) (n : Nat) : Bool := bitOf (s.get F.VRC_STATUS_BLIND) n

/-- Phase `n` switches: the rail runs, and the phase is not shed; in light-load mode one phase alone does (R186). -/
def State.phaseRuns (s : State) (n : Nat) : Bool :=
  let st := s.getAt F.VRC_PHASEn_STATE n
  s.flag F.VRC_STATUS_RUNNING && (if s.flag F.VRC_STATUS_LIGHT then st == 0 else st != 1 && st != 3)

/-- The running phases, in interleave order. -/
def State.runningPhases (s : State) : List Nat := (List.range 4).filter s.phaseRuns

/-- PHn_PWM: none where it is at high impedance, else its duty in 1/1,024 and its angle in degrees, the running phases evenly spaced
(R184, Table 06.3). -/
def State.phasePwm (s : State) (n : Nat) : Option (Nat × Nat) :=
  if s.phaseRuns n then
    some (s.getAt F.VRC_PHASEn_DUTY n, 360 / s.runningPhases.length * (s.runningPhases.findIdx (· == n)))
  else none

/-- CORE_PG follows the arming of the VDD_CORE thresholds (R205). -/
def State.corePg (s : State) : Bool := s.sup.armed

/-- ISEN_GAIN and R_PATH; 0 is 1. -/
def State.isenGain (s : State) : Nat := orOne (s.get F.VRC_CFG_ISEN_GAIN)
def State.rPath (s : State) : Nat := orOne (s.get F.VRC_CFG_R_PATH)

/-- Currents are held as multiples of 1/`ampDen` A, in which the sensed and the modelled ones are whole. -/
def State.ampDen (s : State) : Int := 1024 * s.isenGain * s.rPath

/-- The sensed current of phase `n` (R185): the code less the code of 0 A and the offset, 200 mV over 1,024 codes, by the gain. -/
def State.sensedAmps (s : State) (n code : Nat) : Int :=
  ((code : Int) - 256 - signed 16 (s.getAt F.VRC_OFFSETn_OFFSET n)) * 2000 * s.rPath

/-- The model current (R187): (D × PVIN − VSENSE) / R_PATH, with D in 1/1,024 and `vsense` in millivolts. -/
def State.modelAmps (s : State) (duty vsense : Nat) : Int :=
  ((duty * s.get F.VRC_CFG_PVIN_DV * 100 : Nat) - (1024 * vsense : Nat) : Int) * 10 * s.isenGain

/-- A code and a duty of a period. -/
def periodCode (p : RailPeriod) (n : Nat) : Nat := (p.codes.getD n 0).toNat
def periodDuty (p : RailPeriod) (n : Nat) : Nat := (p.duties.getD n 0).toNat

/-- The duty of phase `n` in a period: a blind one has the mean of the two phases beside it in interleave order; a mean that is no whole
number is one of its neighbours (R197; log 206). -/
def State.dutyOf (s : State) (p : RailPeriod) (n : Nat) : Nat :=
  if !s.phaseRuns n then 0
  else if s.phaseBlind n then (freeQuot ((periodDuty p ((n + 1) % 4) + periodDuty p ((n + 3) % 4) : Nat) : Int) 2 (Config.freeWord s.free)).toNat
  else periodDuty p n

/-- The current of phase `n` in a period: a blind one's comes from the model (R185, R197). -/
def State.phaseAmps (s : State) (p : RailPeriod) (n : Nat) : Int :=
  if !s.phaseRuns n then 0
  else if s.phaseBlind n then s.modelAmps (s.dutyOf p n) p.vsense
  else s.sensedAmps n (periodCode p n)

/-- The total current of a period. -/
def State.totalAmps (s : State) (p : RailPeriod) : Int := (s.runningPhases.map (s.phaseAmps p)).foldl (· + ·) 0

/-- The phase limit in A: 20, or 10 for a blind phase (R185, Table 06.2). -/
def State.phaseLimit (s : State) (n : Nat) : Nat := if s.phaseBlind n then 10 else 20

/-- The total limit in A of Table 06.3: the sum of the phase limits of the phases that are not shed. -/
def State.totalLimit (s : State) : Nat := (((List.range 4).filter fun n => !s.phaseShed n).map s.phaseLimit).sum

/-- The budget of Table 06.3: 0.9 times the total limit. -/
def State.budget (s : State) : Nat := s.totalLimit * 9 / 10

/-- VRC_PHASEn shows a period's codes and duties (R184, R185). -/
def State.showPeriod (s : State) (p : RailPeriod) : State :=
  ((s.each (List.range 4) fun s n => s.setAt F.VRC_PHASEn_ISEN n (periodCode p n)).each (List.range 4) fun t n =>
    t.setAt F.VRC_PHASEn_DUTY n (s.dutyOf p n)).when (s.get F.VRC_STATUS_BLIND != 0) State.draw

/-! Light-load mode (R186) -/

/-- Light-load mode ends (R186). -/
def State.leaveLight (s : State) : State :=
  s.when (s.flag F.VRC_STATUS_LIGHT) fun s => (s.set F.VRC_STATUS_LIGHT 0).showPhases

/-- LIGHT_LOAD_ENTER (R186): the last of 256 periods in a row whose total lies below 3 A. -/
def execLightLoadEnter (p : RailPeriod) (s : State) : Out :=
  done (if s.flag F.VRC_STATUS_RUNNING then
    (s.showPeriod p).when (s.flag F.VRC_CFG_LIGHT_EN && !s.flag F.VRC_STATUS_LIGHT && decide (s.totalAmps p < 3 * s.ampDen))
      fun s => (s.set F.VRC_STATUS_LIGHT 1).showPhases
  else s)

/-- LIGHT_LOAD_EXIT (R186): a period whose total is 4 A or more; a Brace leaves the mode by itself. -/
def execLightLoadExit (p : RailPeriod) (s : State) : Out :=
  done (if s.flag F.VRC_STATUS_RUNNING then
    (s.showPeriod p).when (decide (4 * s.ampDen ≤ s.totalAmps p)) fun s => s.leaveLight
  else s)

/-! Loss of phases (R194 to R201) -/

/-- Phase `n` is shed; a blind phase that is shed is blind no longer. -/
def State.shed (s : State) (n : Nat) : State :=
  (s.set F.VRC_STATUS_SHED (setBitOf (s.get F.VRC_STATUS_SHED) n true)).set F.VRC_STATUS_BLIND
    (setBitOf (s.get F.VRC_STATUS_BLIND) n false)

/-- Phase `n` becomes blind. -/
def State.makeBlind (s : State) (n : Nat) : State :=
  s.set F.VRC_STATUS_BLIND (setBitOf (s.get F.VRC_STATUS_BLIND) n true)

/-- The blind phases, shed. -/
def State.shedBlind (s : State) : State :=
  s.each ((List.range 4).filter fun n => bitOf (s.get F.VRC_STATUS_BLIND) n) fun s n => s.shed n

/-- Two phases are lost (R200): event 0x0311, s 0, the rail clamp, and with no unfenced reserved stall the forced Doze. -/
def State.clampRail (s : State) : State :=
  let s1 := ((s.ev 0x0311 0).set F.VRC_STATUS_SHARE 0).set F.VRC_STATUS_CLAMP 1
  (s1.recompute).when (s1.barred (s1.get F.STL_RESERVED_RES0) && s1.barred (s1.get F.STL_RESERVED_RES1))
    fun s => s.force 1 5

/-- The rail takes the condition of Table 06.3 that its shed and blind phases make (R198, R200, R201). -/
def State.phaseLoss (s : State) : State :=
  let lost := countBits4 (s.get F.VRC_STATUS_SHED)
  let s1 := (s.when (lost < 3) fun s => s.set F.VRC_STATUS_BUDGET_A s.budget).showPhases
  if 3 ≤ lost then (s1.ev 0x0313 0).when s1.resets fun s => s.resetDue 8
  else s1.when (lost == 2 && !s.flag F.VRC_STATUS_CLAMP) fun s => s.clampRail

/-- The phase-open test of R196 holds in a period: multiphase mode, a non-zero duty, and a current below 10 % of the average of the
running phases, which is at least 2 A (Table 06.2). -/
def State.openPeriod (s : State) (p : RailPeriod) (n : Nat) : Bool :=
  let k := s.runningPhases.length
  !s.flag F.VRC_STATUS_LIGHT && s.phaseRuns n && s.dutyOf p n != 0 && decide (10 * k * s.phaseAmps p n < s.totalAmps p)
    && decide (2 * k * s.ampDen ≤ s.totalAmps p)

/-- PHASE_OPEN (R196, R197): the eighth such period in a row; a blind phase is shed with it. -/
def execPhaseOpen (n : Fin 4) (p : RailPeriod) (s : State) : Out :=
  done (if s.flag F.VRC_STATUS_RUNNING then
    (s.showPeriod p).when (s.openPeriod p n) fun s => (((s.ev 0x0310 n).shed n).shedBlind).phaseLoss
  else s)

/-- The sense test of R197 fails in a period: a code at an end of the range, or, in multiphase mode with a model current of at least 4 A,
a current more than 35 % off the model. -/
def State.sensePeriod (s : State) (p : RailPeriod) (n : Nat) : Bool :=
  let m := s.modelAmps (s.dutyOf p n) p.vsense
  s.phaseRuns n && s.dutyOf p n != 0 && (periodCode p n ≤ 20 || 1003 ≤ periodCode p n
    || (!s.flag F.VRC_STATUS_LIGHT && decide (4 * s.ampDen ≤ m)
      && decide (35 * m < 100 * ((s.sensedAmps n (periodCode p n) - m).natAbs : Int))))

/-- SENSE_FAILED (R197): the 64th such period in a row. The phase becomes blind, unless another is blind or shed already: then it and a
blind one are shed. -/
def execSenseFailed (n : Fin 4) (p : RailPeriod) (s : State) : Out :=
  done (if s.flag F.VRC_STATUS_RUNNING then
    (s.showPeriod p).when (s.sensePeriod p n && !s.phaseBlind n) fun s =>
      let s1 := s.ev 0x0312 n
      if s.get F.VRC_STATUS_SHED = 0 ∧ s.get F.VRC_STATUS_BLIND = 0 then (s1.makeBlind n).phaseLoss
      else ((s1.shed n).shedBlind).phaseLoss
  else s)

/-- A period truncates phase `n` at its limit, or for 4 every phase at the total limit (R185). -/
def State.truncates (s : State) (p : RailPeriod) (n : Nat) : Bool :=
  if n < 4 then s.phaseRuns n && decide (s.phaseLimit n * s.ampDen ≤ s.phaseAmps p n)
  else decide (s.totalLimit * s.ampDen ≤ s.totalAmps p)

/-- OC_LIMIT (R203): a period that truncates phase `n`, or for 4 the total. -/
def execOcLimit (n : Fin 5) (p : RailPeriod) (s : State) : Out :=
  done (if s.flag F.VRC_STATUS_RUNNING then
    (s.showPeriod p).when (s.truncates p n) fun s => (s.inc F.VRC_COUNTS_OC).ev 0x0314 n
  else s)

/-- RAIL_THROTTLE_STEP (R199): in a period whose total is at or above the budget s falls by 2; the 32nd period in a row whose total lies
below 0.9 times the budget raises it by 1. -/
def execRailThrottleStep (p : RailPeriod) (s : State) : Out :=
  done (if s.flag F.VRC_STATUS_RUNNING then
    let b := s.get F.VRC_STATUS_BUDGET_A
    let x := s.get F.VRC_STATUS_SHARE
    let s1 := s.showPeriod p
    if b * s.ampDen ≤ s.totalAmps p then s1.set F.VRC_STATUS_SHARE (x - 2)
    else if 10 * s.totalAmps p < 9 * b * s.ampDen then s1.set F.VRC_STATUS_SHARE (min 16 (x + 1))
    else s1
  else s)

/-! The sense-offset calibration and soft-start (R188, R189, R205) -/

/-- The rail is wanted: a start enables it, or a switched domain is above off or on its way there. -/
def State.railWanted (s : State) : Bool :=
  s.boot.phase == .inStart || (List.range 24).any fun d => 0 < s.level d || 0 < (s.inFlight d).getD 0

/-- The largest and the smallest of the codes lie at most 2 apart. -/
def codesQuiet (l : List (BitVec 10)) : Bool :=
  let v := l.map (·.toNat)
  v.foldl max 0 ≤ v.foldl min 1023 + 2

/-- The mean of the 64 codes less the code of 0 A. At every gain 0 A is 0 mV, a quarter of the −50 mV to +150 mV range: code
256. A mean that is no whole code is one of its neighbours (log 74). -/
def isenOffset (l : List (BitVec 10)) (pick : Word) : Int :=
  freeQuot (l.foldl (fun a c => a + (c.toNat : Int)) 0) 64 pick - 256

/-- The calibration of phase `n` is rejected: event 0x0318. -/
def State.isenReject (s : State) (n : Fin 4) : State :=
  ((s.inc F.VRC_COUNTS_CAL_REJECTS).calReject (.isen n)).ev 0x0318 n

/-- The calibration of phase `n` ends (R188): the phase measured off, then an offset within ±80 codes. -/
def State.isenEnds (s : State) (n : Fin 4) (m : IsenMeas) : State :=
  let s0 := s.when (m.codes64 != []) fun s => s.setAt F.VRC_PHASEn_ISEN n ((m.codes64.getLastD 0).toNat)
  if m.hiZ && m.codes16.length == 16 && m.codes64.length == 64 && codesQuiet m.codes16 then
    let off := isenOffset m.codes64 (Config.freeWord s.free)
    let s1 := s0.draw
    if off.natAbs ≤ 80 then
      (((s1.setAt F.VRC_OFFSETn_OFFSET n (BitVec.ofInt 16 off).toNat).setAt F.VRC_OFFSETn_SOURCE n 1).calPass
        (.isen n)).calChanged
    else s1.isenReject n
  else s0.isenReject n

/-- The rail begins to switch: a soft-start (R205). The duties of its phases are what the regulation gives them (log 206). -/
def State.softStart (s : State) : State :=
  ((s.set F.VRC_STATUS_RUNNING 1).showPhases).each (List.range 4) fun s n =>
    s.draw.setAt F.VRC_PHASEn_DUTY n (if s.phaseRuns n then (Config.freeWord s.free).toNat % 1024 else 0)

/-- A phase has been calibrated at a rail enable; behind the last of the four the soft-start begins (R188, R205). -/
def State.phaseCalibrated (s : State) (n : Fin 4) : State :=
  let s1 := { s with sup := { s.sup with calibrated := withIdx s.sup.calibrated n } }
  s1.when ((List.range 4).all s1.sup.calibrated.contains) fun s => s.softStart

/-- ISEN_CAL: at a rail enable, before the first switching period, or in light-load mode on a phase that does not run. -/
def execIsenCal (n : Fin 4) (meas : IsenMeas) (s : State) : Out :=
  done (if !s.powered || s.flag F.SUP_STATUS_BRACE then s
    else if s.railWanted && !s.flag F.VRC_STATUS_RUNNING then (s.isenEnds n meas).phaseCalibrated n
    else if s.flag F.VRC_STATUS_LIGHT && s.getAt F.VRC_PHASEn_STATE n != 0 then s.isenEnds n meas
  else s)

/-- VSENSE_LOCAL (R202). -/
def execVsenseLocal (s : State) : Out :=
  done (if s.flag F.VRC_STATUS_RUNNING && !s.flag F.VRC_STATUS_VSENSE_LOCAL then
    (s.set F.VRC_STATUS_VSENSE_LOCAL 1).ev 0x0315 0 else s)

/-- The rail has reached 0.720 V: its thresholds arm (R205), and the monitor reads what the controller regulates to, 0.750 V (log 135). -/
def State.railUp (s : State) : State :=
  { s with sup := { s.sup with armed := true, coreCode := 125 } }.set F.SUP_STATUS_CORE_ARMED 1

/-- SOFT_START_DONE (R205). -/
def execSoftStartDone (s : State) : Out :=
  done (if s.powered && s.flag F.VRC_STATUS_RUNNING && !s.sup.armed then s.railUp else s)

/-- SOFT_START_RETRY (R205): the rail stops, and calibrates and soft-starts again after 10 ms. -/
def execSoftStartRetry (s : State) : Out :=
  done (if s.powered && s.flag F.VRC_STATUS_RUNNING && !s.sup.armed then s.railStop else s)

/-- The whole enable of a start's step 2 (R205): every phase is calibrated, one that its command gives no measurement of as rejected, and
VDD_CORE rises. -/
def State.railEnable (s : State) (meas : List (Fin 4 × IsenMeas)) : State :=
  let one (n : Fin 4) : IsenMeas := ((meas.find? fun p => p.1 == n).map (·.2)).getD { hiZ := false, codes16 := [], codes64 := [] }
  if s.sup.armed then s
  else (([0, 1, 2, 3] : List (Fin 4)).foldl (fun s n => (s.isenEnds n (one n)).phaseCalibrated n) s).railUp

end Sys2Proof.Machine
end

