-- ==== Sys2Proof/Machine/Supply.lean ====
section
/-! DEFINITION. The supply supervisor and the IO banks (06 R177 to R183, R191 to R193, R206; 17 R478, R485). -/

namespace Sys2Proof.Machine

/-! Thresholds (R177, R178) -/

/-- What a monitor code of a rail reads, in millivolts. -/
def railMilli : Rail → Nat → Nat
  | .core, c => 500 + 2 * c
  | .aon, c => 1000 + 4 * c

/-- The thresholds of Table 06.1 in millivolts: warning, warning release, reset, reset release. -/
def warnMilli : Rail → Nat
  | .core => 700
  | .aon => 1660
def warnRelease : Rail → Nat
  | .core => 720
  | .aon => 1700
def resetMilli : Rail → Nat
  | .core => 660
  | .aon => 1580
def resetRelease : Rail → Nat
  | .core => 680
  | .aon => 1620

/-- A code lies below warning; above the warning release. -/
def belowWarn (rail : Rail) (code : Nat) : Bool := railMilli rail code < warnMilli rail
def aboveRelease (rail : Rail) (code : Nat) : Bool := warnRelease rail < railMilli rail code

/-! The monitor (R178) -/

/-- SUP_VMON of a rail: the latest code, and where asked the lowest of the Brace. -/
def State.showRail (s : State) (rail : Rail) (code : Nat) (min? : Bool) : State :=
  match rail with
  | .core => ({ s with sup := { s.sup with coreCode := code } }.set F.SUP_VMON_CORE_NOW code).when min? fun s =>
      s.set F.SUP_VMON_CORE_MIN (min code (s.get F.SUP_VMON_CORE_MIN))
  | .aon => ({ s with sup := { s.sup with aonCode := code } }.set F.SUP_VMON_AON_NOW code).when min? fun s =>
      s.set F.SUP_VMON_AON_MIN (min code (s.get F.SUP_VMON_AON_MIN))

/-- The monitor's sample of a span tick: both rails, at the codes they read now (R178). -/
def State.sampleRails (s : State) : State :=
  (s.showRail .core s.sup.coreCode (s.flag F.SUP_STATUS_BRACE)).showRail .aon s.sup.aonCode (s.flag F.SUP_STATUS_BRACE)

/-! Brace (R179 to R183, R192) -/

/-- The thresholds of a rail are armed (R205). -/
def State.railArmed (s : State) : Rail → Bool
  | .core => s.sup.armed
  | .aon => true

/-- A rail's number in event 0x0301. -/
def railCode : Rail → Nat
  | .core => 0
  | .aon => 1

/-- A rail is below warning, or no longer: CORE_WARN, AON_WARN. -/
def State.setWarn (s : State) (rail : Rail) (b : Bool) : State :=
  s.set (match rail with | .core => F.SUP_STATUS_CORE_WARN | .aon => F.SUP_STATUS_AON_WARN) (b2n b)

/-- A rail has fallen below warning at a code. -/
def State.warn (s : State) (rail : Rail) (code : Nat) : State := (s.showRail rail code true).setWarn rail true

/-- The Braces of the last second with this one, newest first (R183); none is kept outside Run and Doze. -/
def State.countBrace (s : State) : State :=
  let now := s.span.count
  if s.isUp && s.pwr.state ≤ 1 then
    { s with sup := { s.sup with braces := now :: s.sup.braces.filter (fun b => (now - b).toNat < 1024000) } }
  else s

/-- STORM_N Braces within a second force Doze (R183). While STORM stands, a further such run raises no second event and counts none (log
208). -/
def State.storm (s : State) : State :=
  let n := s.get F.SUP_CFG_STORM_N
  if n ≠ 0 ∧ n ≤ s.sup.braces.length ∧ ¬ s.flag F.SUP_STATUS_STORM ∧ s.isUp ∧ s.pwr.state ≤ 1 then
    (((s.set F.SUP_STATUS_STORM 1).inc F.SUP_COUNTS_STORMS).force 1 4).ev 0x0305 0
  else s

/-- What Brace interrupts (R179): CIM programming, the Barn's steps and full sweep, microphone calibrations, light-load mode. -/
def State.braceHolds (s : State) : State :=
  ((((s.interruptRows (List.range 12) false).abandonSteps).sweepAbandon).micCalsAbandon fun _ => true).leaveLight

/-- BRACE_ENTER (R179, R192): a rail whose thresholds are armed falls below warning; not in Rest (R206). -/
def execBraceEnter (rail : Rail) (code : Byte) (s : State) : Out :=
  done (if s.powered && s.pwr.state != 3 && s.railArmed rail && belowWarn rail code.toNat then
    if s.flag F.SUP_STATUS_BRACE then s.warn rail code.toNat
    else
      let s1 := (s.set F.SUP_VMON_CORE_MIN 0xFF).set F.SUP_VMON_AON_MIN 0xFF
      let s2 := (((s1.warn rail code.toNat).set F.SUP_STATUS_BRACE 1).inc F.SUP_COUNTS_BRACES)
      let s3 := { s2 with sup := { s2.sup with braceAt := s2.span.count } }.ev2 0x0301 (railCode rail) code.toNat
      ((s3.braceHolds).countBrace).storm
  else s)

/-- The operations that Brace has deferred resume in the order they were deferred (R180). -/
def State.runDeferred (s : State) : State :=
  { s with sup := { s.sup with deferred := [] } }.each s.sup.deferred fun s d => match d with
    | .key o => s.runKey o
    | .nvm => s.startWrite
    | .prog st => s.startProgram st

/-- Brace ends: every hold of R179 releases, interrupted rows are verified, deferred operations run (R180). -/
def State.braceEnds (s : State) : State :=
  let s1 := ((s.set F.SUP_STATUS_BRACE 0).setWarn .core false).setWarn .aon false
  ((((s1.reverifyAll).runDeferred).barnAgain).micCalsAgain)

/-- Brace has ended, after `low` as the lowest code of the dip: its duration, its releases, event 0x0302. -/
def State.braceOver (s : State) (low : Nat) : State :=
  let d := (s.span.count - s.sup.braceAt).toNat
  ((s.set F.SUP_DIP_TICKS (satTo 32 d)).braceEnds).ev2 0x0302 low d

/-- The lowest code of the rails that warn (log 72). -/
def State.dipLow (s : State) : Nat :=
  min (if s.flag F.SUP_STATUS_CORE_WARN then s.get F.SUP_VMON_CORE_MIN else 255)
    (if s.flag F.SUP_STATUS_AON_WARN then s.get F.SUP_VMON_AON_MIN else 255)

/-- BRACE_EXIT (R177, R180): `coreMin` and `aonMin` are the lowest codes since, `coreNow` and `aonNow` those that have stood for 50 µs. A
rail above its own release warns no longer; Brace ends where neither warns, with the lowest code of the rails that did. -/
def execBraceExit (coreMin aonMin coreNow aonNow : Byte) (s : State) : Out :=
  done (if s.flag F.SUP_STATUS_BRACE then
    let s1 := ((s.showRail .core coreMin.toNat true).showRail .aon aonMin.toNat true)
    let s2 := (s1.showRail .core coreNow.toNat true).showRail .aon aonNow.toNat true
    let low := s2.dipLow
    let core := s.flag F.SUP_STATUS_CORE_WARN && s.sup.armed && !aboveRelease .core coreNow.toNat
    let aon := s.flag F.SUP_STATUS_AON_WARN && !aboveRelease .aon aonNow.toNat
    if core || aon then (s2.setWarn .core core).setWarn .aon aon else s2.braceOver low
  else s)

/-- DIP_LONG (R181): Brace has outlasted DIP_MAX_MS. -/
def execDipLong (s : State) : Out :=
  done (if s.flag F.SUP_STATUS_BRACE && s.resets then
    let s1 := ((s.ev 0x0303 0).inc F.SUP_COUNTS_LONG).resetDue 6
    { s1 with sup := { s1.sup with dipAt := some s.span.count } }
  else s)

/-- The reset that DIP_LONG has made due in this very span tick: the reset threshold governs (R191). -/
def State.dipJustDue (s : State) : Bool :=
  s.boot.phase == .due && s.boot.cause == 6 && s.sup.dipAt == some s.span.count

/-- CORE_BROWNOUT (R182): VDD_CORE has reached its reset threshold; every switched domain opens and the rail stops; the 1 ms begins, unless
BOOT_HOLD or the L3 actions stand (log 73). -/
def execCoreBrownout (code : Byte) (s : State) : Out :=
  done (if s.powered && railMilli .core code.toNat ≤ resetMilli .core && (s.sup.armed || s.dipJustDue) then
    let c := min code.toNat (s.get F.SUP_VMON_CORE_MIN)
    let s1 := (((s.ev 0x0304 c).showRail .core code.toNat true)).openDomains
    s1.when (s1.resets || s.dipJustDue) fun s => { s with boot := { s.boot with phase := .browned } }
  else s)

/-- BROWNOUT_DELAY (R182): the warm start of cause BROWNOUT is due. -/
def execBrownoutDelay (s : State) : Out :=
  done (if s.boot.phase = .browned then { s with boot := { s.boot with phase := .due, cause := 7 } } else s)

/-- STORM_END (R183): no Brace has begun for STORM_HOLD_S. -/
def execStormEnd (s : State) : Out :=
  done (if s.flag F.SUP_STATUS_STORM then ((s.set F.SUP_STATUS_STORM 0).unforce 4).ev 0x0306 0 else s)

/-! The IO banks (17 R485) -/

/-- A bank's number. -/
def bankNo : Bank → Nat
  | .a => 0
  | .nvm => 1
  | .aud => 2
  | .cam => 3
  | .phy => 4

/-- A bank of selectable voltage: VDDIO_NVM, VDDIO_AUD, VDDIO_CAM (17 Table 17.4). -/
def bankSelects : Bank → Bool
  | .nvm => true
  | .aud => true
  | .cam => true
  | _ => false

/-- The class of a bank of selectable voltage (17 R478): 1 is 1.8 V, 2 is 3.3 V; 0 below its 1.2 V detector. -/
def State.bankClassOf (s : State) (b : Bank) : Nat := elGet 1 s.sup.bankClass (bankNo b)

/-- It takes a class. -/
def State.classify (s : State) (b : Bank) (c : Nat) : State :=
  s.when (bankSelects b) fun s => { s with sup := { s.sup with bankClass := elPut 1 s.sup.bankClass (bankNo b) c } }

/-- NVM_REQ_N reads asserted or released (03 R92): released, the grant ends but in BOOT_HOLD. -/
def State.nvmReads (s : State) (b : Bool) : State :=
  (s.set F.STW_NVM_REQ (b2n b)).when (!b && s.boot.phase != .hold) fun s => s.set F.STW_NVM_GRANTED 0

/-- BANK_UNDERVOLT (R485): the bank's inputs read inactive, and it has no class any more (R478). With VDDIO_A, MUTE_SW reads active and both LED paths read open; with
VDDIO_PHY, PCIe and both link ports lose their lanes. -/
def execBankUndervolt (b : Bank) (s : State) : Out :=
  done (if s.powered && s.bankOk (bankNo b) then
    let s1 := { s with sup := { s.sup with bankLow := withIdx s.sup.bankLow (bankNo b) } }.classify b 0
    match b with
    | .a =>
      let s2 := ({ s1 with ear := { s1.ear with muteSw := true } }.mute).muteLedFails false
      ((s2.when (!s2.head.ledHold) fun s => s.camLedFails false).nvmReads false).set F.PWR_WAKE_STATUS_WAKEIN_LEVEL 0
    | .phy => ((s1.pcieFalls).portDown 0).portDown 1
    | _ => s1
  else s)

end Sys2Proof.Machine
end

