-- ==== Sys2Proof/Machine/Power.lean ====
section
/-! DEFINITION. The power sequencer's transitions: chip states, domains, and wake sources (05; 04 R127, R135; 14 R422). -/

namespace Sys2Proof.Machine

/-! Preparation and ENTRY_COMMIT (R156, R166, R169) -/

/-- A tile is in flight on some stall; a cut tile counts (14 R407). -/
def State.tilesOut (s : State) : Bool :=
  (List.range 96).any fun st => (s.stall st).tile.isSome || (s.stall st).cut.isSome

/-- Every WAIT_NOTIFY that waits completes with BUSY (14 R422). -/
def State.notifyBusy (s : State) : State :=
  s.each s.disp.waiters fun s w =>
    match w.what with
    | .notify idx =>
      let s1 := { s with disp := { s.disp with waiters := s.disp.waiters.erase w } }.showWaiters
      s1.completeEntry w.ring idx 18
    | _ => s

/-- Every issued entry has completed: II equals DI on every ring, and the Mover is empty (14 R422). -/
def State.entriesDone (s : State) : Bool :=
  (List.range 2048).all (fun i => (s.ring i).ii == s.di i) && (List.range 16).all fun c => (s.chan c).isEmpty

/-- Changed setpoints or offsets are not in the state area yet (03 R97). -/
def State.unsaved (s : State) : Bool := s.boot.calDue || s.boot.calChanged || s.boot.writing.isSome || s.boot.retryBank.isSome

/-- The preparation of the next step down, towards `q`, has ended (Table 05.2). -/
def State.prepared (s : State) (q : ChipReq) : Bool :=
  if s.pwr.state = 0 then !s.tilesOut
  else if s.pwr.state = 1 then s.entriesDone && !(q.target == 3 && s.unsaved)
  else ((List.range 16).all fun i => match (s.slot i).phase with
      | .idle => true
      | .waiting _ _ => true
      | .faulted => true
      | _ => false)
    && (List.range 8).all fun p => match (s.port p).run with
      | some r => r.phase != .bus
      | none => true

/-- One step down becomes in flight (R155, R169): the rest of the request stays pending with its final target, and the entry
window opens (R166). Leaving Watch, pre-roll coding stops and runs are abandoned; leaving Run, programming and steps stop. -/
def State.commitStep (s : State) (q : ChipReq) : State :=
  let t := s.pwr.state + 1
  let req := match s.pwr.req with
    | some r => if r.target = t then none else some r
    | none => none
  let s1 := { s with pwr := { s.pwr with fly := some { q with target := t }, req := req, window := true }
                     ear := { s.ear with coding := s.ear.coding && s.pwr.state != 2 } }
  let s2 := s1.when (s.pwr.state == 0) fun s => (s.interruptRows (List.range 12) true).abandonSteps
  (s2.when (s.pwr.state == 2) fun s => s.yardRest).recompute

/-- ENTRY_COMMIT. -/
def execEntryCommit (s : State) : Out :=
  done (if s.isUp && s.pwr.fly.isNone then
    match s.pwr.due with
    | none => s
    | some q =>
      if s.pwr.state < q.target then
        let s1 := s.when (s.pwr.state == 1) fun s => s.notifyBusy
        if s1.prepared q then s1.commitStep q else s1
      else s.advance
  else s)

/-! Entering a state (R164, R165, R174) -/

/-- The next state of the transition in flight can be entered: down, every domain is at or below its new ceiling; up to Doze,
CORE_MGMT is on and the main PLL locked; up to Run, the ROW and LOFT domains have the levels voted (Table 05.2). -/
def State.mayEnter (s : State) : Bool :=
  let n := s.pwr.nextState
  if s.pwr.state < n then (List.range 24).all fun d => s.level d ≤ ceilOf n d && (s.inFlight d).getD 0 ≤ ceilOf n d
  else if n = 1 then s.coreOn && s.flag F.SPN_STATUS_PLL_LOCK
  else (List.range 16).all fun d => s.wanted d ≤ s.level d || s.failed d

/-- The target of a wake source, 1 WAKE_IN or 2 the sleep timer: 2 and 3 are both Watch (PWR_WAKE_CFG). -/
def State.wakeTarget (s : State) (src : Nat) : Nat :=
  min 2 (if src = 1 then s.get F.PWR_WAKE_CFG_WAKEIN_TARGET else s.get F.PWR_WAKE_CFG_TIMER_TARGET)

/-- Latches whose target is reached clear (R164). -/
def State.clearLatches (s : State) : State :=
  if s.isUp then
    (s.when (s.pwr.state ≤ s.wakeTarget 1) fun s => s.set F.PWR_WAKE_STATUS_WAKEIN_LATCH 0).when
      (s.pwr.state ≤ s.wakeTarget 2) fun s => s.set F.PWR_WAKE_STATUS_TIMER_FIRED 0
  else s

/-- What entry to Watch or Rest does: the sleep timer is armed (R165); in Watch a pre-roll session starts and the main PLL stops
before the root goes to low drive (04 R127); in Rest the microphones stop and the root stops (04 R135; 08 R258), and a Brace ends, since
none can be there (06 R206). A rise that passes through Watch out of Rest leaves it at once: the root stays at full drive with the main PLL
locked, and coding stops (R155, R156). -/
def State.settleState (s : State) (n : Nat) : State :=
  let armed := { s with pwr := { s.pwr with timerArmed := s.get F.PWR_SLEEP_TIMER_MS != 0 } }
  if n = 2 then
    let s1 := { armed with span := { armed.span with barnLock := false } }.startSession
    if s1.pwr.nextState < 2 then { s1 with ear := { s1.ear with coding := false } }
    else (s1.set F.SPN_STATUS_PLL_LOCK 0).set F.SPN_STATUS_DRIVE 0
  else if n = 3 then
    let s1 := armed.when (armed.flag F.SUP_STATUS_BRACE) fun s => s.braceOver s.dipLow
    ((((s1.sessionEnds 3).stopClocks).set F.EAR_STATUS_MICVDD_ON 0).railStop).stopRoot
  else s

/-- A state is entered: event 0x0210 with its cause. A multi-step rise goes on (R155); in Watch the cause of R145's forced request has
ended (R167). -/
def State.enterState (s : State) (n cause : Nat) (fly : Option ChipReq) : State :=
  let s1 := { s with pwr := { s.pwr with state := n, lastCause := cause, window := false, fly := fly
                                         forced := s.pwr.forced.filter fun q => !(q.cause == 8 && 2 ≤ n) } }
  (((s1.ev2 0x0210 n cause).clearLatches).settleState n).recompute

/-- STATE_ENTERED. -/
def execStateEntered (s : State) : Out :=
  done (if s.isUp then
    match s.pwr.fly with
    | some q =>
      if s.mayEnter then
        let n := s.pwr.nextState
        (s.enterState n q.cause (if q.target = n then none else some q)).advance
      else s
    | none => s
  else s)

/-! Domains (R160 to R163, R171, R172) -/

/-- DOMAIN_HOLD_END: the hold of a pending fall has run out. -/
def execDomainHoldEnd (d : Fin 24) (s : State) : Out :=
  done (match s.pendOf d with
    | some lvl => if lvl < s.level d then { s with pwr := { s.pwr with holdDone := withIdx s.pwr.holdDone d } }.evalDomain d else s
    | none => s)

/-- Cut tiles of a ROW resume on their stalls, and its sets are calibrated again (12 R358; 14 R407). -/
def State.rowReady (s : State) (d : Nat) : State :=
  s.each ((List.range 8).map (8 * d + ·)) fun s st =>
    ((s.when ((s.stall st).tile.isNone && (s.stall st).cut.isSome) fun s => s.stallIdle st).columnDue st).reverify st

/-- The calibrations that came due while the Steward stood begin with it: retries of columns, and microphones (01 R20, R32, R43). -/
def State.calsAgain (s : State) : State :=
  (s.each ((List.range 96).filter fun st => s.cal.abandoned.contains st && s.getAt F.CIM_STALLs_STATE_CAL_STATE st == 4) fun s st =>
    { s with cal := { s.cal with abandoned := without s.cal.abandoned st } }.setCalState st 1).micCalsAgain

/-- What a domain does as it reaches on. -/
def State.domainUp (s : State) (d : Nat) : State :=
  if isRow d then (s.rowReady d).serveReissues
  else if d = 17 then s.serveBarn
  else if d = 18 then (s.startPenWipe (if s.pen.startWiped then 2 else 4)).showCams
  else if d = 19 then s.micCalsAgain
  else if d = 20 then s.faultsDue.portsProbe
  else if d = 21 then s.attach 3
  else if d = 22 then s.linkUp
  else if d = 23 then s.calsAgain
  else s

/-- A domain reports ready (R162): the accesses that wait for it proceed (R161). -/
def State.ready (s : State) (d lvl : Nat) : State :=
  let s1 := { s with pwr := { s.pwr with retry := without s.pwr.retry d, restored := s.pwr.restored && d != 23 } }
  let s2 := (s1.setFlight d none).setLevel d lvl
  let s3 := s2.when (lvl == 2) fun s => s.domainUp d
  (s3.when (lvl == 2) fun s => s.serveStalled d).recompute

/-- DOMAIN_READY: CORE_MGMT reports ready once it is restored, outside a start (03 R109). -/
def execDomainReady (d : Fin 24) (s : State) : Out :=
  done (match s.inFlight d with
    | some lvl =>
      if s.level d < lvl && s.depReady d && (d.val != 23 || !s.isUp || s.pwr.restored) then s.ready d lvl else s
    | none => s)

/-- The drop pre-action of a domain allows its switch to open (Table 05.4): no whole-Pen wipe runs, no class-0 tile runs on a
ROW, no bus step and no STORE to a LOFT that rises runs on a port, no channel sends and no frame
awaits its ACK. -/
def State.dropReady (s : State) (d : Nat) : Bool :=
  if isRow d then ((List.range 8).map (8 * d + ·)).all fun st => match (s.stall st).tile with
    | some t => t.cls != 0 && (s.stall st).cut.isNone
    | none => true
  else if d = 18 then !s.flag F.PEN_STATUS_WIPING
  else if d = 20 then (List.range 8).all fun p => match (s.port p).run with
    | some r => r.phase != .bus && !(s.storeWaits p).any s.rises
    | none => true
  else if d = 22 then s.link.sending.isEmpty && !s.linkBusy
  else true

/-- A running tile of a stall is cut at its next preemption point. -/
def State.cutTile (s : State) (st : Nat) : State :=
  match (s.stall st).tile with
  | some t => s.setStall st { s.stall st with tile := none, cut := some t }
  | none => s

/-- The pre-action of a ROW: its programming is interrupted (12 R353), its tiles are cut, and where its SRAM is lost they are
issued again from the start (10 R315). -/
def State.rowDrop (s : State) (d lvl : Nat) : State :=
  let sts := (List.range 8).map (8 * d + ·)
  let s1 := (s.interruptRows [d] true).each sts fun s st => s.cutTile st
  s1.when (lvl == 0) fun s => s.each sts fun s st => s.stopStall st false

/-- Rings whose memory lies in a LOFT domain that goes off behind the save of R108 come back empty, PI equal to DI (R109). -/
def State.emptyRings (s : State) (d : Nat) : State :=
  s.each ((List.range 2048).filter fun i => match s.entryAt i 0 with
      | some (m, off) => memDomain m off == some d
      | none => false)
    fun s i => s.setAt F.RNG_RINGi_PI_PI i (s.di i)

/-- What CORE_MGMT loses with its switch beyond what a restore brings back: the map store and the Barn's retained copy (13
R373, R380). The Steward's calibrations of microphones are abandoned (01 R20, R43). -/
def State.coreDrop (s0 : State) : State :=
  let s := s0.micCalsAbandon fun _ => true
  ({ s with barn := { s.barn with maps := [], copy := [], copyDark := [], fetched := false } }.set F.BRN_STATUS_MAPS_VALID 0).set
    F.BRN_STATUS_SETPOINTS 0

/-- What a domain's drop does before its switch opens. -/
def State.domainDown (s : State) (d lvl : Nat) : State :=
  if isRow d then s.rowDrop d lvl
  else if isLoft d then s.when (lvl == 0 && (2 ≤ s.pwr.nextState || !s.coreOn)) fun s => s.emptyRings d
  else if d = 17 then { s with span := { s.span with barnLock := false } }
  else if d = 18 then s.showCams.camRelease
  else if d = 19 then s.earDrop.micCalsAbandon s.calPathHq
  else if d = 20 then s.portsStop 0
  else if d = 21 then s.hostDrop
  else if d = 22 then s.linkDrop
  else if d = 23 then s.coreDrop
  else s

/-- No switched domain is above off or on its way there: the rail stops (06 R186). -/
def State.railIdle (s : State) : State := s.when (!s.railWanted && s.flag F.VRC_STATUS_RUNNING) fun s => s.railStop

/-- DOMAIN_DROPPED. -/
def execDomainDropped (d : Fin 24) (s : State) : Out :=
  done (match s.inFlight d with
    | some lvl =>
      if lvl < s.level d && s.dropReady d then
        let s1 := ((s.domainDown d lvl).setFlight d none).setLevel d lvl
        ({ s1 with pwr := { s1.pwr with window := false } }.recompute).railIdle
      else s
    | none => s)

/-- The capture window of microphone `m`, not failed yet, lies at least partly in LOFT `k`. -/
def State.windowIn (s : State) (m k : Nat) : Bool :=
  let sel := s.getAt F.EAR_MICm_CFG_WIN_SEL m
  let base := 4096 * s.getAt F.EAR_MICm_CFG_BASE_PLOT m
  let size := (if sel = winSel .hq48 then 256 else 64) * s.winFrames m
  s.micOn m && sel != 0 && s.getAt F.EAR_MICm_STAT_WIN_FAILED m == 0 && base < 0x400000 * (k + 1)
    && 0x400000 * k < base + size

/-- A domain fails: its votes count no more, its waiters end with DOMAIN_FAILED, and the stalls of a failed ROW are fenced (cause
6, 10 R313); microphone windows of a failed LOFT stop (08 R256). -/
def State.domainFails (s : State) (d : Nat) : State :=
  let s1 := ((s.setMaskBit R.PWR_FAILED d true).ev 0x0215 d).setFlight d none
  let s2 := s1.when (isRow d) fun s => s.each ((List.range 8).map (8 * d + ·)) fun s st => s.fence st 6
  let s3 := s2.when (isLoft d) fun s => s.each (List.range 16) fun s m =>
    s.when (s.windowIn m (d - 12)) fun s => (s.setAt F.EAR_MICm_STAT_WIN_FAILED m 1).ev 0x050D m
  (((s3.when (isBarn d) fun s => s.serveBarn).serveReissues).serveStalled d).recompute

/-- DOMAIN_TIMEOUT (R172): the first opens the switch and starts the wake again; the second marks the domain failed. -/
def execDomainTimeout (d : Fin 24) (s : State) : Out :=
  done (match s.inFlight d with
    | some lvl =>
      if s.level d < lvl then
        let s1 := s.setLevel d 0
        if s.pwr.retry.contains d then
          ({ s1 with pwr := { s1.pwr with retry := without s1.pwr.retry d } }).domainFails d
        else { s1 with pwr := { s1.pwr with retry := withIdx s1.pwr.retry d } }.ev 0x0214 d
      else s
    | none => s)

/-- FIRST_ACCESS_WAKE (R161): only ROW, LOFT, BARN and PEN domains wake on an access. -/
def execFirstAccessWake (d : Fin 24) (s : State) : Out :=
  done (if s.isUp && d.val ≤ 18 then s.masterAccess d .touch id id else s)

/-! Wake sources (R164 to R166; 03 R115) -/

/-- WAKE_IN is active: above or below as WAKEIN_POL says, read inactive below VDDIO_A's detector (17 R485). -/
def State.wakeActive (s : State) : Bool :=
  s.bankOk 0 && match s.pwr.wakePin with
    | some l => l != s.flag F.PWR_WAKE_CFG_WAKEIN_POL
    | none => false

/-- A source wakes in the present state (Table 05.5). -/
def State.wakesNow (s : State) (src : Nat) : Bool :=
  s.isUp && (if src = 1 then 1 ≤ s.pwr.state else 2 ≤ s.pwr.state) && s.wakeTarget src < s.pwr.state

/-- The chip goes down a step. -/
def State.falling (s : State) : Bool := s.pwr.state < s.pwr.nextState

/-- The chip already heads to `t` or above it. -/
def State.headsTo (s : State) (t : Nat) : Bool :=
  (match s.pwr.fly with | some q => decide (q.target ≤ t) | none => false)
    || (match s.pwr.req with | some q => decide (q.target ≤ t) | none => false)

/-- A wake source acts: event 0x0212 and its request. -/
def State.wakeActs (s : State) (src : Nat) : State :=
  ((s.set F.PWR_WAKE_STATUS_LAST_SOURCE src).ev 0x0212 src).request { target := s.wakeTarget src, cause := 2 }

/-- A level or latched source acts where it wakes; while the chip goes down it waits for the next sample (R166). -/
def State.levelWake (s : State) (src : Nat) : State := s.when (s.wakesNow src && !s.falling) fun s => s.wakeActs src

/-- WAKE_IN has become active: level, latched edge, raw edge (lost in the entry window, R166; held during a start, 03 R115), or
disabled. -/
def State.wakeRises (s : State) : State :=
  match s.get F.PWR_WAKE_CFG_WAKEIN_MODE with
  | 0 => s.levelWake 1
  | 1 => (((s.set F.PWR_WAKE_STATUS_WAKEIN_LATCH 1)).levelWake 1).clearLatches
  | 2 =>
    if s.boot.phase = .inStart then
      { s with pwr := { s.pwr with held := s.pwr.held ++ [{ target := s.wakeTarget 1, cause := 2 }] } }
    else s.when (s.wakesNow 1 && !s.pwr.window) fun s => s.wakeActs 1
  | _ => s

/-- WAKE_IN is read: WAKEIN_LEVEL, and an edge to active. -/
def State.readWake (s : State) (was : Bool) : State :=
  (s.set F.PWR_WAKE_STATUS_WAKEIN_LEVEL (b2n s.wakeActive)).when (s.wakeActive && !was) fun s => s.wakeRises

/-- WAKE_IN: the board drives a level on the pin. -/
def execWakeIn (level : Bool) (s : State) : Out :=
  done (if s.powered then { s with pwr := { s.pwr with wakePin := some level } }.readWake s.wakeActive else s)

/-- SLEEP_TIMER (R165): the timer's latch is set. -/
def execSleepTimer (s : State) : Out :=
  done (if s.pwr.timerArmed && s.powered then
    let s1 := { s with pwr := { s.pwr with timerArmed := false } }.set F.PWR_WAKE_STATUS_TIMER_FIRED 1
    (s1.levelWake 2).clearLatches
  else s)

/-- The level and latched sources are sampled again: one that is active wakes, unless the chip already heads there (R166). -/
def State.sampleWakes (s : State) : State :=
  let pin := (s.get F.PWR_WAKE_CFG_WAKEIN_MODE == 0 && s.wakeActive)
    || (s.get F.PWR_WAKE_CFG_WAKEIN_MODE == 1 && s.flag F.PWR_WAKE_STATUS_WAKEIN_LATCH)
  (s.when (pin && !s.headsTo (s.wakeTarget 1)) fun s => s.levelWake 1).when
    (s.flag F.PWR_WAKE_STATUS_TIMER_FIRED && !s.headsTo (s.wakeTarget 2)) fun s => s.levelWake 2

/-- WAKE_RESAMPLE. -/
def execWakeResample (s : State) : Out := done (if s.isUp then s.sampleWakes else s)

/-- BANK_RESTORED (17 R485): the bank's inputs read its pins again, and one of selectable voltage classifies itself (R478). -/
def execBankRestored (b : Bank) (v33 : Bool) (s : State) : Out :=
  done (if s.powered && !s.bankOk (bankNo b) then
    let s1 := { s with sup := { s.sup with bankLow := without s.sup.bankLow (bankNo b) } }.classify b (if v33 then 2 else 1)
    if b = .a then
      ((s1.when (!s1.sup.muteDown) fun s => s.muteRelease).nvmReads s1.sup.nvmAsked).readWake false
    else s1
  else s)

end Sys2Proof.Machine
end

