-- ==== Sys2Proof/Machine/Load.lean ====
section
/-! DEFINITION. The image sections that a start loads: what makes each valid, and what each loads (02 R74, R75; 07 R221, R229;
08 R242, R256; 09 R276; 10 R311, R318; 12 R348, R365; 14 R420, R422; 16 R462). -/

namespace Sys2Proof.Machine

/-- Two runs of bytes (start, length) share none. -/
def apart (a b : Nat × Nat) : Bool := a.2 == 0 || b.2 == 0 || decide (a.1 + a.2 ≤ b.1) || decide (b.1 + b.2 ≤ a.1)

/-- No two of these runs share a byte. -/
def allApart : List (Nat × Nat) → Bool
  | [] => true
  | x :: xs => xs.all (apart x) && allApart xs

/-! Descriptor chains, ring and tally setup: section 10 (14 R420, R422) -/

/-- The counts of the header. -/
def chRings (b : List Byte) : Nat := fieldAt b 2 2
def chHeads (b : List Byte) : Nat := byteAt b 4
def chTallies (b : List Byte) : Nat := fieldAt b 6 2
def chLoads (b : List Byte) : Nat := fieldAt b 8 2

/-- Record `i` of each kind. -/
def ringRec (b : List Byte) (i : Nat) : List Byte := slice b (16 + 32 * i) 32
def headRec (b : List Byte) (i : Nat) : List Byte := slice b (16 + 32 * chRings b + 8 * i) 8
def tallyRec (b : List Byte) (i : Nat) : List Byte := slice b (16 + 32 * chRings b + 8 * chHeads b + 8 * i) 8
def loadRec (b : List Byte) (i : Nat) : List Byte :=
  slice b (16 + 32 * chRings b + 8 * chHeads b + 8 * chTallies b + 16 * i) 16

/-- A Loft address of Table 14.1, or a Loft or stall one. -/
def inLoftSpace (w : Nat) : Bool := match fabAddr w with | .mem .loft _ => true | _ => false
def inFabric (w : Nat) : Bool := match fabAddr w with | .mem .loft _ => true | .mem .stall _ => true | _ => false

/-- A ring of 2^`lg` entries at `w` keeps to R396: aligned, in one LOFT domain or one stall. -/
def ringPlaced (w lg : Nat) : Bool :=
  let n := 64 * 2 ^ lg
  match fabAddr w with
  | .mem .loft off => off % n == 0 && off / 0x400000 == (off + n - 1) / 0x400000
  | .mem .stall off => off % 0x20000 % n == 0 && decide (off % 0x20000 + n ≤ 0x20000)
  | _ => false

/-- A ring record keeps to Table 14.9; REPEAT has PRELOAD equal to SIZE (R398). -/
def ringRecOk (r : List Byte) : Bool :=
  let lg := byteAt r 2
  let pre := fieldAt r 20 4
  r.length == 32 && fieldAt r 0 2 ≤ 2047 && 4 ≤ lg && lg ≤ 16 && byteAt r 3 ≤ 3 && byteAt r 4 ≤ 1 && byteAt r 5 ≤ 3
    && byteAt r 6 ≤ 3 && byteAt r 7 ≤ 15 && ringPlaced (fieldAt r 8 4) lg
    && (if byteAt r 4 = 1 then inFabric (fieldAt r 12 4) && inLoftSpace (fieldAt r 16 4)
        else fieldAt r 12 4 == 0 && fieldAt r 16 4 == 0)
    && pre ≤ 2 ^ lg && (!bitOf (byteAt r 6) 1 || pre == 2 ^ lg) && zeroAt r 24 8

/-- A head record: SLOT, COUNT, and descriptors inside the section. -/
def headRecOk (b r : List Byte) : Bool :=
  r.length == 8 && byteAt r 0 ≤ 31 && 1 ≤ byteAt r 1 && byteAt r 1 ≤ 64 && zeroAt r 2 2 && fieldAt r 4 4 % 64 == 0
    && decide (fieldAt r 4 4 + 64 * byteAt r 1 ≤ b.length)

/-- A tally record. -/
def tallyRecOk (r : List Byte) : Bool := r.length == 8 && fieldAt r 0 2 ≤ 4095 && zeroAt r 2 2

/-- A load record: whole plots of the Loft, from bytes of the section. -/
def loadRecOk (b r : List Byte) : Bool :=
  let off := bitsOf (fieldAt r 0 4) 0 24
  let n := fieldAt r 4 4
  r.length == 16 && inLoftSpace (fieldAt r 0 4) && off % 4096 == 0 && n % 4096 == 0 && decide (off + n ≤ 0x1000000)
    && fieldAt r 8 4 % 64 == 0 && decide (fieldAt r 8 4 + n ≤ b.length) && zeroAt r 12 4

/-- The records. -/
def ringRecs (b : List Byte) : List (List Byte) := (List.range (chRings b)).map (ringRec b)
def headRecs (b : List Byte) : List (List Byte) := (List.range (chHeads b)).map (headRec b)
def tallyRecs (b : List Byte) : List (List Byte) := (List.range (chTallies b)).map (tallyRec b)
def loadRecs (b : List Byte) : List (List Byte) := (List.range (chLoads b)).map (loadRec b)

/-- The section is valid (R420); an absent one is present and empty (03 R99). -/
def chainsValid (b : List Byte) : Bool :=
  b.isEmpty || (16 ≤ b.length && fieldAt b 0 2 == 1 && chRings b ≤ 2048 && chHeads b ≤ 32 && zeroAt b 5 1 && chTallies b ≤ 4096
    && chLoads b ≤ 256 && zeroAt b 10 6
    && (ringRecs b).all ringRecOk && (headRecs b).all (headRecOk b) && (tallyRecs b).all tallyRecOk
    && (loadRecs b).all (loadRecOk b)
    && decide ((ringRecs b).map fun r => fieldAt r 0 2).Nodup && decide ((headRecs b).map fun r => byteAt r 0).Nodup
    && decide ((tallyRecs b).map fun r => fieldAt r 0 2).Nodup
    && allApart ((loadRecs b).map fun r => (bitsOf (fieldAt r 0 4) 0 24, fieldAt r 4 4)))

/-- The LOFT domains of a load record. -/
def loadDomains (r : List Byte) : List Nat :=
  let off := bitsOf (fieldAt r 0 4) 0 24
  (List.range 4).filterMap fun k =>
    if off < 0x400000 * (k + 1) && 0x400000 * k < off + fieldAt r 4 4 then some (12 + k) else none

/-- A load record is written into the Loft; whole plots become clean (02 R59). A LOFT that has failed takes none. -/
def State.writeLoad (s : State) (b r : List Byte) : State :=
  s.when ((loadDomains r).all fun d => s.level d == 2) fun s =>
    { s with mem := s.mem.write .loft (bitsOf (fieldAt r 0 4) 0 24) (slice b (fieldAt r 8 4) (fieldAt r 4 4)) 0 }

/-- The head store holds the heads of the section. -/
def State.loadHeads (s : State) (b : List Byte) : State :=
  let hs := (headRecs b).foldl (fun t r => elPut [] t (byteAt r 0) (slice b (fieldAt r 4 4) (64 * byteAt r 1))) []
  { s with disp := { s.disp with heads := hs } }

/-- A ring's SL fields and what a DATA ring names. -/
def State.ringFields (s : State) (r : List Byte) : State :=
  let i := fieldAt r 0 2
  let fl := byteAt r 6
  let s1 := s.setRing i { s.ring i with arg := fieldAt r 12 4, handler := fieldAt r 16 4, preload := fieldAt r 20 4 }
  let s2 := ((((s1.setAt F.RNG_RINGi_CFG_LOG2_SIZE i (byteAt r 2)).setAt F.RNG_RINGi_CFG_CLASS i (byteAt r 3)).setAt
    F.RNG_RINGi_CFG_KIND i (byteAt r 4)).setAt F.RNG_RINGi_CFG_OWNER i (byteAt r 5)).setAt F.RNG_RINGi_CFG_PEN_GRANT i
    (b2n (bitOf fl 0))
  ((s2.setAt F.RNG_RINGi_CFG_REPEAT i (b2n (bitOf fl 1))).setAt F.RNG_RINGi_CFG_CHANNEL i (byteAt r 7)).setAt
    F.RNG_RINGi_BASE_BASE i (fieldAt r 8 4)

/-- A start loads a ring; unarmed, its indices are those it arms with. -/
def State.loadRing (s : State) (r : List Byte) : State :=
  ((s.ringFields r).setAt F.RNG_RINGi_PI_PI (fieldAt r 0 2) (fieldAt r 20 4)).setAt F.RNG_RINGi_DI_DI (fieldAt r 0 2) 0

/-- Every tally takes its record's value, or 0. -/
def State.loadTallies (s : State) (b : List Byte) : State :=
  (s.each (List.range 4096) fun s t => s.setAt F.TLY_TALLYt_VALUE t 0).each (tallyRecs b) fun s r =>
    s.setAt F.TLY_TALLYt_VALUE (fieldAt r 0 2) (fieldAt r 4 4)

/-- A restore of CORE_MGMT (03 R109): the SL fields of the rings and the head store. -/
def State.restoreChains (s : State) (b : List Byte) : State :=
  if chainsValid b then (s.loadHeads b).each (ringRecs b) State.ringFields else s

/-- Step 10 of a start (R422): loads, heads, tallies, ring registers. An invalid section: event 0x0C00, nothing of it. -/
def State.loadChains (s : State) (b : List Byte) : State :=
  if chainsValid b then
    let s1 := ((s.each (loadRecs b) fun s r => s.writeLoad b r).loadHeads b).loadTallies b
    (s1.each (ringRecs b) State.loadRing).set F.RNG_STATUS_SECTION_OK 1
  else ((s.loadTallies []).set F.RNG_STATUS_SECTION_OK 0).ev 0x0C00 0

/-! The egress policy: section 4 (02 R74, R75, R65) -/

/-- Entries in all, entry `j`, and whether it is a Yard entry. -/
def polCount (b : List Byte) : Nat := byteAt b 2 + byteAt b 3
def polEntry (b : List Byte) (j : Nat) : List Byte := slice b (16 + 48 * j) 48
def polYard (b : List Byte) (j : Nat) : Bool := byteAt b 2 ≤ j

/-- An entry keeps to Table 02.8. -/
def polOk (yard : Bool) (e : List Byte) : Bool :=
  let id := byteAt e 0
  let src := byteAt e 1
  (if yard then 0x80 ≤ id && id ≤ 0x8F && src ≤ 15 else id ≤ 0x1F && src ≤ 31) && fieldAt e 2 2 < 512 && byteAt e 4 < 8
    && 1 ≤ byteAt e 5 && byteAt e 6 ≤ 31 && byteAt e 7 ≤ 200 && 1 ≤ fieldAt e 8 4 && zeroAt e 12 4

/-- The policy is valid (R75); an absent one is the policy without heads (03 R99). -/
def policyValid (b : List Byte) : Bool :=
  let ix := List.range (polCount b)
  b.isEmpty || (b.length == 16 + 48 * polCount b && fieldAt b 0 2 == 1 && byteAt b 2 ≤ 32 && byteAt b 3 ≤ 16 && byteAt b 4 ≤ 1
    && byteAt b 5 ≤ 15 && zeroAt b 8 8 && ix.all (fun j => polOk (polYard b j) (polEntry b j))
    && decide (ix.map fun j => byteAt (polEntry b j) 0).Nodup
    && decide (ix.map fun j => (polYard b j, byteAt (polEntry b j) 1)).Nodup)

/-- The index of a head in the GATE registers. -/
def headIndex (id : Nat) : Nat := if id < 0x80 then id else 32 + (id - 0x80)

/-- The bytes of a Yard head: its program words, then the bytes of its net (R65). -/
def State.yardHead (s : State) (n : Nat) : List Byte :=
  let c := s.slotCfg n
  s.yardRead (0x400 * n) (4 * c.length)
    ++ (if c.net = 0xFF then [] else
      let k : NetCfg := elGet {} s.yard.nets c.net
      s.yardRead (0x20000 + k.off) k.len)

/-- The bytes a head's digest covers; a slot that holds nothing gives no head. -/
def State.headSource (s : State) (yard : Bool) (src : Nat) : List Byte :=
  if yard then s.yardHead src else elGet [] s.disp.heads src

/-- The head of a policy entry is armed when its digest matches; otherwise event 0x0701 (R65). -/
def State.armHead (s : State) (yard : Bool) (e : List Byte) : State :=
  let x := s.headSource yard (byteAt e 1)
  let ok := x != [] && sha256 x == slice e 16 32
  (s.setAt F.GATE_HEADi_CFG_ARMED (headIndex (byteAt e 0)) (b2n ok)).when (!ok) fun s => s.ev 0x0701 (byteAt e 0)

/-- The SL fields of a policy entry, and the slot it names. -/
def State.loadHead (s : State) (e : List Byte) : State :=
  let i := headIndex (byteAt e 0)
  let s1 := ((s.setAt F.GATE_HEADi_CFG_TYPES i (fieldAt e 2 2)).setAt F.GATE_HEADi_CFG_FLAGS i (byteAt e 4)).setAt
    F.GATE_HEADi_CFG_BURST i (byteAt e 5)
  let s2 := ((s1.setAt F.GATE_HEADi_LIMITS_MAX_CLASS i (byteAt e 6)).setAt F.GATE_HEADi_LIMITS_MAX_COUNT i (byteAt e 7)).setAt
    F.GATE_HEADi_REFILL_REFILL i (fieldAt e 8 4)
  { s2 with gate := { s2.gate with source := elPut 0 s2.gate.source i (byteAt e 1) } }

/-- The bucket of a policy entry's head is filled (R86). -/
def State.fillHead (s : State) (e : List Byte) : State :=
  s.setAt F.GATE_HEADi_LIMITS_TOKENS (headIndex (byteAt e 0)) (byteAt e 5)

/-- The SL fields of the header, and those of every entry. -/
def State.policyFields (s : State) (b : List Byte) : State :=
  (((s.set F.GATE_CFG_TRUST_GROUP (fieldAt b 6 2)).set F.GATE_CFG_OUTPUTS (byteAt b 5)).set F.GATE_CFG_SOUND_EXPORT (byteAt b 4)).each
    (List.range (polCount b)) fun s j => s.loadHead (polEntry b j)

/-- Every head of the policy is armed afresh. -/
def State.armHeads (s : State) (b : List Byte) : State :=
  s.each (List.range (polCount b)) fun s j => s.armHead (polYard b j) (polEntry b j)

/-- A restore of CORE_MGMT (03 R109): the SL fields of section 4, and its heads armed by their digests (R65). The buckets are kept fields,
which the save store brings back. -/
def State.restorePolicy (s : State) (b : List Byte) : State := s.when (policyValid b) fun s => (s.policyFields b).armHeads b

/-- The register-load step of a start: header fields, entries, arming; at a cold start the buckets fill. An invalid policy: event
0x0700, no head (R75). -/
def State.loadPolicy (s : State) (b : List Byte) (cold : Bool) : State :=
  let s0 := { s with gate := { s.gate with source := [] } }
  if policyValid b then
    let s1 := (s0.policyFields b).set F.GATE_CFG_POLICY_OK 1
    (s1.when cold fun s => s.each (List.range (polCount b)) fun s j => s.fillHead (polEntry b j)).armHeads b
  else (s0.set F.GATE_CFG_POLICY_OK 0).ev 0x0700 0

/-! The alarm policy: section 5 (16 R462) -/

/-- The floor of a source (Table 16.4). -/
def alarmFloor (src : Nat) : Nat := match src with | 0 => 3 | 6 => 3 | 8 => 2 | _ => 1

/-- The section keeps to R462. -/
def alarmPolicyOk (b : List Byte) : Bool :=
  b.length == 32 && fieldAt b 0 2 == 1 && zeroAt b 2 14 && zeroAt b 25 7
    && (List.range 9).all fun k => 1 ≤ byteAt b (16 + k) && byteAt b (16 + k) ≤ 3

/-- SEC_ALARM_LEVEL from the section, no source below its floor. -/
def State.loadAlarms (s : State) (b : List Byte) : State :=
  if b.isEmpty then (s.set F.SEC_ALARM_LEVEL_LEVEL 0x2B6AB).set F.SEC_ALARM_STATUS_POLICY_OK 1
  else if alarmPolicyOk b then
    let v := (List.range 9).foldl (fun n k => n + max (alarmFloor k) (byteAt b (16 + k)) * 4 ^ k) 0
    ((s.set F.SEC_ALARM_LEVEL_LEVEL v).set F.SEC_ALARM_STATUS_POLICY_OK 1).each
      ((List.range 9).filter fun k => byteAt b (16 + k) < alarmFloor k) fun s k => s.ev 0x0E01 k
  else ((s.set F.SEC_ALARM_LEVEL_LEVEL 0x2B6AB).set F.SEC_ALARM_STATUS_POLICY_OK 0).ev 0x0E02 0

/-! Watch programs and micro-nets: section 6 (07 R221, R229, R231) -/

/-- The bytes of a net keep to Table 07.7: `n` layers in a chain, weights and biases inside, 2 to 16 outputs (R215). -/
def netFine (net : List Byte) (n : Nat) : Bool :=
  let ds := (List.range n).map fun k => slice net (16 * k) 16
  let ls := ds.map layerOf
  1 ≤ n && n ≤ 8 && 16 * n ≤ net.length && ds.all (fun d => byteAt d 7 ≤ 1)
    && ls.all (fun l => 1 ≤ l.inN && l.inN ≤ 1024 && 1 ≤ l.outN && l.outN ≤ 1024 && l.shift ≤ 31
      && decide (l.wOff + l.outN * l.inN ≤ net.length) && decide (l.bOff + 4 * l.outN ≤ net.length))
    && (ls.zip (ls.drop 1)).all (fun p => p.1.outN == p.2.inN)
    && match ls.getLast? with
      | some l => 2 ≤ l.outN && l.outN ≤ 16
      | none => false

/-- A net of `len` bytes at `off` of a section fits the section, and at `sram` the weight region. -/
def netPlaced (b : List Byte) (off len sram : Nat) : Bool :=
  off % 16 == 0 && len ≤ 65536 && decide (off + len ≤ b.length) && sram % 16 == 0 && decide (sram + len ≤ 0x60000)

/-- Slot entry `i` and net entry `j`. -/
def watchSlot (b : List Byte) (i : Nat) : List Byte := slice b (16 + 192 * i) 192
def watchNet (b : List Byte) (j : Nat) : List Byte := slice b (16 + 192 * byteAt b 2 + 16 * j) 16

/-- All of each. -/
def watchSlots (b : List Byte) : List (List Byte) := (List.range (byteAt b 2)).map (watchSlot b)
def watchNets (b : List Byte) : List (List Byte) := (List.range (byteAt b 3)).map (watchNet b)

/-- A slot entry keeps to Table 07.6. -/
def watchSlotOk (b e : List Byte) : Bool :=
  e.length == 192 && byteAt e 0 ≤ 15 && byteAt e 1 ≤ 15 && 1 ≤ fieldAt e 2 2 && fieldAt e 2 2 ≤ 256 && byteAt e 12 ≤ 2
    && byteAt e 13 ≤ 7 && zeroAt e 15 1 && 1 ≤ byteAt e 18 && byteAt e 18 ≤ byteAt e 19 && byteAt e 19 ≤ 16
    && fieldAt e 22 2 ≤ 2047 && zeroAt e 30 2 && 1 ≤ fieldAt e 32 4 && fieldAt e 32 4 ≤ 2 ^ 24 && 1 ≤ fieldAt e 36 4
    && fieldAt e 40 4 % 4 == 0 && decide (fieldAt e 40 4 + 4 * fieldAt e 2 2 ≤ b.length) && zeroAt e 44 4 && zeroAt e 176 16

/-- A net entry keeps to Table 07.7. -/
def watchNetOk (b e : List Byte) : Bool :=
  e.length == 16 && netPlaced b (fieldAt e 0 4) (fieldAt e 4 4) (fieldAt e 8 4) && zeroAt e 13 3
    && netFine (slice b (fieldAt e 0 4) (fieldAt e 4 4)) (byteAt e 12)

/-- Where a net entry places its net: offset in the weight region, and bytes. -/
def watchPlace (e : List Byte) : Nat × Nat := (fieldAt e 8 4, fieldAt e 4 4)

/-- The section is valid (R229); an absent one is empty. -/
def watchValid (b : List Byte) : Bool :=
  b.isEmpty || (16 ≤ b.length && fieldAt b 0 2 == 1 && byteAt b 2 ≤ 16 && byteAt b 3 ≤ 16 && zeroAt b 4 12
    && (watchSlots b).all (watchSlotOk b) && (watchNets b).all (watchNetOk b)
    && decide ((watchSlots b).map fun e => byteAt e 0).Nodup && allApart ((watchNets b).map watchPlace))

/-- The Yard SRAM takes bytes of a load; its plots stay clean (Table 07.1). -/
def State.yardLoad (s : State) (off : Nat) (bs : List Byte) : State := { s with mem := s.mem.store .yard off bs }

/-- Step 5 of a cold start: program words, feature descriptors and nets (R231). -/
def State.loadWatchMem (s : State) (b : List Byte) : State :=
  if watchValid b then
    (s.each (watchSlots b) fun s e =>
      let n := byteAt e 0
      (s.yardLoad (0x400 * n) (slice b (fieldAt e 40 4) (4 * fieldAt e 2 2))).yardLoad (0x7000 + 0x80 * n) (slice e 48 128)).each
      (watchNets b) fun s e => s.yardLoad (0x20000 + fieldAt e 8 4) (slice b (fieldAt e 0 4) (fieldAt e 4 4))
  else s

/-- A ring of section 10 that a WAKE may name: class 0, DATA, owner 0 (R229). -/
def wakeRing (chains : List Byte) (i : Nat) : Bool :=
  chainsValid chains && (ringRecs chains).any fun r =>
    fieldAt r 0 2 == i && byteAt r 3 == 0 && byteAt r 4 == 1 && byteAt r 5 == 0

/-- The entry alone is valid: its WAKE_RING and its NET (R229). -/
def watchSlotGood (b chains e : List Byte) : Bool :=
  wakeRing chains (fieldAt e 22 2) && (byteAt e 14 == 0xFF || byteAt e 14 < byteAt b 3)

/-- The configuration of a slot entry. -/
def watchCfg (e : List Byte) : SlotCfg :=
  { length := fieldAt e 2 2, phase := fieldAt e 8 4, net := byteAt e 14, thresh := byteAt e 16, hold := byteAt e 17
    n := byteAt e 18, m := byteAt e 19, mask := fieldAt e 20 2, ring := fieldAt e 22 2, wakeVotes := fieldAt e 24 6
    cycleMax := fieldAt e 32 4, waitMax := fieldAt e 36 4 }

/-- One slot entry at SEAL: its registers; an invalid one stays disabled, event 0x0401. -/
def State.loadSlot (s : State) (good : Bool) (e : List Byte) : State :=
  let n := byteAt e 0
  let s1 := { s with yard := { s.yard with cfg := elPut {} s.yard.cfg n (watchCfg e) } }
  let s2 := ((s1.setAt F.YRD_SLOTn_PERIOD_PERIOD n (fieldAt e 4 4)).setAt F.YRD_SLOTn_TRIG_FLAGS n (byteAt e 1)).setAt
    F.YRD_SLOTn_TRIG_TRIGGER n (byteAt e 12)
  let s3 := s2.setAt F.YRD_SLOTn_TRIG_TRIG_INDEX n (byteAt e 13)
  let s4 := s3.set F.YRD_CFG_SLOT_EN (setBitOf (s3.get F.YRD_CFG_SLOT_EN) n (good && bitOf (byteAt e 1) 0))
  s4.when (!good) fun s => s.ev 0x0401 n

/-- The slot configuration at SEAL of a cold start (R231); an invalid section enables no slot, event 0x0400. -/
def State.loadWatch (s : State) (b chains : List Byte) : State :=
  let s0 := { s with yard := { s.yard with cfg := [], nets := [] } }.set F.YRD_CFG_SLOT_EN 0
  if watchValid b then
    let nets := (watchNets b).map fun e => ({ off := fieldAt e 8 4, layers := byteAt e 12, len := fieldAt e 4 4 } : NetCfg)
    let s1 := { s0 with yard := { s0.yard with nets := tblCells (fun _ => ({} : NetCfg)) 0 nets } }
    ((s1.each (watchSlots b) fun s e => s.loadSlot (watchSlotGood b chains e) e).set F.YRD_SECTION_NETS (byteAt b 3)).set
      F.YRD_SECTION_VALID 1
  else ((s0.set F.YRD_SECTION_NETS 0).set F.YRD_SECTION_VALID 0).ev 0x0400 0

/-! Recogniser patterns: section 7 (08 R242, R256, R258) -/

/-- Pattern entry `i`, and the entries in use. -/
def patEntry (b : List Byte) (i : Nat) : List Byte := slice b (16 + 32 * i) 32
def patEntries (b : List Byte) : List (List Byte) := (List.range (byteAt b 2)).map (patEntry b)

/-- The bytes of an entry's net. -/
def patNet (b e : List Byte) : List Byte := slice b (fieldAt e 12 4) (fieldAt e 16 4)

/-- An entry keeps to Table 08.5. -/
def patOk (b e : List Byte) : Bool :=
  byteAt e 0 ≤ 7 && byteAt e 1 ≤ 7 && byteAt e 2 ≤ 15 && byteAt e 3 ≤ 15 && 1 ≤ byteAt e 5 && byteAt e 5 ≤ 16 && 1 ≤ byteAt e 6
    && byteAt e 6 ≤ 25 && 1 ≤ byteAt e 7 && byteAt e 7 ≤ 4 && fieldAt e 8 2 ≤ 60000 && zeroAt e 10 2 && zeroAt e 25 7
    && netPlaced b (fieldAt e 12 4) (fieldAt e 16 4) (fieldAt e 20 4) && netFine (patNet b e) (byteAt e 24)

/-- The section is valid (R242, R256); an absent one is empty. -/
def patsValid (b : List Byte) : Bool :=
  b.isEmpty || (272 ≤ b.length && fieldAt b 0 2 == 1 && byteAt b 2 ≤ 8 && zeroAt b 3 13 && (patEntries b).all (patOk b)
    && (List.range 8).all (fun i => i < byteAt b 2 || zeroAt (patEntry b i) 0 32)
    && decide ((patEntries b).map fun e => byteAt e 0).Nodup)

/-- Where an entry places its net. -/
def patPlace (e : List Byte) : Nat × Nat := (fieldAt e 20 4, fieldAt e 16 4)

/-- The entry alone is valid: its net overlaps no other pattern's and no watch net, and layer 0 has IN = 40 × CONTEXT. -/
def patGood (b watch e : List Byte) : Bool :=
  ((patEntries b).all fun x => byteAt x 0 == byteAt e 0 || apart (patPlace e) (patPlace x))
    && (!watchValid watch || (watchNets watch).all fun n => apart (patPlace e) (watchPlace n))
    && (layerOf (slice (patNet b e) 0 16)).inN == 40 * byteAt e 6

/-- Step 5 of a cold start: the pattern nets. -/
def State.loadPatMem (s : State) (b watch : List Byte) : State :=
  if patsValid b then
    s.each ((patEntries b).filter (patGood b watch)) fun s e => s.yardLoad (0x20000 + fieldAt e 20 4) (patNet b e)
  else s

/-- One entry at SEAL; an invalid one is disabled, event 0x0501. -/
def State.loadPat (s : State) (good : Bool) (e : List Byte) : State :=
  let p := byteAt e 0
  let x : PatCfg := { context := byteAt e 6, stride := byteAt e 7, refract := fieldAt e 8 2, netOff := fieldAt e 20 4
                      layers := byteAt e 24, bad := !good }
  let s1 := { s with ear := { s.ear with pats := elPut {} s.ear.pats p x } }
  let s2 := ((s1.setAt F.EAR_PATp_CFG_THRESH p (byteAt e 4)).setAt F.EAR_PATp_CFG_PERSIST_M1 p (byteAt e 5 - 1)).setAt
    F.EAR_PATp_CFG_TARGET p (byteAt e 3)
  let s3 := (s2.setAt F.EAR_PATp_CFG_MIC p (byteAt e 2)).setAt F.EAR_PATp_CFG_FLAGS p
    (if good then byteAt e 1 else setBitOf (byteAt e 1) 0 false)
  s3.when (!good) fun s => s.ev 0x0501 p

/-- The patterns at SEAL of a cold start; an invalid section enables none, event 0x0500 (R256). -/
def State.loadPats (s : State) (b watch : List Byte) : State :=
  let s0 := { s with ear := { s.ear with pats := [] } }
  if patsValid b then s0.each (patEntries b) fun s e => s.loadPat (patGood b watch e) e
  else s0.ev 0x0500 0

/-! Port scripts: section 8 (09 R273, R276) -/

/-- Script entry `i`, and all of them. -/
def scriptEntries (b : List Byte) : List (List Byte) := (List.range (byteAt b 2)).map fun i => slice b (16 + 8 * i) 8

/-- The step words of an entry. -/
def scriptWords (b e : List Byte) : List Nat := (List.range (byteAt e 2)).map fun i => fieldAt b (fieldAt e 4 4 + 8 * i) 8

/-- The section is valid (R276); an absent one is empty. -/
def scriptsValid (b : List Byte) : Bool :=
  b.isEmpty || (16 ≤ b.length && fieldAt b 0 2 == 1 && byteAt b 2 ≤ 64 && zeroAt b 3 13
    && (scriptEntries b).all (fun e => e.length == 8 && byteAt e 0 ≤ 7 && byteAt e 1 ≤ 7 && 1 ≤ byteAt e 2 && byteAt e 2 ≤ 64
      && zeroAt e 3 1 && fieldAt e 4 4 % 8 == 0 && decide (fieldAt e 4 4 + 8 * byteAt e 2 ≤ b.length))
    && decide ((scriptEntries b).map fun e => (byteAt e 0, byteAt e 1)).Nodup)

/-- Step `i` of a script keeps to Table 09.4: no bit set that its row does not name, every field in range. -/
def stepFine (ws : List Nat) (i : Nat) : Bool :=
  let w := ws.getD i 0
  let f := bitsOf w
  match stepOp w with
  | 1 => f 43 5 == 0 && f 32 8 == 0 && 1 ≤ f 40 3 && f 40 3 ≤ 4
  | 2 => f 42 6 == 0 && f 10 22 == 0 && 1 ≤ f 32 10 && f 32 10 ≤ 512 && f 0 10 + f 32 10 ≤ 1024
  | 3 => f 32 24 == 0 && 1 ≤ f 0 32
  | 4 => f 32 24 == 0
  | 5 => f 46 10 == 0 && f 0 32 == 0 && 1 ≤ f 32 8 && f 40 6 < i
      && (List.range i).all fun k => k < f 40 6 || stepOp (ws.getD k 0) != 5
  | 6 => f 53 2 == 0 && 1 ≤ f 32 11 && f 32 11 ≤ 1024 && f 43 10 + f 32 11 ≤ 1024
      && (if bitOf w 55 then f 0 32 + f 32 11 ≤ 0x1000000 else 0x8000 ≤ f 0 32 && f 0 32 + f 32 11 ≤ 0x20000)
  | 7 => if f 52 4 = 0 then f 44 8 == 0 && f 16 16 == 0
      else f 52 4 == 1 && f 2 50 == 0 && f 0 2 ≤ 2
  | _ => false

/-- The script store takes every script whose steps keep to R273; the others: event 0x0601. An invalid section: 0x0600. -/
def State.loadScripts (s : State) (b : List Byte) : State :=
  let s0 := { s with head := { s.head with scripts := [] } }
  if scriptsValid b then
    s0.each (scriptEntries b) fun s e =>
      let ws := scriptWords b e
      if (List.range ws.length).all (stepFine ws) then
        { s with head := { s.head with scripts := elPut [] s.head.scripts (8 * byteAt e 0 + byteAt e 1) ws } }
      else s.ev2 0x0601 (byteAt e 0) (byteAt e 1)
  else s0.ev 0x0600 0

/-! Stall weight sets: section 9 (12 R348, R365) -/

/-- The entries. -/
def wsetEntries (b : List Byte) : List (List Byte) := (List.range (fieldAt b 2 2)).map fun i => slice b (16 + 48 * i) 48

/-- An address field of an entry: a Loft address; without a commit tally, 0 as well (log 80). -/
def wsetAddr (need : Bool) (w : Nat) : Bool := inLoftSpace w || (!need && w == 0)

/-- An entry keeps to Table 12.1. -/
def wsetOk (b e : List Byte) : Bool :=
  let t := fieldAt e 32 2
  e.length == 48 && fieldAt e 0 2 ≤ 0xFFFE && (byteAt e 2 == 4 || byteAt e 2 == 5) && byteAt e 3 ≤ 3 && fieldAt e 16 4 % 64 == 0
    && fieldAt e 20 4 == 16384 && decide (fieldAt e 16 4 + 16384 ≤ b.length) && zeroAt e 34 2
    && (t == 0xFFFF || (t ≤ 4095 && bitOf (byteAt e 3) 0)) && wsetAddr (t != 0xFFFF) (fieldAt e 36 4)
    && wsetAddr (t != 0xFFFF) (fieldAt e 40 4) && wsetAddr false (fieldAt e 44 4)

/-- No stall appears in two entries. -/
def stallsApart : List (List Byte) → Bool
  | [] => true
  | x :: xs => xs.all (fun y => fieldAt x 4 12 &&& fieldAt y 4 12 == 0) && stallsApart xs

/-- The section is valid (R348); an absent one is empty. -/
def wsetsValid (b : List Byte) : Bool :=
  b.isEmpty || (16 ≤ b.length && fieldAt b 0 2 == 1 && fieldAt b 2 2 ≤ 96 && zeroAt b 4 12 && (wsetEntries b).all (wsetOk b)
    && decide ((wsetEntries b).map fun e => fieldAt e 0 2).Nodup && stallsApart (wsetEntries b))

/-- An entry as the Steward holds it. -/
def wsetCfg (e : List Byte) : WsetCfg :=
  { wset := fieldAt e 0 2, format := byteAt e 2, flags := byteAt e 3, stalls := fieldAt e 4 12, offset := fieldAt e 16 4
    digest := fieldAt e 24 8, tally := fieldAt e 32 2, stateAddr := fieldAt e 36 4, scaleDst := fieldAt e 40 4
    emulAddr := fieldAt e 44 4 }

/-- The sets are held; an invalid section gives none, event 0x0A00 (R365). -/
def State.loadSets (s : State) (b : List Byte) : State :=
  if wsetsValid b then { s with cim := { s.cim with sets := (wsetEntries b).map wsetCfg } }
  else { s with cim := { s.cim with sets := [] } }.ev 0x0A00 0

/-! The mapping table: section 12 (10 R304, R311, R318) -/

/-- Job and envelope entries. -/
def mapJobs (b : List Byte) : List (List Byte) := (List.range (fieldAt b 2 2)).map fun i => slice b (16 + 16 * i) 16
def mapEnvs (b : List Byte) : List (List Byte) :=
  (List.range (byteAt b 4)).map fun i => slice b (16 + 16 * fieldAt b 2 2 + 32 * i) 32

/-- FALLBACK of a job entry: the chips before the first 0xFF. -/
def fallbacks (e : List Byte) : List Nat := ((slice e 8 4).map (·.toNat)).takeWhile (· != 0xFF)

/-- A job entry keeps to Table 10.8. -/
def mapJobOk (members : Nat) (e : List Byte) : Bool :=
  let fb := fallbacks e
  let chip := fun c => c ≤ 63 && bitOf members c
  fieldAt e 0 2 ≤ 255 && fieldAt e 2 2 ≤ 2047 && 1 ≤ fieldAt e 4 2 && decide (fieldAt e 2 2 + fieldAt e 4 2 ≤ 2048)
    && chip (byteAt e 6) && zeroAt e 7 1 && zeroAt e 12 4 && fb.all (fun c => chip c && c != byteAt e 6) && decide fb.Nodup
    && ((slice e 8 4).drop fb.length).all (· == 0xFF)

/-- An envelope keeps to Table 10.7. -/
def mapEnvOk (e : List Byte) : Bool :=
  1 ≤ fieldAt e 2 2 && fieldAt e 2 2 ≤ fieldAt e 4 2 && fieldAt e 4 2 ≤ 4096 && zeroAt e 6 2 && zeroAt e 24 8

/-- The section is valid (R318); an absent one makes a group of this chip alone (R311). -/
def mapValid (b : List Byte) : Bool :=
  b.isEmpty || (b.length == 16 + 16 * fieldAt b 2 2 + 32 * byteAt b 4 && fieldAt b 0 2 == 1 && fieldAt b 2 2 ≤ 256
    && byteAt b 4 ≤ 64 && zeroAt b 5 3 && (mapJobs b).all (mapJobOk (fieldAt b 8 8)) && (mapEnvs b).all mapEnvOk
    && decide ((mapJobs b).map fun e => fieldAt e 0 2).Nodup
    && allApart ((mapJobs b).map fun e => (fieldAt e 2 2, fieldAt e 4 2)))

/-- A job and an envelope as held. -/
def mapJob (e : List Byte) : JobCfg :=
  { job := fieldAt e 0 2, firstRing := fieldAt e 2 2, rings := fieldAt e 4 2, primary := byteAt e 6, fallback := fallbacks e }
def mapEnv (e : List Byte) : Envelope :=
  { allowed := fieldAt e 0 2, drift1 := fieldAt e 2 2, drift2 := fieldAt e 4 2, max := (slice e 8 16).map (·.toNat) }

/-- The mapping table is held; an invalid one gives no job and no envelope, event 0x0833 when `log` (R318). -/
def State.loadMapping (s : State) (b : List Byte) (log : Bool) : State :=
  if mapValid b then
    { s with fab := { s.fab with members := fieldAt b 8 8, digest := if b.isEmpty then 0 else leNat ((sha256 b).take 8)
                                 jobs := (mapJobs b).map mapJob, envs := (mapEnvs b).map mapEnv } }.set F.STL_GROUP_MAP_OK 1
  else
    ({ s with fab := { s.fab with members := 0, digest := 0, jobs := [], envs := [] } }.set F.STL_GROUP_MAP_OK 0).when log
      fun s => s.ev 0x0833 0

/-! Checks of the register-load step -/

/-- A slot's SCALE, CLIP and E fields make it valid (11 R344). -/
def State.numFine (s : State) (i : Nat) : Bool :=
  let c := s.getAt F.NUM_SLOTi_BASE_SCALE i
  0 < c && c < 0x7C00 && s.getAt F.NUM_SLOTi_CLIP_CLIP_LO i ≤ s.getAt F.NUM_SLOTi_CLIP_CLIP_HI i
    && signed 5 (s.getAt F.NUM_SLOTi_EXP_E_MIN i) ≤ 0 && 0 ≤ signed 5 (s.getAt F.NUM_SLOTi_EXP_E_MAX i)

/-- NUM_SLOT_OKk; event 0x0905 for each invalid slot when `log` (R344). -/
def State.checkNums (s : State) (log : Bool) : State :=
  s.each (List.range 64) fun s i =>
    ((s.setMaskBit R.NUM_SLOT_OKk i (s.numFine i)).showNum i).when (log && !s.numFine i) fun s => s.ev 0x0905 i

/-- A camera port's frame fits its slot and its DVP setting is legal (09 R283). -/
def State.camFits (s : State) (p : Nat) : Bool :=
  decide (s.lineBytes p * s.getAt F.CAM_PORTn_SIZE_HEIGHT p ≤ s.penBytes p)
    && !(s.isDvp p && (p == 0 || s.getAt F.CAM_PORTn_CFG_DT p == 1))

/-- A camera port stays disabled until the next start. -/
def State.camOff (s : State) (p : Nat) : State := s.setCam p { s.cam p with stopped := true }

/-- The slot configuration (02 R84) and the frames (09 R283) of the enabled camera ports. -/
def State.checkCams (s : State) : State :=
  let s1 := s.when (32 < s.penUnits) fun s => ((s.camOff 0).camOff 1).ev 0x0716 0
  s1.each ((List.range 2).filter fun p => s.camOn p && !s.camFits p) fun s p => (s.camOff p).ev 0x0610 p

/-- The reserved stalls: in different rows, at most 95; else the defaults, event 0x0820 when `log` (10 R305). -/
def State.checkReserved (s : State) (log : Bool) : State :=
  let a := s.get F.STL_RESERVED_RES0
  let b := s.get F.STL_RESERVED_RES1
  if a ≤ 95 ∧ b ≤ 95 ∧ a / 8 ≠ b / 8 then s.set F.STL_RESERVED_DEFAULTED 0
  else (((s.set F.STL_RESERVED_RES0 0).set F.STL_RESERVED_RES1 48).set F.STL_RESERVED_DEFAULTED 1).when log fun s => s.ev 0x0820 0

/-- The class-0 settings keep to both conditions of 14 R408, in FCLK cycles: 1 µs is 983.04, a span tick 960. -/
def State.c0Bounded (s : State) : Bool :=
  let run := s.get F.DSP_C0_CFG_C0_RUN_MAX * 1024
  let burst := s.get F.DSP_C0_CFG_C0_BURST
  decide (100 * ((burst - 1) * run) + 98304 ≤ 8 * 98304) && decide (run ≤ 960 * s.get F.DSP_C0_CFG_C0_REFILL)

/-- DSP_STATUS.C0_UNBOUNDED; event 0x0C07 when `log`. -/
def State.checkC0 (s : State) (log : Bool) : State :=
  (s.set F.DSP_STATUS_C0_UNBOUNDED (b2n (!s.c0Bounded))).when (log && !s.c0Bounded) fun s => s.ev 0x0C07 0

end Sys2Proof.Machine
end

