-- ==== Sys2Proof/Machine/Start.lean ====
section
/-! DEFINITION. How a start begins: its causes, what it keeps, t0, failure, BOOT_HOLD, and the loss of power (03 R89, R110, R111,
R114, R117, R119, R120, R123; 04 R130, R134; 06 R182). -/

namespace Sys2Proof.Machine

/-! Causes (Table 03.12): 0 POWER_ON, 1 RESET_N, 2 AON_BROWNOUT, 3 ALARM_L3, 4 START_FAIL; from 5 on the warm ones -/

/-- The cause starts cold. -/
def coldCause (c : Nat) : Bool := c ≤ 4

/-- AON was not retained: the event log and the span counter begin anew. -/
def clearsAon (c : Nat) : Bool := c == 0 || c == 2

/-! What a start keeps -/

/-- The block of a register: 0 SPN … 24 LOG. -/
def RegDef.block (r : RegDef) : Nat := (r.base - 0x40000000) / 0x10000

/-- Bits in OTP, in the key store's nonvolatile array and in the record rows of the CIM macros. -/
def RegDef.nonvolatile (r : RegDef) : Word :=
  if r.base = R.SEC_LIFECYCLE.base ∨ r.base = R.SEC_OTP_HASHk.base ∨ r.base = R.SEC_SERIALk.base ∨ r.base = R.SEC_ID_PUBk.base
      ∨ r.base = R.CIM_STALLs_COMMIT.base then 0xFFFFFFFF
  else if r.base = R.SEC_KEYS.base then 0xFFFF000B
  else if r.base = R.CIM_STALLs_STATE.base then 0xFFFFF000
  else 0

/-- Bits that a cold start keeps because AON does: FAILS and the alarms seen, SPAN_RATE with RATE_VALID and XT_STOPPED until the
carry ends (04 R134, R135), the marks of unverified rows (12 R367), the event log. -/
def RegDef.keptInAon (r : RegDef) : Word :=
  if r.block = 24 ∨ r.base = R.SPN_RATE.base then 0xFFFFFFFF
  else if r.base = R.SEC_DBG_STATUS.base then 0xF000
  else if r.base = R.SEC_ALARM_STATUS.base then 0x1FF0000
  else if r.base = R.SPN_STATUS.base then 0x28
  else if r.base = R.CIM_STALLs_STATE.base then 0x800
  else 0

/-- The bits a start of a cause keeps (00 R15): the Warm column at a warm start; at a cold one what is nonvolatile, what AON keeps,
and with the boot counters kept the IMG fields (R123). An L2 outlasts a warm start (16 R459). -/
def RegDef.keptBy (c : Nat) (r : RegDef) : Word :=
  if coldCause c then
    r.nonvolatile ||| (if clearsAon c then 0 else r.keptInAon) ||| (if 3 ≤ c ∧ r.block = 23 then r.kept else 0)
  else r.kept ||| r.nonvolatile ||| (if r.base = R.SEC_ALARM_STATUS.base then F.SEC_ALARM_STATUS_LEVEL.mask ||| F.SEC_ALARM_STATUS_FIRST_SOURCE.mask
    else 0)

/-- The registers keep these bits and take their reset values otherwise. -/
def State.keepRegs (s : State) (keep : RegDef → Word) : State := { s with regs := resetWords (fun _ => true) keep s.regs }

/-- Everything else at t0 of a start: what AON or nonvolatile cells hold stays, the rest is as after reset. -/
def State.keepParts (s : State) (c : Nat) : State :=
  let cold := coldCause c
  let clr := clearsAon c
  let mem : MemState := { s.mem with yard := if clr then [] else s.mem.yard, tYard := if clr then [] else s.mem.tYard }
  let pwr : PwrState := { wakePin := s.pwr.wakePin, wakeReq := if c = 5 then s.pwr.wakeReq else none
                          timerArmed := !cold && s.pwr.timerArmed }
  let sup : SupState := { aonCode := s.sup.aonCode, bankLow := s.sup.bankLow, bankClass := s.sup.bankClass, muteDown := s.sup.muteDown
                          nvmAsked := s.sup.nvmAsked }
  let yard : YardState := if cold then {} else { s.yard with slots := [], featUnit := none, netUnit := none, stalled := [] }
  let cim : CimState := { cells := s.cim.cells, records := s.cim.records, wear := s.cim.wear
                          marks := if clr then [] else s.cim.marks, last := if clr then [] else s.cim.last
                          ended := if clr then [] else s.cim.ended }
  let ear : EarState := { muteSw := s.ear.muteSw, pats := if cold then [] else s.ear.pats }
  let host : HostState := { sent := s.host.sent, freed := if cold then 0 else s.host.freed }
  let jtag : JtagState := { s.jtag with hold := if cold then [0, 1, 3, 4].contains s.jtag.ir else s.jtag.hold, challenge := []
                                        failedAt := if clr then none else s.jtag.failedAt, apDone := false, apData := 0 }
  let keys : KeyState := { s.keys with staged := if cold then [] else s.keys.staged, keyin := [], hot := false, erased := false
                                       filled := false }
  { s with mem := mem, pwr := pwr, sup := sup, yard := yard, log := if clr then {} else s.log, pen := { startWiped := false }
           disp := {}, head := { scripts := if cold then [] else s.head.scripts }, cim := cim
           fab := { joined := !cold && s.fab.joined }, host := host, link := {}
           jtag := jtag, ear := ear, barn := { failed := !cold && s.barn.failed, barred := !cold && s.barn.barred }, keys := keys
           gate := { lost := !cold && s.gate.lost }, cal := {}, therm := {} }

/-- The span counter at t0 (04 R130, R134, R135): cleared where AON was not retained; otherwise the time from the stop of the root on
is carried. The root restarts. A clearing that has not ended goes on. At a Rest exit the root has run since the wake, and a carry that
has closed by then is over (R143, R144, R149). -/
def State.spanT0 (s : State) (c : Nat) : State :=
  if clearsAon c then
    { s with span := { rootOn := true, ticks := s.span.ticks, rateWins := s.span.rateWins } }
  else
    let s1 := if s.span.running && c != 5 then s.stopRoot else s
    { s1 with span := { s1.span with rootOn := true, rateReset := coldCause c || s1.span.rateReset, barnLock := false } }

/-- Bookkeeping of a start at t0. -/
def State.bootT0 (s : State) (c : Nat) : State :=
  { s with boot := { phase := .inStart, warm := !coldCause c, fellBack := s.boot.fellBack, cause := c, prev := c
                     newest := if clearsAon c then none else s.boot.newest, calTimer := s.boot.calTimer && !clearsAon c } }

/-- The slot of a start (R111, R106): cold, the first with fewer than 3 failures, event 0x0103 where A has just reached 3. -/
def State.selectSlot (s : State) : State :=
  let s1 := { s with boot := { s.boot with fellBack := false } }
  if s.boot.warm then s1.set F.IMG_CAUSE_SLOT (s.get F.IMG_BOOT_ACTIVE_SLOT)
  else if s.get F.IMG_BOOT_FAILS_A < 3 then s1.set F.IMG_CAUSE_SLOT 0
  else (s1.set F.IMG_CAUSE_SLOT 1).when (s.boot.fellBack && s.get F.IMG_BOOT_FAILS_B < 3) fun s => s.ev 0x0103 0

/-- The slot of the start in progress. -/
def State.startSlot (s : State) : Nat := s.get F.IMG_CAUSE_SLOT

/-- What IMG_CAUSE, IMG_STRAPS and the other registers that t0 samples show (R89, R110); a mute that stands stays (08 R247). -/
def State.showStart (s : State) (env : StartEnv) (c prev : Nat) : State :=
  let s1 := ((((s.set F.IMG_CAUSE_CAUSE c).set F.IMG_CAUSE_PREV_CAUSE (if clearsAon c then 0 else prev)).set F.IMG_CAUSE_TYPE
    (b2n (!coldCause c))).set F.IMG_STRAPS_BOOTSEL env.bootsel.toNat).set F.STL_GROUP_CHIP_ID env.chip.toNat
  let s2 := (s1.set F.SEC_ALARM_LEVEL_LEVEL 0x2B6AB).set F.EAR_STATUS_MUTED (b2n s1.ear.muteSw)
  (s2.set F.SPN_STATUS_DRIVE 1).set F.SPN_STATUS_ALIGNING (b2n s2.span.carrying)

/-- t0 of the start that is due (R89, R106): every switched domain is open; what is not kept is reset. Programmings that t0 interrupts
leave their rows unverified (12 R353); the log writer has taken every entry that waits, so that the intake is empty (07 LOG_STATUS.INTAKE;
DESIGN CHOICE, log 216). -/
def State.beginStart (s : State) (env : StartEnv) : State :=
  let c := s.boot.cause
  let s1 := (((s.interruptRows (List.range 12) true).openDomains).drainLog).spanT0 c
  (((s1.keepRegs (RegDef.keptBy c)).keepParts c).bootT0 c |>.showStart env c s.boot.prev).selectSlot

/-! The start loader's votes (05 R175) -/

/-- Domains that the start needs go on under slot 9, in this order. One of `bad` does not report ready, twice, and fails (R172); one that
has failed stays off. -/
def State.startOn (s : State) (bad : List (Fin 24)) (ds : List Nat) : State :=
  (s.each ds fun s d =>
    if s.failed d || (d = 21 && s.failed 23) then s
    else if s.level d != 2 && bad.any (·.val == d) then (s.ev 0x0214 d).domainFails d
    else
      let s1 := { s with pwr := { s.pwr with votes := elPut 0 s.pwr.votes (16 * d + 9) 2 } }
      if s.level d = 2 then s1 else (s1.setLevel d 2).domainUp d).recompute

/-! Failure and BOOT_HOLD (R111, R117, R119, R120) -/

/-- A failed start is counted against its slot. -/
def State.countFail (s : State) : State :=
  let f := if s.startSlot = 0 then F.IMG_BOOT_FAILS_A else F.IMG_BOOT_FAILS_B
  let s1 := s.set f (min 3 (s.get f + 1))
  { s1 with boot := { s1.boot with fellBack := s.startSlot == 0 && s.get f == 2 } }

/-- The start fails: its slot's counter gains 1, and a start of cause START_FAIL is due. -/
def State.startFails (s : State) : State := s.countFail.resetDue 4

/-- BOOT_HOLD with its cause: AON, CORE_MGMT and HOST alone are on, and the NVM is granted. -/
def State.enterHold (s : State) (bad : List (Fin 24)) (cause : Nat) : State :=
  let s1 := (((s.ev 0x0104 cause).set F.IMG_BOOT_HOLD 1).set F.IMG_BOOT_HOLD_CAUSE cause).set F.STW_NVM_GRANTED 1
  ({ s1 with boot := { s1.boot with phase := .hold } }.startOn bad [23, 21]).showCams

/-! Loss of power and the reset pin (06 R182; 03 R114; 16 R468) -/

/-- VIN_AON is below its reset threshold: only nonvolatile cells, the board's pins and the model's own counters keep what they
hold; the LOFT and ROW contents are lost, and a programming has come as far as it has. -/
def State.powerLoss (s0 : State) : State :=
  let s := s0.interruptRows (List.range 12) true
  let r := State.reset
  let k := s.keepRegs RegDef.nonvolatile
  let lost := (List.range 16).foldl (fun (t : Tab Nat) d => elPut 0 t d (s.free + 1)) []
  { r with
    regs := k.regs
    mem := { nvm := s.mem.nvm, lost := lost }
    pwr := { wakePin := s.pwr.wakePin }
    sup := { bankLow := s.sup.bankLow, bankClass := s.sup.bankClass, muteDown := s.sup.muteDown, nvmAsked := s.sup.nvmAsked }
    cim := { cells := s.cim.cells, records := s.cim.records }
    host := { sent := s.host.sent }
    ear := { muteSw := s.sup.muteDown }
    keys := { identity := s.keys.identity, group := s.keys.group, idSlot := s.keys.idSlot, grpSlot := s.keys.grpSlot
              killed := s.keys.killed }
    resp := s.resp
    free := s.free + 1
    pending := s.pending }

/-- POWER_ON (R110): VIN_AON rises; the cold start of cause POWER_ON is due. -/
def execPowerOn (s : State) : Out := done s.powerLoss

/-- AON_BROWNOUT (06 R182): AON retention is lost; the cold start of its cause follows the recovery of VIN_AON. -/
def execAonBrownout (s : State) : Out :=
  done (if s.powered then { s.powerLoss with boot := { s.powerLoss.boot with phase := .down, cause := 2 } } else s)

/-- RESET_N (R114): a start in progress is abandoned, uncounted; with VDDIO_A below its detector the pin reads inactive (17 R485), and
during L3 it is held until action 8, whose cause stays ALARM_L3 (16 R468). -/
def execResetN (s : State) : Out :=
  done (if s.powered && s.bankOk 0 && s.boot.phase != .zeroise then s.resetDue 1 else s)

end Sys2Proof.Machine
end

