-- ==== Sys2Proof/Machine/Boot.lean ====
section
/-! DEFINITION. The steps of a cold and of a warm start (03 R103 to R107, R111, R113, R115, R118, R121). -/

namespace Sys2Proof.Machine

/-- Step `k` has ended. -/
def State.stepDone (s : State) (k : Nat) : State := { s with boot := { s.boot with step := k } }

/-- Step `k` has begun: IMG_STATUS.STEP. -/
def State.stepBegun (s : State) (k : Nat) : State := s.set F.IMG_STATUS_STEP (max k (s.get F.IMG_STATUS_STEP))

/-! Steps 2 and 3 -/

/-- The span clock starts again at the end of step 2 (04 R130, R134 to R136, R144): a cleared counter from 0; a carry that no alignment
has ended yet aligns, from the RC estimate where XT32 does not run. -/
def State.spanStarts (s : State) (rc : Word) : State :=
  let s1 := if s.span.clearing then
      ((({ s with span := { s.span with count := 0, running := true, clearing := false, rootOn := true } }.set F.SPN_STATUS_ORIGIN
        1).set F.SPN_STATUS_CARRIED 0).set F.SPN_STATUS_ALIGNING 0).releaseHeld []
    else if s.span.carrying then (if s.flag F.SPN_STATUS_XT_STOPPED then s.xtLost rc else s.align rc)
    else s
  s1.when s1.span.rateReset fun s =>
    ({ s with span := { s.span with rateReset := false } }.set F.SPN_RATE_SPAN_RATE 0x1F400000).set F.SPN_STATUS_RATE_VALID 0

/-- Step 2: every phase is calibrated and the rail rises (06 R205), which a Brace holds off (R179); the main PLL locks and the tick count
restarts (04 R138). -/
def State.start2 (s : State) (env : StartEnv) : State :=
  if s.flag F.SUP_STATUS_BRACE && !s.sup.armed then s
  else
  let s1 := (s.railEnable env.isen).spanStarts env.rcCycles
  ((((s1.set F.SPN_STATUS_PLL_LOCK 1).set F.SPN_TICK_COUNT 0).when (!s1.boot.warm) fun s => s.set F.SPN_STATUS_XT_STOPPED 0)).stepDone 2

/-- An identity key is generated when none is held (16 R455). -/
def State.makeIdentity (s : State) : State :=
  let st := s.get F.SEC_LIFECYCLE_STATE
  match (if (st = 1 ∨ st = 2) ∧ s.keys.identity = [] then s.liveSlot 0 else none) with
  | none => s
  | some slot =>
    let k := privateKey ((List.range 48).map (Config.drbgByte s.free))
    let pub := publicBytes k
    let s1 := { s.draw with keys := { s.keys with identity := beBytes 32 k, idSlot := slot } }
    ((s1.set F.SEC_KEYS_IDENTITY 1).each (List.range 16) fun s i => s.setAt F.SEC_ID_PUBk_DATA i (fieldAt pub (4 * i) 4)).ev 0x0E05 0

/-- Step 3 needs an operation of the key store, which no Brace lets start (06 R179). -/
def State.keysDue (s : State) : Bool :=
  let st := if !s.boot.warm && s.flag F.SEC_LIFECYCLE_PENDING then s.get F.SEC_LIFECYCLE_NEXT else s.get F.SEC_LIFECYCLE_STATE
  s.flag F.SEC_KEYS_ZEROISE_PENDING || ((st == 1 || st == 2) && s.keys.identity.isEmpty)

/-- Step 3: a pending lifecycle change takes effect at a cold start (16 R451), a pending zeroise completes (16 R468), the identity key.
What the key store has to do waits for the end of a Brace. -/
def State.start3 (s : State) (env : StartEnv) : State :=
  if s.flag F.SUP_STATUS_BRACE && s.keysDue then s
  else
  let s1 := s.when (!s.boot.warm && s.flag F.SEC_LIFECYCLE_PENDING) fun s =>
    ((s.set F.SEC_LIFECYCLE_STATE (s.get F.SEC_LIFECYCLE_NEXT)).set F.SEC_LIFECYCLE_PENDING 0).set F.SEC_LIFECYCLE_NEXT 0
  let s2 := s1.when (s1.flag F.SEC_KEYS_ZEROISE_PENDING) fun s => (s.eraseKeys env.killed).ev 0x0E04 0
  (s2.makeIdentity).stepDone 3

/-! Step 4 (R103, R111, R119) -/

/-- The start goes on to step 5, or into BOOT_HOLD: BLANK or RETURNED, the reserved strap, both slots failed. -/
def State.holdCheck (s : State) (bad : List (Fin 24)) : State :=
  let lc := s.get F.SEC_LIFECYCLE_STATE
  if lc = 0 then s.enterHold bad 3
  else if lc = 3 then s.enterHold bad 4
  else if s.get F.IMG_STRAPS_BOOTSEL = 3 then s.enterHold bad 2
  else if !s.boot.warm && s.get F.IMG_BOOT_FAILS_A == 3 && s.get F.IMG_BOOT_FAILS_B == 3 then s.enterHold bad 1
  else s.stepDone 4

/-- Step 4: the AON BIST, skipped at a warm start; the Yard SRAM but the log is zero. -/
def State.start4 (s : State) (env : StartEnv) : State :=
  if s.boot.warm then s.holdCheck env.failing
  else match env.aonBist with
    | some yard => (s.ev 0x0108 (if yard then 0 else 1)).startFails
    | none => s.zeroYard.holdCheck env.failing

/-! Step 5 (R99 to R102, R106, R118, R121) -/

/-- Pairs of halfwords as words. -/
def pairUp : List Nat → List Nat
  | a :: b :: rest => (a + 65536 * b) :: pairUp rest
  | _ => []

/-- The wear counters take these values, in the order of rows, and the cycle counters in the order of stalls. -/
def State.setWear (s : State) (rows cycles : List Nat) : State :=
  { s with cim := { s.cim with wear := tblCells (fun _ => 0) 0 rows } }.each (List.range 96) fun s st =>
    (s.setAt F.CIM_STALLs_CYCLES_CYCLES st (cycles.getD st 0)).showWear st

/-- The offsets of phases that no calibration has passed for take halfword 2n of a list (06 R189). -/
def State.senseOffsets (s : State) (l : List (BitVec 16)) (source : Nat) : State :=
  s.each ((List.range 4).filter fun n => s.getAt F.VRC_OFFSETn_SOURCE n != 1) fun s n =>
    (s.setAt F.VRC_OFFSETn_OFFSET n (l.getD (2 * n) 0).toNat).setAt F.VRC_OFFSETn_SOURCE n source

/-- The newest valid bank is read (R95); without one wear is lost and counts from 0, event 0x0111 (R121), and IMG_STATE.SEQ and BANK keep
what they held (DESIGN CHOICE, log 212). A warm start keeps the wear counters and the sense offsets that AON holds. -/
def State.readBank (s : State) (defaults : List Byte) : State :=
  match (if s.bankOk 1 then s.newestBank else none) with
  | some k =>
    let s1 := (({ s with boot := { s.boot with newest := some k } }.set F.IMG_STATE_VALID 1).set F.IMG_STATE_BANK k).set
      F.IMG_STATE_SEQ (s.bankSeq k % 2 ^ 24)
    let s2 := s1.when (bitOf (fieldAt (s.bankRead k 0 64) 6 2) 0) fun s => s.set F.IMG_STATE_WEAR_LOST 1
    s2.when (!s.boot.warm) fun s =>
      (s.setWear (pairUp (halves (s.bankRead k 0x1000 98304))) (pairUp (halves (s.bankRead k 0x40 384)))).senseOffsets
        (s.bankHalves k 0x28100 8) 2
  | none =>
    let s1 := ((({ s with boot := { s.boot with newest := none } }.set F.IMG_STATE_VALID 0).set F.IMG_STATE_WEAR_LOST 1).setWear []
      []).ev 0x0111 0
    s1.when (!s.boot.warm) fun s => s.senseOffsets ((defHalves defaults 4).getD []) 3

/-- What both kinds of start take from step 5: the header's START_STATE, the calibration defaults, the newest bank; CORE_MGMT goes on. -/
def State.readImage (s : State) (bad : List (Fin 24)) (slot : Nat) (h : List Byte) : State :=
  let d := s.section slot h 13
  let s1 := (s.set F.IMG_STATUS_START_STATE (byteAt h 12)).set F.IMG_STATUS_BARN_IMAGE (b2n (secLen h 11 != 0))
  let s2 := s1.when (secLen h 13 != 0 && (defSection d).isNone) fun s => s.ev 0x0113 0
  let s3 := { s2 with ear := { s2.ear with
    defaults := match defHalves d 2 with
      | some l => tblPutRange (fun j => if j % 2 = 1 then (0x4000 : BitVec 16) else 0) [] 0 l
      | none => [] } }
  ((s3.readBank d).startOn bad [23]).stepDone 5

/-- Step 5 of a cold start: header, signature, every section, and what it loads. -/
def State.coldRead (s : State) (bad : List (Fin 24)) : State :=
  let slot := s.startSlot
  let h := s.imgHead slot
  let sec := s.section slot h
  let s1 := s.ev 0x0100 s.boot.cause
  if !(s.bankOk 1 && headValid h) then (s1.ev 0x0105 slot).startFails
  else if !s.signatureGood slot h then (s1.ev 0x0106 slot).startFails
  else match (secIds.drop 1).find? fun id => !s.secGood slot h id with
    | some id => (s1.ev 0x0107 id).startFails
    | none =>
      if !sealedValid (sec 3) then (s1.ev 0x0107 3).startFails
      else (((((s1.loadScripts (sec 8)).loadWatchMem (sec 6)).loadPatMem (sec 7) (sec 6)).readImage bad slot h).loadMaps (sec 11))

/-- The retained header digest. -/
def State.keptDigest (s : State) : List Byte := ((List.range 8).map fun k => leBytes 4 (s.reg R.IMG_HDR_DIGESTk k).toNat).flatten

/-- The start continues as a cold start from step 4 (R106): what a cold start resets is reset, but for the clocks, the rail, the IMG
registers of this start, and what it holds until step 12: requests, votes and wake latches (R115). -/
def State.convert (s : State) : State :=
  let keep := fun (r : RegDef) =>
    if r.block = 0 ∨ r.block = 2 ∨ r.block = 3 ∨ r.block = 23 ∨ r.base = R.STL_GROUP.base ∨ r.base = R.PWR_WAKE_STATUS.base then 0xFFFFFFFF
    else r.keptBy 4
  let s1 := (((s.set F.IMG_CAUSE_CONVERTED 1).ev 0x010A 0).keepRegs keep).keepParts 4
  let s2 := { s1 with sup := s.sup, pwr := { s1.pwr with votes := s.pwr.votes, held := s.pwr.held }, boot := { s1.boot with warm := false, step := 3 } }
  (s2.set F.EAR_STATUS_MUTED (b2n s2.ear.muteSw)).selectSlot

/-- The sections a warm start checks. -/
def warmSections : List Nat := [3, 4, 5, 9, 10, 12, 13]

/-- A section does not match during a warm start (R118): event 0x010B and the alarm source 8; the start fails, unless the alarm's own
actions have taken it over (R114). -/
def State.warmTamper (s : State) (id : Nat) : State :=
  let s1 := (s.ev 0x010B id).alarm 8
  if s1.boot.phase = .zeroise then s1 else if s1.boot.phase = .inStart then s1.startFails else s1.countFail

/-- Step 5 of a warm start. -/
def State.warmRead (s : State) (bad : List (Fin 24)) : State :=
  let slot := s.startSlot
  let h := s.imgHead slot
  let s1 := s.ev 0x0101 s.boot.cause
  if !(s.bankOk 1 && sha256 h == s.keptDigest) then s1.convert
  else match warmSections.find? fun id => !s.secGood slot h id with
    | some id => s1.warmTamper id
    | none => s1.readImage bad slot h

/-- Step 5. -/
def State.start5 (s : State) (env : StartEnv) : State := if s.boot.warm then s.warmRead env.failing else s.coldRead env.failing

/-! Step 6 (R104) -/

/-- Step 6 of a cold start: Loft and stall SRAM are tested and zero; a LOFT that fails fails the start, a stall is fenced. Where the
image has Barn maps step 8 has begun (R103). -/
def State.start6 (s : State) (env : StartEnv) : State :=
  if s.boot.warm then s.stepDone 6
  else
    let s1 := (s.when (s.flag F.IMG_STATUS_BARN_IMAGE) fun s => s.stepBegun 8).startOn env.failing ((List.range 4).map (· + 12) ++ List.range 12)
    let s2 := s1.each ((List.range 16).filter fun d => s1.level d == 2) fun s d => s.zeroDomain d
    match (List.range 4).find? fun k => env.loftBist.any (·.val == k) with
    | some k => (s2.ev 0x0108 (0x10 + k)).startFails
    | none =>
      (s2.each ((List.range 96).filter fun st => env.stallBist.any (·.val == st)) fun s st =>
        (s.ev 0x0108 (0x20 + st)).fence st 5).stepDone 6

/-! Step 7 (12 R348, R351, R355, R361) -/

/-- A stall named in a set keeps its cells. -/
def State.keepsCells (s : State) (w : WsetCfg) (st : Nat) : Bool :=
  s.recFlag st 0 && s.recOrigin st == w.digest && s.recWset st == w.wset && s.recFormat st == w.format && (s.marked st).isEmpty
    && (!s.recFlag st 1 || (!bitOf w.flags 1 && s.boot.cause != 3))

/-- A stall whose ROW came on is programmed from the image: all 256 rows; its wear is counted and recorded once the state area may be
written. A stall that does not verify, or not in its 130 ms (R352), fails at a row. -/
def State.programSet (s : State) (env : StartEnv) (levels : List Byte) (w : WsetCfg) (st : Nat) : State :=
  let rows := List.range 256
  let j : ProgJob := { rows := rows, origin := w.digest, wset := w.wset, format := w.format, adapted := false, taint := 0, commits := 0 }
  let s1 := s.startOn env.failing [12 + s.get F.PWR_CFG_ROW_LOFT, st / 8]
  if s1.barred st then s1
  else
  let tgt := tblPutRange (fun _ => (0 : Byte)) s1.cim.targets (16384 * st) levels
  let s2 := ({ s1 with cim := { s1.cim with targets := tgt }, boot := { s1.boot with wearDue := true } }.setJob st j).addWear st rows
  let s3 := (s2.when (rows.any fun r => decide (s2.rowMax < s2.rowWear st r)) fun s => s.ev 0x0A06 st).beginProgram st
  let m : ProgMeas := (((env.prog.find? fun p => p.1.val == st).map (·.2)).getD { retried := [], failRow := none })
  s3.programEnds st j m

/-- Step 7: the sets of section 9; every stall named that does not keep its cells is programmed, in ascending order (R352), which a Brace
holds off (06 R179). -/
def State.start7 (s : State) (env : StartEnv) : State :=
  let slot := s.startSlot
  let b := s.section slot (s.imgHead slot) 9
  let s1 := s.loadSets b
  (s1.each (List.range 96) fun s st =>
    match s.cim.sets.find? fun w => bitOf w.stalls st with
    | some w => if s.barred st || s.keepsCells w st then s else s.programSet env (slice b w.offset 16384) w st
    | none => s).stepDone 7

/-! Steps 8 and 9 (13 R393; 09 R263 to R270, R288) -/

/-- Step 8 of a cold start: the Barn's cold wake, where the image has maps. A comb that three attempts do not lock fails the Barn; a
sweep without its precondition is rejected and comes again. -/
def State.start8 (s : State) (env : StartEnv) : State :=
  if s.boot.warm || !s.flag F.IMG_STATUS_BARN_IMAGE then s.stepDone 8
  else
    let s0 := s.startOn env.failing [16, 17]
    if s0.level 17 != 2 then s0.stepDone 8
    else
    let s1 := s0.barnWake
    match env.sweep with
    | none => ((((s1.ev 0x0B02 1).ev 0x0B02 2).ev 0x0B02 3).barnFails).stepDone 8
    | some m =>
      let slot := s.startSlot
      let dark := halfTab ((defHalves (s.section slot (s.imgHead slot) 13) 3).getD (List.replicate 128 0x8000))
      let s2 := { (s1.set F.BRN_STATUS_COMB_LOCKED 1).ev 0x0B01 0 with barn := { s1.barn with dark := dark } }.set F.BRN_STATUS_STATE 3
      if m.combLocked then (s2.fullSweep m).stepDone 8 else s2.sweepRejected

/-- The probe of a port ends as its samples say; unsettled ones leave it ABSENT (09 R265). -/
def State.startProbe (s : State) (p : Nat) (l : List ProbeSample) : State :=
  if !s.portProbes p then s
  else if l.all fun x => probeBand x.a == probeBand x.b then s.classed p (probeClass (l.map fun x => probeBand x.a))
  else (s.classed p 1).ev 0x0603 p

/-- Step 9: a FAULT of policy 2 clears, and every port is probed (09 R288), one in back-off or in FAULT behind it. -/
def State.start9 (s : State) (env : StartEnv) : State :=
  let s0 := s.startOn env.failing [20]
  if s0.level 20 != 2 then s0.stepDone 9
  else
  let s1 := s0.each (List.range 8) fun s p => s.when (s.portPolicy p == 2) fun s => s.clearPort p
  let s2 := s1.faultsDue.each (List.range 8) fun s p =>
    if s.portState p = 4 ∨ s.portState p = 5 ∨ s.senseHold then s.beginProbe p else s.setPortState p 1
  (s2.each env.ports fun s x => s.startProbe x.1 x.2).stepDone 9

/-! Step 10: the register load and SEAL (R105; 02 R86) -/

/-- The column offsets (12 R360): the newest bank's, else the defaults'. -/
def State.loadOffsets (s : State) : State :=
  let slot := s.get F.IMG_BOOT_ACTIVE_SLOT
  let (l, src) := match s.boot.newest with
    | some k => (s.bankHalves k 0x19000 24576, 2)
    | none => ((defHalves (s.section slot (s.imgHead slot) 13) 1).getD [], 3)
  { s with cim := { s.cim with offsets := halfTab l } }.each (List.range 96) fun s st => s.setAt F.CIM_STALLs_STATE_OFFSET_SOURCE st src

/-- SEAL: the registers and the stores are loaded (R105, R111); from now on NVM_REQ_N is heard (R92). -/
def State.seal (s : State) (h : List Byte) (ms : Nat) : State :=
  let slot := s.startSlot
  let s1 := (((s.set F.IMG_STATUS_SEALED 1).set F.IMG_STATUS_SEAL_MS (satTo 16 ms)).ev 0x0102 (satTo 16 ms)).set
    (if slot = 0 then F.IMG_BOOT_FAILS_A else F.IMG_BOOT_FAILS_B) 0
  let d := sha256 h
  let s2 := (s1.set F.IMG_BOOT_ACTIVE_SLOT slot).each (List.range 8) fun s k => s.setAt F.IMG_HDR_DIGESTk_DIGEST k (fieldAt d (4 * k) 4)
  let s3 := { s2.draw with link := { s2.link with session := Config.freeWord s2.free } }
  (((s3.set F.IMG_VERSION_VERSION (fieldAt h 16 4)).set F.DSP_STATUS_C0_TOKENS (orOne (s3.get F.DSP_C0_CFG_C0_BURST))).loadOffsets).nvmReads
    (s3.bankOk 0 && s3.sup.nvmAsked)

/-- The registers and stores that step 10 loads. -/
def State.loadAll (s : State) (bad : List (Fin 24)) (slot : Nat) (h : List Byte) : State :=
  let sec := s.section slot h
  let cold := !s.boot.warm
  let lofts := (List.range 4).map (· + 12)
  let s1 := (s.loadSealed (fun _ => true) (sec 3)).loadAlarms (sec 5)
  let need := lofts.filter fun d => chainsValid (sec 10) && (loadRecs (sec 10)).any fun r => (loadDomains r).contains d
  let s2 := ((s1.startOn bad need).loadChains (sec 10)).loadMapping (sec 12) true
  let me := 2 ^ s2.chipId
  let s3 := (s2.showLive me).when (!s2.quorumOf me) fun s => s.ev 0x0835 0
  let s4 := s3.when cold fun s => (s.loadWatch (sec 6) (sec 10)).loadPats (sec 7) (sec 6)
  let s5 := (((s4.loadPolicy (sec 4) cold).checkNums true).checkCams.checkReserved true).checkC0 true
  let s6 := s5.when (cold && s5.barred (s5.get F.STL_RESERVED_RES0) && s5.barred (s5.get F.STL_RESERVED_RES1)) fun s => s.reservedLost
  s6.each (lofts.filter s6.failed) fun s d => s.each ((List.range 16).filter fun m => s.windowIn m (d - 12)) fun s m =>
    (s.setAt F.EAR_MICm_STAT_WIN_FAILED m 1).ev 0x050D m

/-- Step 10: a SEAL later than 5 s after t0 fails the start (R113). -/
def State.start10 (s : State) (env : StartEnv) : State :=
  let slot := s.startSlot
  let h := s.imgHead slot
  if 5000 < env.sealMs then (s.ev 0x0109 10).startFails
  else ((s.loadAll env.failing slot h).seal h env.sealMs).stepDone 10

/-! Steps 11 and 12 (R103, R107; 14 R422) -/

/-- The jobs whose rings this chip arms: those it owns in a live set with quorum (10 R308, R309). -/
def State.ownJobs (s : State) : List JobCfg :=
  if s.quorumOf s.live then s.fab.jobs.filter fun j => j.owner s.live == some s.chipId else []

/-- The configured rings it arms: those of its own jobs and no others; every one without a mapping table section (10 R311). -/
def State.armable (s : State) : List Nat :=
  (if s.flag F.STL_GROUP_MAP_OK && s.fab.digest == 0 then List.range 2048 else (s.ownJobs.map JobCfg.list).flatten).filter
    fun i => s.reg R.RNG_RINGi_BASE i != 0

/-- Step 11: the class-0 rings arm. -/
def State.start11 (s : State) : State :=
  let s1 := { s with fab := { s.fab with owned := s.ownJobs.map JobCfg.job } }
  (s1.each (s1.armable.filter fun i => s1.cls i == 0) fun s i => s.armRing i false).stepDone 11

/-- The standing votes at the end of a start (05 Table 05.4a, R175): slot 9 is released; 14 from PWR_IMG_VOTE0 and PWR_IMG_VOTE1; 13 while
debug is unlocked; 12 for the rows of the reserved stalls and the Loft domains of class-0 rings; 11 while the image enables a camera
port; 2 while a pattern needs the high-quality path. -/
def State.standingVotes (s : State) : Tab Nat :=
  let img := (s.reg R.PWR_IMG_VOTE0 0).toNat + 2 ^ 32 * (s.reg R.PWR_IMG_VOTE1 0).toNat
  let loft := fun d => (List.range 2048).any fun i => s.armed i && s.cls i == 0 && (match s.entryAt i 0 with
    | some (m, off) => memDomain m off == some d
    | none => false)
  let put := fun (t : Tab Nat) d =>
    let t1 := elPut 0 (elPut 0 t (16 * d + 9) 0) (16 * d + 14) (bitsOf img (2 * d) 2)
    elPut 0 t1 (16 * d + 12) (if (isRow d && s.rowReserved d) || (isLoft d && loft d) then 2 else 0)
  let t2 := (List.range 24).foldl put s.pwr.votes
  let cam := (List.range 2).any fun p => s.camOn p && !(s.cam p).stopped
  let pat := (List.range 8).any fun p => bitOf (s.getAt F.EAR_PATp_CFG_FLAGS p) 0 && 4 ≤ s.getAt F.EAR_PATp_CFG_MIC p
  elPut 0 (elPut 0 (elPut 0 t2 (16 * 18 + 11) (if cam then 2 else 0)) (16 * 19 + 2) (if pat then 2 else 0)) (16 * 23 + 13)
    (if s.flag F.SEC_DBG_STATUS_UNLOCKED then 2 else 0)

/-- A domain above the ceiling of the state entered falls to the level it is to have. -/
def State.dropNow (s : State) (d : Nat) : State :=
  if s.ceiling d < s.level d then
    ((s.when (d == 17) fun s => s.barnDrop).domainDown d (s.wanted d)).setLevel d (s.wanted d)
  else s

/-- The order of such falls: dependents first (05 R158). -/
def dropOrder : List Nat := [17, 16] ++ List.range 12 ++ [12, 13, 14, 15, 18, 19, 20, 21, 22, 23]

/-- What starts with the part: microphone supply, the rails of ports whose head is present, link channels, patterns; and the commit
intervals where the span counter was cleared (12 R356). -/
def State.awaken (s : State) : State :=
  let s1 := s.when (!s.earHeld) fun s => s.set F.EAR_STATUS_MICVDD_ON 1
  let s2 := s1.each (List.range 8) fun s p => s.when (s.portState p == 0 && s.mayPower p) fun s => s.setPortState p 2
  let s3 := s2.each (List.range 16) fun s c => s.armChannel c
  let s4 := s3.each (List.range 8) fun s p =>
    s.setAt F.EAR_PATp_STAT_STATE p (if (s.pat p).bad then 3 else if bitOf (s.getAt F.EAR_PATp_CFG_FLAGS p) 0 then 1 else 0)
  s4.when (clearsAon s4.boot.cause) fun s => s.each (s.cim.sets.filter fun w => bitOf w.flags 0) fun s w =>
    { s with cim := { s.cim with last := elPut 0 s.cim.last w.wset (s.span.count.toNat + 1) } }

/-- What the start held is applied (R115): chip requests and raw edges of WAKE_IN in the order they came, wake sources, WARM_REQ. -/
def State.applyHeld (s : State) (held : List ChipReq) (warm : Bool) : State :=
  let s1 := (s.each held fun s q => if q.cause = 2 then s.when (s.wakesNow 1) fun s => s.wakeActs 1 else s.request q).sampleWakes
  s1.when warm fun s => s.resetDue 0xA

/-- The state that step 12 enters, its cause, and the rise that goes on from it: START_STATE, or after a Rest exit Watch, from which a
wake for Doze or Run rises on (05 R155, R156; 03 R107). Every state of a Rest exit is entered with the wake's cause (DESIGN CHOICE,
log 213). -/
def State.firstState (s : State) : Nat × Nat × Option ChipReq :=
  match s.pwr.wakeReq with
  | some q => (2, q.cause, if q.target < 2 then some q else none)
  | none => (s.get F.IMG_STATUS_START_STATE, 7, none)

/-- Step 12: rings of classes 1 to 3 arm, the state is entered and slot 9 is released. -/
def State.start12 (s : State) : State :=
  let s1 := s.each (s.armable.filter fun i => s.cls i != 0) fun s i => s.armRing i false
  let x := s.firstState
  let s2 := { s1 with
    pwr := { s1.pwr with votes := s1.standingVotes, state := x.1, fly := x.2.2, wakeReq := none, held := [] }
    boot := { s1.boot with phase := .up, step := 12, warmHeld := false } }
  let s3 := ((s2.depVotes).each dropOrder fun s d => s.dropNow d).awaken
  (s3.enterState x.1 x.2.1 x.2.2).applyHeld s1.pwr.held s1.boot.warmHeld

/-! The commands (R103, R106, R113) -/

/-- Step `k`. -/
def State.startStep (s : State) (env : StartEnv) (k : Nat) : State :=
  let s1 := if k = 4 && s.boot.warm then s else s.stepBegun k
  match k with
  | 2 => s1.start2 env
  | 3 => s1.start3 env
  | 4 => s1.start4 env
  | 5 => s1.start5 env
  | 6 => s1.start6 env
  | 7 => s1.start7 env
  | 8 => s1.start8 env
  | 9 => s1.start9 env
  | 10 => s1.start10 env
  | 11 => s1.start11
  | _ => s1.start12

/-- The steps of the start in progress run in order up to `env.stopAt`, or until one ends the start or does not end itself; with CORE_MGMT
failed no Steward takes step 6 on (05 R172). The fuel bounds the steps. -/
def State.runStart (env : StartEnv) : Nat → State → State
  | 0, s => s
  | n + 1, s =>
    if s.boot.phase = .inStart ∧ s.boot.step < env.stopAt ∧ ¬ (5 ≤ s.boot.step ∧ s.failed 23) then
      let s1 := s.startStep env (s.boot.step + 1)
      if s1.boot.step = s.boot.step then s1 else State.runStart env n s1
    else s

/-- A start of this kind begins or goes on. -/
def State.starts (s : State) (cold : Bool) (env : StartEnv) : State :=
  let due := (s.boot.phase == .due || (s.boot.phase == .down && cold)) && coldCause s.boot.cause == cold
  if due then (s.beginStart env).runStart env 20
  else if s.boot.phase = .inStart then s.runStart env 20
  else s

/-- COLD_START (R103): t0 of the cold start that is due, then its steps; a start that an earlier command has stopped at a step goes on
from there. -/
def execColdStart (env : StartEnv) (s : State) : Out := done (s.starts true env)

/-- WARM_START (R106): as COLD_START, for the warm start that is due. -/
def execWarmStart (env : StartEnv) (s : State) : Out := done (s.starts false env)

/-- SEAL_TIMEOUT (R113): SEAL has not occurred 5 s after t0; event 0x0109 names the step in progress. -/
def execSealTimeout (s : State) : Out :=
  done (if s.boot.phase = .inStart ∧ ¬ s.flag F.IMG_STATUS_SEALED then (s.ev 0x0109 (s.boot.step + 1)).startFails else s)

end Sys2Proof.Machine
end

