-- ==== Sys2Proof/Machine/Nvm.lean ====
section
/-! DEFINITION. The NVM's arbitration, the writes of the state area, and the restore of CORE_MGMT (03 R92, R94, R96, R97, R108, R109, R116,
R121). -/

namespace Sys2Proof.Machine

/-! Arbitration (R92, R116) -/

/-- NVM_REQ (R92): another master asserts NVM_REQ_N; from t0 until SEAL it is ignored, and below VDDIO_A's detector it reads inactive. -/
def execNvmReq (s : State) : Out :=
  let s1 := { s with sup := { s.sup with nvmAsked := true } }
  done (s1.when (s.bankOk 0 && s.flag F.IMG_STATUS_SEALED) fun s => s.nvmReads true)

/-- NVM_GRANT (R92, R116): no NVM operation is in progress. -/
def execNvmGrant (s : State) : Out :=
  done (if s.isUp && s.flag F.STW_NVM_REQ && !s.flag F.STW_NVM_GRANTED && s.boot.writing.isNone then
    (s.set F.STW_NVM_GRANTED 1).inc F.STW_NVM_GRANTS else s)

/-- What the other master has written while it held the NVM; nothing beyond its 129 MiB. -/
def State.nvmForeign (s : State) (writes : List (Nat × List Byte)) : State :=
  { s with mem := writes.foldl (fun m w => m.nvmWrite w.1 (w.2.take (0x8100000 - w.1))) s.mem }

/-- NVM_RELEASE (R92): the other master's writes stand, and NVM_REQ_N is released. -/
def execNvmRelease (writes : List (Nat × List Byte)) (s : State) : Out :=
  let s1 := s.when (s.flag F.STW_NVM_GRANTED) fun s => s.nvmForeign writes
  done ({ s1 with sup := { s1.sup with nvmAsked := false } }.nvmReads false)

/-! State-area writes (R94, R96, R97, R116, R121) -/

/-- STATE_AREA_WRITE (R96): into the bank that does not hold the newest valid copy. -/
def execStateAreaWrite (s : State) : Out := done s.startWrite

/-- The header is programmed and the bank reads back valid: it is the newest valid copy. -/
def State.writeGood (s : State) (b : Nat) : State :=
  let seq := ((match s.boot.newest with | some k => s.bankSeq k | none => 0) + 1) % 2 ^ 32
  let h := bankHeader (s.flag F.IMG_STATE_WEAR_LOST) seq (s.bankBody b)
  let s1 := { s with mem := s.mem.nvmWrite (bankBase b) h
                     boot := { s.boot with newest := some b, writing := none, again := false, wrote := false, wroteCal := false } }
  (((s1.set F.IMG_STATE_BANK b).set F.IMG_STATE_SEQ (seq % 2 ^ 24)).inc F.IMG_STATE_WR_WRITES).when
    s.boot.wrote fun s => s.wearRecorded true

/-- The read-back fails (R121): event 0x0112; the write is tried once more, to the same bank, and the programming that waited on it does
not start. Calibration results that two attempts have not written wait for the interval. -/
def State.writeBad (s : State) (b : Nat) : State :=
  let s1 := { s with boot := { s.boot with writing := none, again := false, retryBank := if s.boot.again then none else some b
                                           calChanged := s.boot.calChanged || (s.boot.again && s.boot.wroteCal) } }
  ((s1.ev 0x0112 b).inc F.IMG_STATE_WR_FAILS).when s.boot.wrote fun s => s.wearRecorded false

/-- STATE_WRITE_DONE (R96, R121); below VDDIO_NVM's detector no write passes (17 R485). -/
def execStateWriteDone (ok : Bool) (s : State) : Out :=
  done (match s.boot.writing with
    | some b => if ok && s.bankOk 1 then s.writeGood b else s.writeBad b
    | none => s)

/-- STATE_WRITE_RETRY (R121): 1 s after a failed read-back. -/
def execStateWriteRetry (s : State) : Out :=
  done (match s.boot.retryBank with
    | some b => if s.nvmFree then s.beginWrite b true else s
    | none => s)

/-- CAL_INTERVAL_END (R97): CAL_INTERVAL_S has elapsed since the last calibration write. -/
def execCalIntervalEnd (s : State) : Out :=
  let s1 := { s with boot := { s.boot with calTimer := false } }
  done (if s.boot.calChanged then
    { s1 with boot := { s1.boot with calChanged := false, calDue := true } }.stateWanted else s1)

/-! The restore of CORE_MGMT (R108, R109) -/

/-- The sections a restore reads, of section 9 the header and entries; section 13 where no bank is valid (step 6). -/
def restoreSections : List Nat := [3, 4, 9, 10, 12]

/-- What it reads, in KiB: whole sections, the header and entries of section 9, and of section 10 all but the data of load records. -/
def State.restoreKib (s : State) (slot : Nat) (h : List Byte) : Nat :=
  let b9 := s.section slot h 9
  let b10 := s.section slot h 10
  let data := (loadRecs b10).foldl (fun n r => n + fieldAt r 4 4) 0
  let bytes := secLen h 3 + secLen h 4 + min b9.length (16 + 48 * fieldAt b9 2 2) + (b10.length - data) + secLen h 12
    + (if s.boot.newest.isSome then 0 else secLen h 13)
  ceilDiv bytes 1024

/-- What a register of a CORE_MGMT-homed block keeps across its loss: counters that a read clears and latches that no Warm column
keeps start anew; the save store and the image bring back the others, and a status field keeps what it held (01 R37, R45). -/
def RegDef.keptInCore (r : RegDef) : Word :=
  if r.base = R.STW_ACCESS_INFO.base then 0xFFFFFFFF else ~~~ (r.rc ||| r.w1c) ||| r.kept

/-- Step 5 and the Steward's part of step 6: a ring's II and DI are its saved DI; column offsets, slots and the throttle begin anew. -/
def State.restoreSaved (s : State) (kib : Nat) : State :=
  let s1 := { s with regs := resetWords coreHomed RegDef.keptInCore s.regs, therm := {} }
  let s2 := s1.each ((List.range 2048).filter s1.armed) fun s i =>
    s.setRing i { s.ring i with ii := s.di i, finished := [], gateOk := false, tileOut := false }
  let s3 := ((s2.loadOffsets.resetNums).checkNums false).set F.STW_THROTTLE_LEVEL 0
  { s3 with pwr := { s3.pwr with restored := true } }.ev 0x0114 kib

/-- Steps 2 to 4, with sections that match: the SL fields from the sections their register tables name, the reserved stalls as their
check leaves them (10 R305), the heads, and the mapping table. -/
def State.restoreImage (s : State) (slot : Nat) (h : List Byte) : State :=
  let sec := s.section slot h
  let s1 := ((s.loadSealed coreHomed (sec 3)).checkReserved false).restoreChains (sec 10)
  ((s1.restorePolicy (sec 4)).loadMapping (sec 12) false).loadSets (sec 9)

/-- A section does not match: event 0x010B and the alarm source 8; no head and no ring is armed. -/
def State.restoreTamper (s : State) (id : Nat) : State :=
  let s1 := (s.each (List.range 48) fun s i => s.setAt F.GATE_HEADi_CFG_ARMED i 0).each (List.range 2048) fun s i => s.disarmRing i
  (s1.ev 0x010B id).alarm 8

/-- CORE_RESTORE (R109): at a wake of CORE_MGMT outside a start, while the NVM is not granted. -/
def execCoreRestore (s : State) : Out :=
  let slot := s.get F.IMG_BOOT_ACTIVE_SLOT
  let h := s.imgHead slot
  done (if s.isUp && s.level 23 != 2 && s.inFlight 23 == some 2 && !s.pwr.restored && !s.flag F.STW_NVM_GRANTED then
    let s1 := match (restoreSections ++ (if s.boot.newest.isSome then [] else [13])).find? fun id => !(s.bankOk 1 && s.secGood slot h id) with
      | some id => s.restoreTamper id
      | none => s.restoreImage slot h
    s1.restoreSaved (s.restoreKib slot h)
  else s)

end Sys2Proof.Machine
end

