-- ==== Sys2Proof/Machine/Steward.lean ====
section
/-! DEFINITION. The Steward's tick, its watchdog, and the retries of calibrations (01 R31, R32, R46; 04 R138). -/

namespace Sys2Proof.Machine

/-- THROTTLE_ON in °C: a value above 105 °C counts as 105 °C. -/
def State.throttleOn (s : State) : Int := min 105 (signed 8 (s.get F.STW_THERM_CFG_THROTTLE_ON))

/-- THROTTLE_OFF in °C: a value not below THROTTLE_ON counts as THROTTLE_ON − 5. -/
def State.throttleOff (s : State) : Int :=
  let v := signed 8 (s.get F.STW_THERM_CFG_THROTTLE_OFF)
  if v < s.throttleOn then v else s.throttleOn - 5

/-- The lowest level whose issue share is 0. -/
def State.levelZero (s : State) : Nat := ceilDiv 16 (orOne (s.get F.STW_THERM_CFG_STEP))

/-- The thermal throttle of a tick (R31). -/
def State.throttle (s : State) (tj : Int) : State :=
  let lv := s.get F.STW_THROTTLE_LEVEL
  let off := decide (tj < s.throttleOff)
  let n := if off then s.therm.below + 1 else 0
  let release := off && orOne (s.get F.STW_THERM_CFG_RELEASE_TICKS) ≤ n
  let held := decide (110 ≤ tj) || (s.therm.held && !off)
  let lv' := if 110 ≤ tj then s.levelZero
    else if held then lv
    else if s.throttleOn ≤ tj then min 16 (lv + 1)
    else if release then lv - 1
    else lv
  { s with therm := { below := if release then 0 else n, held := held } }.set F.STW_THROTTLE_LEVEL lv'

/-- What the Steward does in a tick: TJ_MAX and HOT, the throttle, the per-tick loss checks of the Barn, stages 0 and 1 (13 R388),
and the heartbeat (15 R443). -/
def State.stewardTick (s : State) (tj : Byte) (losses : List Loss) : State :=
  let s1 := (s.set F.STW_THROTTLE_TJ_MAX tj.toNat).set F.STW_THROTTLE_HOT (b2n (decide (110 ≤ tj.toInt)))
  let s2 := s1.throttle tj.toInt
  (s2.when s2.barnReady fun s => s.losses (losses.filter fun l => l.stage.val < 2)).sendHeartbeat

/-- TICK (04 R138): ticks pass while the main PLL is locked; the Steward works while CORE_MGMT is on. -/
def execTick (tj : Byte) (losses : List Loss) (s : State) : Out :=
  done (if s.flag F.SPN_STATUS_PLL_LOCK then
    let s1 := { s with span := { s.span with ticks := s.span.ticks + 1 } }.set F.SPN_TICK_COUNT
      ((s.get F.SPN_TICK_COUNT + 1) % 2 ^ 32)
    s1.when (s1.isUp && s1.coreOn) fun s => s.stewardTick tj losses
  else s)

/-- STEWARD_WDT (R46): a running Steward, or a failed CORE_MGMT (05 R172), has left the watchdog unserviced for 16 ticks. -/
def execStewardWdt (s : State) : Out :=
  done (if (s.isUp || s.boot.phase == .inStart) && (s.coreOn || s.failed 23) then s.resetDue 9 else s)

/-- CALIBRATION_RETRY (R32): the back-off of a rejected calibration has elapsed; the calibration is due again, and begins where it may:
those of columns and microphones are the Steward's, which works in Run and Doze (R20). -/
def execCalibrationRetry (e : CalElem) (s : State) : Out :=
  let works := s.isUp && s.coreOn && s.pwr.state < 2
  done (if s.calLevel e = 0 then s
    else match e with
      | .column st => s.when (s.getAt F.CIM_STALLs_STATE_CAL_STATE st == 4) fun s => if works then s.setCalState st 1 else s.calAbandon e
      | .mic m => s.when (s.getAt F.EAR_MICm_STAT_CAL_STATE m == 4 && s.earLive && s.micOn m) fun s =>
          ({ s with ear := { s.ear with calDue := if works then withIdx s.ear.calDue m else s.ear.calDue } }.calAbandon
            e).when works fun s => (s.calVoteEar).micCalsAgain
      | .dark b => s.stepDue b
      | .line b => s.stepDue b
      | .sweep => s.when (!s.barn.sweeping) fun s => (s.calAbandon e).when (!s.flag F.SUP_STATUS_BRACE) fun s => s.barnAgain
      | .isen _ => s.calAbandon e)

end Sys2Proof.Machine
end

