-- ==== Sys2Proof/Machine/Dispatch.lean ====
section
/-! DEFINITION. One arm per command: a direct call of its meaning. -/

namespace Sys2Proof.Machine

def exec (i : Instr) (s : State) : Host.Outcome State Fault Refusal :=
  match i with
  | .registerWrite m addr v => Sys2Proof.Machine.execRegisterWrite m addr v s
  | .rcRead m addr => Sys2Proof.Machine.execRcRead m addr s
  | .faultingAccess m target size write => Sys2Proof.Machine.execFaultingAccess m target size write s
  | .spanCountRead m => Sys2Proof.Machine.execSpanCountRead m s
  | .tick tj losses => Sys2Proof.Machine.execTick tj losses s
  | .stewardWdt => Sys2Proof.Machine.execStewardWdt s
  | .calibrationRetry e => Sys2Proof.Machine.execCalibrationRetry e s
  | .powerOn => Sys2Proof.Machine.execPowerOn s
  | .resetN => Sys2Proof.Machine.execResetN s
  | .coldStart env => Sys2Proof.Machine.execColdStart env s
  | .sealTimeout => Sys2Proof.Machine.execSealTimeout s
  | .warmStart env => Sys2Proof.Machine.execWarmStart env s
  | .warmReq m v => Sys2Proof.Machine.execWarmReq m v s
  | .nvmReq => Sys2Proof.Machine.execNvmReq s
  | .nvmGrant => Sys2Proof.Machine.execNvmGrant s
  | .nvmRelease writes => Sys2Proof.Machine.execNvmRelease writes s
  | .stateAreaWrite => Sys2Proof.Machine.execStateAreaWrite s
  | .stateWriteDone ok => Sys2Proof.Machine.execStateWriteDone ok s
  | .stateWriteRetry => Sys2Proof.Machine.execStateWriteRetry s
  | .calIntervalEnd => Sys2Proof.Machine.execCalIntervalEnd s
  | .coreRestore => Sys2Proof.Machine.execCoreRestore s
  | .spanAlign rcCycles => Sys2Proof.Machine.execSpanAlign rcCycles s
  | .rateWindow count => Sys2Proof.Machine.execRateWindow count s
  | .xt32Lost rcCycles => Sys2Proof.Machine.execXt32Lost rcCycles s
  | .xt32Stopped => Sys2Proof.Machine.execXt32Stopped s
  | .pllUnlock p => Sys2Proof.Machine.execPllUnlock p s
  | .pllRelock p => Sys2Proof.Machine.execPllRelock p s
  | .stateRequest m v => Sys2Proof.Machine.execStateRequest m v s
  | .entryCommit => Sys2Proof.Machine.execEntryCommit s
  | .stateEntered => Sys2Proof.Machine.execStateEntered s
  | .voteWrite m hi v => Sys2Proof.Machine.execVoteWrite m hi v s
  | .domainHoldEnd d => Sys2Proof.Machine.execDomainHoldEnd d s
  | .domainReady d => Sys2Proof.Machine.execDomainReady d s
  | .domainDropped d => Sys2Proof.Machine.execDomainDropped d s
  | .domainTimeout d => Sys2Proof.Machine.execDomainTimeout d s
  | .firstAccessWake d => Sys2Proof.Machine.execFirstAccessWake d s
  | .wakeIn level => Sys2Proof.Machine.execWakeIn level s
  | .sleepTimer => Sys2Proof.Machine.execSleepTimer s
  | .wakeResample => Sys2Proof.Machine.execWakeResample s
  | .braceEnter rail code => Sys2Proof.Machine.execBraceEnter rail code s
  | .braceExit coreMin aonMin coreNow aonNow => Sys2Proof.Machine.execBraceExit coreMin aonMin coreNow aonNow s
  | .dipLong => Sys2Proof.Machine.execDipLong s
  | .coreBrownout code => Sys2Proof.Machine.execCoreBrownout code s
  | .brownoutDelay => Sys2Proof.Machine.execBrownoutDelay s
  | .aonBrownout => Sys2Proof.Machine.execAonBrownout s
  | .stormEnd => Sys2Proof.Machine.execStormEnd s
  | .phaseOpen n p => Sys2Proof.Machine.execPhaseOpen n p s
  | .senseFailed n p => Sys2Proof.Machine.execSenseFailed n p s
  | .ocLimit n p => Sys2Proof.Machine.execOcLimit n p s
  | .lightLoadEnter p => Sys2Proof.Machine.execLightLoadEnter p s
  | .lightLoadExit p => Sys2Proof.Machine.execLightLoadExit p s
  | .railThrottleStep p => Sys2Proof.Machine.execRailThrottleStep p s
  | .isenCal n meas => Sys2Proof.Machine.execIsenCal n meas s
  | .vsenseLocal => Sys2Proof.Machine.execVsenseLocal s
  | .softStartDone => Sys2Proof.Machine.execSoftStartDone s
  | .softStartRetry => Sys2Proof.Machine.execSoftStartRetry s
  | .bankUndervolt b => Sys2Proof.Machine.execBankUndervolt b s
  | .slotTimer slot => Sys2Proof.Machine.execSlotTimer slot s
  | .halt slot => Sys2Proof.Machine.execHalt slot s
  | .wait slot => Sys2Proof.Machine.execWait slot s
  | .waitEnd slot => Sys2Proof.Machine.execWaitEnd slot s
  | .waitTimeout slot => Sys2Proof.Machine.execWaitTimeout slot s
  | .sample slot => Sys2Proof.Machine.execSample slot s
  | .load slot => Sys2Proof.Machine.execLoad slot s
  | .yardStore slot => Sys2Proof.Machine.execYardStore slot s
  | .movi slot => Sys2Proof.Machine.execMovi slot s
  | .add slot => Sys2Proof.Machine.execAdd slot s
  | .sub slot => Sys2Proof.Machine.execSub slot s
  | .mul slot => Sys2Proof.Machine.execMul slot s
  | .and slot => Sys2Proof.Machine.execAnd slot s
  | .or slot => Sys2Proof.Machine.execOr slot s
  | .shift slot => Sys2Proof.Machine.execShift slot s
  | .cmp slot => Sys2Proof.Machine.execCmp slot s
  | .br slot => Sys2Proof.Machine.execBr slot s
  | .loopn slot => Sys2Proof.Machine.execLoopn slot s
  | .feat slot => Sys2Proof.Machine.execFeat slot s
  | .featDone => Sys2Proof.Machine.execFeatDone s
  | .net slot => Sys2Proof.Machine.execNet slot s
  | .netDone => Sys2Proof.Machine.execNetDone s
  | .vote slot => Sys2Proof.Machine.execVote slot s
  | .wake slot => Sys2Proof.Machine.execWake slot s
  | .wakeQueueResume slot => Sys2Proof.Machine.execWakeQueueResume slot s
  | .wakeQueueMove => Sys2Proof.Machine.execWakeQueueMove s
  | .req slot => Sys2Proof.Machine.execReq slot s
  | .record slot => Sys2Proof.Machine.execRecord slot s
  | .mark slot => Sys2Proof.Machine.execMark slot s
  | .arm slot => Sys2Proof.Machine.execArm slot s
  | .clear slot => Sys2Proof.Machine.execClear slot s
  | .cycleMaxExceeded slot => Sys2Proof.Machine.execCycleMaxExceeded slot s
  | .wakeClr m v => Sys2Proof.Machine.execWakeClr m v s
  | .logWrite => Sys2Proof.Machine.execLogWrite s
  | .gateTake h => Sys2Proof.Machine.execGateTake h s
  | .tokenRefill b => Sys2Proof.Machine.execTokenRefill b s
  | .frameStart p vc hdr => Sys2Proof.Machine.execFrameStart p vc hdr s
  | .linePacket p pkt => Sys2Proof.Machine.execLinePacket p pkt s
  | .frameEnd p vc hdr => Sys2Proof.Machine.execFrameEnd p vc hdr s
  | .frameTimeout p => Sys2Proof.Machine.execFrameTimeout p s
  | .penTtl p slot => Sys2Proof.Machine.execPenTtl p slot s
  | .slotWipeDone p slot => Sys2Proof.Machine.execSlotWipeDone p slot s
  | .penWipe => Sys2Proof.Machine.execPenWipe s
  | .clockSwitch kind => Sys2Proof.Machine.execClockSwitch kind s
  | .settleEnd clk => Sys2Proof.Machine.execSettleEnd clk s
  | .streamFrame mic stream samples => Sys2Proof.Machine.execStreamFrame mic stream samples s
  | .logmelFrame mic => Sys2Proof.Machine.execLogmelFrame mic s
  | .patternEval p => Sys2Proof.Machine.execPatternEval p s
  | .refractEnd p => Sys2Proof.Machine.execRefractEnd p s
  | .prerollBlock mic => Sys2Proof.Machine.execPrerollBlock mic s
  | .unload m v => Sys2Proof.Machine.execUnload m v s
  | .muteLedTest r => Sys2Proof.Machine.execMuteLedTest r s
  | .micCalStart m hq => Sys2Proof.Machine.execMicCalStart m hq s
  | .micCalEnd m meas => Sys2Proof.Machine.execMicCalEnd m meas s
  | .probe port => Sys2Proof.Machine.execProbe port s
  | .probeDone port samples => Sys2Proof.Machine.execProbeDone port samples s
  | .probePeriod port => Sys2Proof.Machine.execProbePeriod port s
  | .railGood port intFloats targets => Sys2Proof.Machine.execRailGood port intFloats targets s
  | .railFault port kind => Sys2Proof.Machine.execRailFault port kind s
  | .railBackoffEnd port => Sys2Proof.Machine.execRailBackoffEnd port s
  | .failCountClear port => Sys2Proof.Machine.execFailCountClear port s
  | .faultClr m v => Sys2Proof.Machine.execFaultClr m v s
  | .faultResetTimer port => Sys2Proof.Machine.execFaultResetTimer port s
  | .scriptWrite port => Sys2Proof.Machine.execScriptWrite port s
  | .scriptRead port => Sys2Proof.Machine.execScriptRead port s
  | .busTransferDone port ack data => Sys2Proof.Machine.execBusTransferDone port ack data s
  | .waitInt port => Sys2Proof.Machine.execWaitInt port s
  | .waitIntTimeout port => Sys2Proof.Machine.execWaitIntTimeout port s
  | .delay port => Sys2Proof.Machine.execDelay port s
  | .delayEnd port => Sys2Proof.Machine.execDelayEnd port s
  | .loop port => Sys2Proof.Machine.execLoop port s
  | .scriptStore port => Sys2Proof.Machine.execScriptStore port s
  | .signalTally port => Sys2Proof.Machine.execSignalTally port s
  | .signalLine port => Sys2Proof.Machine.execSignalLine port s
  | .heldSignalApply port => Sys2Proof.Machine.execHeldSignalApply port s
  | .intActive port level => Sys2Proof.Machine.execIntActive port level s
  | .ibi port addr => Sys2Proof.Machine.execIbi port addr s
  | .busStuck port line recovered => Sys2Proof.Machine.execBusStuck port line recovered s
  | .intTest port floats => Sys2Proof.Machine.execIntTest port floats s
  | .camLedFault kind => Sys2Proof.Machine.execCamLedFault kind s
  | .camLedTest r => Sys2Proof.Machine.execCamLedTest r s
  | .nop stall => Sys2Proof.Machine.execNop stall s
  | .matmul stall => Sys2Proof.Machine.execMatmul stall s
  | .cimMatmul stall => Sys2Proof.Machine.execCimMatmul stall s
  | .vecRequant stall => Sys2Proof.Machine.execVecRequant stall s
  | .vecAdd stall => Sys2Proof.Machine.execVecAdd stall s
  | .vecMul stall => Sys2Proof.Machine.execVecMul stall s
  | .vecMax stall => Sys2Proof.Machine.execVecMax stall s
  | .vecMaxpool stall => Sys2Proof.Machine.execVecMaxpool stall s
  | .vecAvgpool stall => Sys2Proof.Machine.execVecAvgpool stall s
  | .vecLut stall => Sys2Proof.Machine.execVecLut stall s
  | .vecSoftmax stall => Sys2Proof.Machine.execVecSoftmax stall s
  | .backward stall => Sys2Proof.Machine.execBackward stall s
  | .update stall => Sys2Proof.Machine.execUpdate stall s
  | .emit stall => Sys2Proof.Machine.execEmit stall s
  | .tileComplete stall => Sys2Proof.Machine.execTileComplete stall s
  | .eccCorrected stall word => Sys2Proof.Machine.execEccCorrected stall word s
  | .eccUncorrectable stall word => Sys2Proof.Machine.execEccUncorrectable stall word s
  | .windowClose stall g => Sys2Proof.Machine.execWindowClose stall g s
  | .descWatchdog stall => Sys2Proof.Machine.execDescWatchdog stall s
  | .programStart stall => Sys2Proof.Machine.execProgramStart stall s
  | .programmed stall meas => Sys2Proof.Machine.execProgrammed stall meas s
  | .programTimeout stall => Sys2Proof.Machine.execProgramTimeout stall s
  | .commitIntervalEnd wset => Sys2Proof.Machine.execCommitIntervalEnd wset s
  | .commit wset => Sys2Proof.Machine.execCommit wset s
  | .commitDone wset => Sys2Proof.Machine.execCommitDone wset s
  | .columnCal stall meas => Sys2Proof.Machine.execColumnCal stall meas s
  | .cimCalPeriod stall => Sys2Proof.Machine.execCimCalPeriod stall s
  | .ringUnlock ring diff => Sys2Proof.Machine.execRingUnlock ring diff s
  | .rotationStep b => Sys2Proof.Machine.execRotationStep b s
  | .darkLevelDone b meas => Sys2Proof.Machine.execDarkLevelDone b meas s
  | .lineSweepDone b meas => Sys2Proof.Machine.execLineSweepDone b meas s
  | .pilotDone b losses => Sys2Proof.Machine.execPilotDone b losses s
  | .lineMoveDone b diff => Sys2Proof.Machine.execLineMoveDone b diff s
  | .sweepDone meas => Sys2Proof.Machine.execSweepDone meas s
  | .relockDone missing gains => Sys2Proof.Machine.execRelockDone missing gains s
  | .bayWatchdog b => Sys2Proof.Machine.execBayWatchdog b s
  | .barnMatmul b => Sys2Proof.Machine.execBarnMatmul b s
  | .barnLoad b => Sys2Proof.Machine.execBarnLoad b s
  | .mapLoadDone b diff => Sys2Proof.Machine.execMapLoadDone b diff s
  | .barnHint ring => Sys2Proof.Machine.execBarnHint ring s
  | .ringDoorbell m v => Sys2Proof.Machine.execRingDoorbell m v s
  | .entryNop ring => Sys2Proof.Machine.execEntryNop ring s
  | .tile ring => Sys2Proof.Machine.execTile ring s
  | .head ring => Sys2Proof.Machine.execHead ring s
  | .move ring => Sys2Proof.Machine.execMove ring s
  | .copy ch => Sys2Proof.Machine.execCopy ch s
  | .fill ch => Sys2Proof.Machine.execFill ch s
  | .transpose ch => Sys2Proof.Machine.execTranspose ch s
  | .moveDone ch => Sys2Proof.Machine.execMoveDone ch s
  | .entryTallyAdd ring => Sys2Proof.Machine.execEntryTallyAdd ring s
  | .entryTallySub ring => Sys2Proof.Machine.execEntryTallySub ring s
  | .entryTallySet ring => Sys2Proof.Machine.execEntryTallySet ring s
  | .port ring => Sys2Proof.Machine.execPort ring s
  | .waitNotify ring => Sys2Proof.Machine.execWaitNotify ring s
  | .doorbell ring => Sys2Proof.Machine.execDoorbell ring s
  | .dataEntry ring => Sys2Proof.Machine.execDataEntry ring s
  | .tlyAdd m tally => Sys2Proof.Machine.execTlyAdd m tally s
  | .tlySub m tally => Sys2Proof.Machine.execTlySub m tally s
  | .tlySet m tally => Sys2Proof.Machine.execTlySet m tally s
  | .tileCut stall => Sys2Proof.Machine.execTileCut stall s
  | .heartbeatLoss chip => Sys2Proof.Machine.execHeartbeatLoss chip s
  | .jobDrained job => Sys2Proof.Machine.execJobDrained job s
  | .mbVote seq domain level => Sys2Proof.Machine.execMbVote seq domain level s
  | .mbState seq target => Sys2Proof.Machine.execMbState seq target s
  | .mbPortClear seq mask => Sys2Proof.Machine.execMbPortClear seq mask s
  | .mbAttach seq => Sys2Proof.Machine.execMbAttach seq s
  | .mbDetach seq => Sys2Proof.Machine.execMbDetach seq s
  | .mbWarm seq => Sys2Proof.Machine.execMbWarm seq s
  | .hostDoorbell v => Sys2Proof.Machine.execHostDoorbell v s
  | .recAck v => Sys2Proof.Machine.execRecAck v s
  | .status o => Sys2Proof.Machine.execStatus o s
  | .readRecord o completed => Sys2Proof.Machine.execReadRecord o completed s
  | .readReg o addr => Sys2Proof.Machine.execReadReg o addr s
  | .outputDetached o => Sys2Proof.Machine.execOutputDetached o s
  | .pcieUp gen width => Sys2Proof.Machine.execPcieUp gen width s
  | .dStateChange d => Sys2Proof.Machine.execDStateChange d s
  | .laneLocked port lane => Sys2Proof.Machine.execLaneLocked port lane s
  | .laneLost port lane => Sys2Proof.Machine.execLaneLost port lane s
  | .dataFrame port f => Sys2Proof.Machine.execDataFrame port f s
  | .doorbellFrame port f => Sys2Proof.Machine.execDoorbellFrame port f s
  | .heartbeat port f => Sys2Proof.Machine.execHeartbeat port f s
  | .membership port f => Sys2Proof.Machine.execMembership port f s
  | .release port f => Sys2Proof.Machine.execRelease port f s
  | .refuse port f => Sys2Proof.Machine.execRefuse port f s
  | .ack port lseq => Sys2Proof.Machine.execAck port lseq s
  | .nak port lseq => Sys2Proof.Machine.execNak port lseq s
  | .credit port n => Sys2Proof.Machine.execCredit port n s
  | .resendTimeout port => Sys2Proof.Machine.execResendTimeout port s
  | .channelSend ch => Sys2Proof.Machine.execChannelSend ch s
  | .rootClockFault stopped => Sys2Proof.Machine.execRootClockFault stopped s
  | .tempSample t => Sys2Proof.Machine.execTempSample t s
  | .zeroiseEraseDone killed => Sys2Proof.Machine.execZeroiseEraseDone killed s
  | .lcRequest m v killed => Sys2Proof.Machine.execLcRequest m v killed s
  | .otpStage m k v => Sys2Proof.Machine.execOtpStage m k v s
  | .keyInstall m v => Sys2Proof.Machine.execKeyInstall m v s
  | .eraseGroup m v failed => Sys2Proof.Machine.execEraseGroup m v failed s
  | .dbgUnlock token => Sys2Proof.Machine.execDbgUnlock token s
  | .dbgAp write addr data => Sys2Proof.Machine.execDbgAp write addr data s
  | .c0RunOver stall => Sys2Proof.Machine.execC0RunOver stall s
  | .mailboxError cmd seq => Sys2Proof.Machine.execMailboxError cmd seq s
  | .bankRestored b v33 => Sys2Proof.Machine.execBankRestored b v33 s
  | .hostWindowWrite off data => Sys2Proof.Machine.execHostWindowWrite off data s
  | .micQuietCheckEnd m rms peak => Sys2Proof.Machine.execMicQuietCheckEnd m rms peak s
  | .autoUnload => Sys2Proof.Machine.execAutoUnload s
  | .prerollUnloaded => Sys2Proof.Machine.execPrerollUnloaded s
  | .prerollKeepEnd => Sys2Proof.Machine.execPrerollKeepEnd s
  | .muteOn => Sys2Proof.Machine.execMuteOn s
  | .muteSwRelease => Sys2Proof.Machine.execMuteSwRelease s
  | .muteOff => Sys2Proof.Machine.execMuteOff s
  | .micvddFault => Sys2Proof.Machine.execMicvddFault s
  | .tdmFraming => Sys2Proof.Machine.execTdmFraming s
  | .camActive => Sys2Proof.Machine.execCamActive s
  | .camEnAssert => Sys2Proof.Machine.execCamEnAssert s
  | .camSettled => Sys2Proof.Machine.execCamSettled s
  | .camInactive => Sys2Proof.Machine.execCamInactive s
  | .combLocked => Sys2Proof.Machine.execCombLocked s
  | .combLockLoss => Sys2Proof.Machine.execCombLockLoss s
  | .hintExpiry => Sys2Proof.Machine.execHintExpiry s
  | .mapFetch => Sys2Proof.Machine.execMapFetch s
  | .c0TokenRefill => Sys2Proof.Machine.execC0TokenRefill s
  | .notify => Sys2Proof.Machine.execNotify s
  | .uartRecord => Sys2Proof.Machine.execUartRecord s
  | .pcieDown => Sys2Proof.Machine.execPcieDown s
  | .meshBreak => Sys2Proof.Machine.execMeshBreak s
  | .coreGlitch => Sys2Proof.Machine.execCoreGlitch s
  | .aonGlitch => Sys2Proof.Machine.execAonGlitch s
  | .l3FillDone => Sys2Proof.Machine.execL3FillDone s
  | .zeroiseHoldEnd => Sys2Proof.Machine.execZeroiseHoldEnd s
  | .extest => Sys2Proof.Machine.execExtest s
  | .samplePreload => Sys2Proof.Machine.execSamplePreload s
  | .idcode => Sys2Proof.Machine.execIdcode s
  | .highz => Sys2Proof.Machine.execHighz s
  | .clamp => Sys2Proof.Machine.execClamp s
  | .bypass => Sys2Proof.Machine.execBypass s
  | .dbgChal => Sys2Proof.Machine.execDbgChal s
  | .uartCtsNLow => Sys2Proof.Machine.execUartCtsNLow s
  | .tdmResync => Sys2Proof.Machine.execTdmResync s

end Sys2Proof.Machine
end

