-- ==== Sys2Proof/Machine/Idle.lean ====
section
/-! DEFINITION. What the passing of time does while no command waits (04 R130, R135; 06 R178; 09 R261). -/

namespace Sys2Proof.Machine

/-- An in-band interrupt of the span tick that ends is over (09 R261). -/
def State.endIbis (s : State) : State :=
  s.each ((List.range 8).filter fun p => (s.port p).ibi) fun s p => (s.setPort p { s.port p with ibi := false }).showInt p

/-- Time passes: a span tick while the span clock runs, with the monitor's sample of it, and re-issues that may issue by now; an XT32 edge
of a carry while it stands (log 4). -/
def State.idle (s : State) : State :=
  if s.span.running then ({ s with span := { s.span with count := s.span.count + 1 } }.sampleRails).endIbis.serveReissues
  else if s.span.carrying then { s with span := s.span.edge (s.reg R.SPN_RATE 0) }
  else s

end Sys2Proof.Machine
end

