-- ==== Sys2Proof/Machine/Pins.lean ====
section
/-! DEFINITION. The levels of the control outputs, as State has them (17 R475, R485; 03 R92, R120; 06 R205; 09 R280; 15 R436; 16
R463). The pins of buses are the answers of their commands (log 167). -/

namespace Sys2Proof.Machine

/-- What an output pin does: it drives a level or is at high impedance, an open-drain one released. -/
inductive PinOut where
  | low
  | high
  | hiZ
deriving DecidableEq, Repr

/-- The pins of VDDIO_A drive: the part is powered, the bank lies above its detector (R485), and HIGHZ does not hold them (16 Table
16.5). -/
def State.drives (s : State) : Bool := s.powered && s.bankOk 0 && s.jtag.ir != 3

/-- An open-drain pin, low while asserted; a push-pull pin. -/
def State.openDrain (s : State) (asserted : Bool) : PinOut := if s.drives && asserted then .low else .hiZ
def State.pushPull (s : State) (level : Bool) : PinOut := if s.drives then (if level then .high else .low) else .hiZ

/-- BOOT_FAIL_N is low in BOOT_HOLD and released otherwise (03 R120). -/
def State.bootFailN (s : State) : PinOut := s.openDrain (s.flag F.IMG_BOOT_HOLD)

/-- NVM_GNT_N is asserted while the NVM is granted (03 R92). -/
def State.nvmGntN (s : State) : PinOut := s.openDrain (s.flag F.STW_NVM_GRANTED)

/-- CORE_PG is released while the VDD_CORE thresholds are armed, and low at every other time (Table 17.3). -/
def State.corePgPin (s : State) : PinOut := s.openDrain (!s.corePg)

/-- WAKE_OUT and IRQ_OUT_N (15 R436). -/
def State.wakeOutPin (s : State) : PinOut := s.pushPull s.wakeOut
def State.irqOutN (s : State) : PinOut := s.openDrain s.irqAsserted

/-- CAM_EN is at high impedance until the PEN domain drives it (Table 17.3; 09 R280); CAM_LED and MUTE_LED sink their current while
lit (09 R280; 08 R247). -/
def State.camEnPin (s : State) : PinOut := if s.level 18 = 0 then .hiZ else s.pushPull (s.flag F.CAM_STATUS_CAM_EN)
def State.camLedPin (s : State) : PinOut := s.openDrain (s.flag F.CAM_STATUS_LED_ON)
def State.muteLedPin (s : State) : PinOut := s.openDrain (s.flag F.EAR_STATUS_MUTED)

end Sys2Proof.Machine
end

