-- ==== Sys2Proof/Safety.lean ====
section
/-! DEFINITION. The terms the claims use: the invariant of every step, and what an update leaves as it was. -/

namespace Sys2Proof.Machine

/-- The invariant of the block: its memories are in their one canonical form, so that equal memories are equal data. -/
abbrev State.Inv (s : State) : Prop := Memory.wf s.mem = true

/-- Every register word but those at the addresses listed reads as before. -/
def OnlyRegs (s t : State) (addrs : List Nat) : Prop := ∀ (q : RegDef) (j : Nat), q.at j ∉ addrs → t.reg q j = s.reg q j

/-- `t` differs from `s` in register words at the addresses listed alone. -/
def ChangesRegs (s t : State) (addrs : List Nat) : Prop := t = { s with regs := t.regs } ∧ OnlyRegs s t addrs

/-- `t` differs from `s` in register words at the addresses listed and in the event log and its registers alone. -/
def ChangesLogged (s t : State) (addrs : List Nat) : Prop :=
  t = { s with regs := t.regs, log := t.log } ∧ OnlyRegs s t (R.LOG_NEXT.at 0 :: R.LOG_STATUS.at 0 :: addrs)

/-- The event `code` with its parameters is the first that `t` has logged behind `s` (07 R222). -/
def LogsFirst (s t : State) (code p q : Nat) : Prop := (s.ev2 code p q).log.intake <+: t.log.intake

/-- No chip-state request is pending, none is forced, and no chip transition is in flight (05 R153, R167, R169). -/
abbrev State.ChipQuiet (s : State) : Prop := s.pwr.req = none ∧ s.pwr.forced = [] ∧ s.pwr.fly = none

/-- The chip is not in Rest, or no start has ended. -/
abbrev State.NotAtRest (s : State) : Prop := ¬ (s.isUp = true ∧ s.pwr.state = 3)

/-- Engine `e` waits for no domain (05 R161). -/
abbrev State.noWait (s : State) (e : Engine) : Prop := ∀ x ∈ s.pwr.stalled, x.2 ≠ .engine e

/-- The engine serves slot `i`, whose next instruction is the word `w` with opcode `op`, inside the program, and `n` cycles still fit CYCLE_MAX
(07 R209, R212, R228). -/
abbrev State.atInstr (s : State) (i : Fin 16) (op n w : Nat) : Prop :=
  s.yardRuns = true ∧ s.slotReady i = true ∧ s.slotWord i = w ∧ opOf w = op ∧ (s.slot i).pc < (s.slotCfg i).length
    ∧ (s.slot i).cycles + n ≤ (s.slotCfg i).cycleMax

/-- `t` differs from `s` in slot `i` of the Yard and in the count of issued instructions alone, which gains 1. -/
def ChangesSlot (s t : State) (i : Fin 16) : Prop :=
  t = { s with yard := { s.yard with slots := t.yard.slots }, regs := t.regs } ∧ OnlyRegs s t [R.YRD_ENGINE.at 0]
    ∧ t.get F.YRD_ENGINE_CYCLES = min (s.get F.YRD_ENGINE_CYCLES + 1) (2 ^ 32 - 1) ∧ ∀ j, j ≠ i.val → t.slot j = s.slot j

/-- Slot `y` stands behind the instruction slot `x` stood at, `n` cycles later, with the loop state that follows (07 Table 07.2). -/
def SlotBehind (x y : YardSlot) (n : Nat) : Prop :=
  y.cycles = x.cycles + n ∧ y.pc = x.advance.pc ∧ y.loopLeft = x.advance.loopLeft ∧ y.loopAt = x.loopAt ∧ y.loopEnd = x.loopEnd

/-- Slot `y` has the flags, votes, detector and taint of slot `x` (07 R213). -/
def SlotKeeps (x y : YardSlot) : Prop :=
  y.lt = x.lt ∧ y.eq = x.eq ∧ y.gt = x.gt ∧ y.timeout = x.timeout ∧ y.full = x.full ∧ y.active = x.active ∧ y.rose = x.rose
    ∧ y.fell = x.fell ∧ y.taint = x.taint ∧ y.votes = x.votes ∧ y.wakes = x.wakes ∧ y.det = x.det ∧ y.margin = x.margin

/-- Every Pen slot but slot `k` of port `p` is in the state it was in (02 R52). -/
def SlotsBut (s t : State) (p k : Nat) : Prop := ∀ p' < 2, ∀ k' < 4, (p' ≠ p ∨ k' ≠ k) → t.penSlot p' k' = s.penSlot p' k'

/-- The frame port `p` had in slot `k` is abandoned with a cause (09 R279): its slot is wiped, no tally moves, the port counts it. -/
def FrameAbandoned (s t : State) (p k cause : Nat) : Prop :=
  (t.cam p).frame = none ∧ t.penSlot p k = 3 ∧ SlotsBut s t p k ∧ t.mem = s.mem ∧ t.disp = s.disp
    ∧ t.getAt F.CAM_PORTn_COUNTS_ABANDONED p = min (s.getAt F.CAM_PORTn_COUNTS_ABANDONED p + 1) 255
    ∧ t.getAt F.CAM_PORTn_ERR_LAST_CAUSE p = cause ∧ t.log = (s.ev2 0x0611 p cause).log

/-- A packet whose header is whole and of the virtual channel port `p` is set to; a DVP input has no headers (09 R278). -/
abbrev State.headerFits (s : State) (p : Nat) (vc : BitVec 2) (hdr : PktHdr) : Prop :=
  s.isDvp p = true ∨ (hdr = .good ∧ vc.toNat = s.getAt F.CAM_PORTn_CFG_VC p)

/-- Nothing waits for tally `x`: no operation is raised, no waiter names it, no weight set commits on it (14 R401, R404; 12 R356). -/
abbrev State.TallyQuiet (s : State) (x : Nat) : Prop :=
  s.disp.ops = [] ∧ (∀ w ∈ s.disp.waiters, w.tally ≠ x) ∧ ∀ w ∈ s.cim.sets, w.tally ≠ x

/-- Tally `x` has gained `v`, saturating at 2^32 - 1, and no other tally has moved (14 R404). -/
def TallyGains (s t : State) (x v : Nat) : Prop :=
  t.tally x = min (s.tally x + v) (2 ^ 32 - 1) ∧ ∀ y < 4096, y ≠ x → t.tally y = s.tally y

/-- The script run `r` of port `p` stands in phase `ph` at the step word `w` with opcode `op` (09 R271, R273). -/
abbrev State.atStep (s : State) (p op : Nat) (ph : ScriptPhase) (r : ScriptRun) (w : Nat) : Prop :=
  (s.port p).run = some r ∧ r.phase = ph ∧ s.stepWord p r = w ∧ stepOp w = op

/-- `t` differs from `s` in port `p` beyond its registers and in its STATUS register alone. -/
def ChangesPort (s t : State) (p : Nat) : Prop :=
  t = { s with regs := t.regs, head := { s.head with ports := t.head.ports } } ∧ (∀ j, j ≠ p → t.port j = s.port j)
    ∧ OnlyRegs s t [R.SPT_PORTn_STATUS.at p]

/-- The script run of port `p`, which neither INIT nor a ring entry started, has ended with a result (09 R275): recorded, and logged and
counted unless it is OK. -/
def ScriptEnds (s t : State) (p result : Nat) : Prop :=
  (t.port p).run = none ∧ t.getAt F.SPT_PORTn_STATUS_BUSY p = 0 ∧ t.getAt F.SPT_PORTn_STATUS_RESULT p = result
    ∧ t.portState p = s.portState p ∧ (∀ j, j ≠ p → t.port j = s.port j)
    ∧ t.log = (if result = 0 then s.log else (s.ev2 0x060A p result).log) ∧ t.mem = s.mem ∧ t.disp = s.disp
    ∧ OnlyRegs s t [R.SPT_PORTn_STATUS.at p, R.SPT_PORTn_COUNTS.at p, R.LOG_NEXT.at 0, R.LOG_STATUS.at 0]

/-- Both ends of a Loft region are in LOFT domains that are on (05 R161); a region elsewhere needs none. -/
abbrev State.regionOn (s : State) (r : Region) : Prop :=
  (match r.loc with
    | .mem .loft off => r.len == 0 || s.steadyAt (12 + off / 0x400000) 2 && s.steadyAt (12 + (off + r.len - 1) / 0x400000) 2
    | _ => true) = true

/-- A Pen source lies in one READY slot of an enabled port while PEN is on and no whole-Pen wipe runs (02 R77, R83). -/
abbrev State.penOn (s : State) (st : Nat) (d : Desc) : Prop :=
  (match (d.src' st).loc with
    | .pen off => s.steadyAt 18 2 && !s.flag F.PEN_STATUS_WIPING && (s.penSlotOf off d.srcLen).any fun x => s.penSlot (x / 4) (x % 4) == 2
    | _ => true) = true

/-- Stall `st` runs tile `j`, whose current descriptor `d` can be fetched, has a good CRC, and is the operation `op`, of function
`func` where it is a VECTOR (10 R294, R296). -/
abbrev State.atDesc (s : State) (st op func : Nat) (j : TileJob) (d : Desc) : Prop :=
  (s.stall st).tile = some j ∧ s.stallRuns st = true ∧ j.gated = false ∧ j.ended = false ∧ j.record = []
    ∧ (j.slot = none → s.steadyAt (12 + (j.first + 64 * j.pos) / 0x400000) 2 = true)
    ∧ s.noWait (.stall st) ∧ d = readDesc (s.descBytes j j.pos) ∧ d.op = op ∧ (op = 4 → d.func = func)
    ∧ fieldAt (s.descBytes j j.pos) 60 4 = crc32 ((s.descBytes j j.pos).take 60)

/-- The descriptor has no outlier table, or one that keeps to Table 11.3 (11 R327). -/
abbrev State.tableFine (s : State) (st : Nat) (j : TileJob) (d : Desc) : Prop :=
  d.outliers = 0 ∨ outlierOk d st (((d.scl' st).bytes (s.tileMem j)).drop d.partD) = true

/-- The descriptor passes every check of 10 R297, and ends its tile if it has LAST set. -/
abbrev State.passes (s : State) (st : Nat) (j : TileJob) (d : Desc) : Prop :=
  s.descOk st j d = true ∧ s.tableFine st j d ∧ d.overlaps st = false ∧ s.penStatus j d st = 0
    ∧ (d.last = true → s.endsTile j j.pos = true)

/-- Stall `st` has completed descriptor `d` of tile `j`, which is now `k`: behind the descriptor, or ended with what its completion is
to add (10 R299). Nothing of it is visible outside the stall but counted and logged number faults (11 R342, R343). -/
def TileBehind (s t : State) (st : Nat) (j k : TileJob) (d : Desc) : Prop :=
  (t.stall st).tile = some k ∧ (∀ i, i ≠ st → t.stall i = s.stall i) ∧ (t.stall st).cut = (s.stall st).cut ∧ t.mem = s.mem
    ∧ t.disp = s.disp ∧ t.pwr = s.pwr ∧ OnlyRegs s t [R.NUM_COUNTS.at 0, R.LOG_NEXT.at 0, R.LOG_STATUS.at 0] ∧ k.tileId = d.tileId
    ∧ k.ring = j.ring ∧ k.idx = j.idx
    ∧ (if s.endsTile j j.pos = true then k.ended = true ∧ k.status = 0 ∧ k.tally = d.tally ∧ k.tallyAdd = d.tallyAdd
      else k.ended = false ∧ k.pos = j.pos + 1)

/-- The tile of stall `st` has ended with status `n`, its descriptor rejected (10 R297). -/
def TileRejected (s t : State) (st n : Nat) : Prop :=
  t.getAt F.STL_STALLs_STATUS_LAST_STATUS st = n ∧ (t.stall st).tile = none
    ∧ t.get F.STL_COUNTS_REJECTS = min (s.get F.STL_COUNTS_REJECTS + 1) 255

/-- Tile `k` has gained the output vectors `vs` of descriptor `d`, with their taint, as writes that are not visible yet. -/
def Writes (j k : TileJob) (d : Desc) (st taint : Nat) (vs : List (List OutVal)) : Prop :=
  k.writes = j.writes ++ vecWrites (d.dst' st).loc d.dstStride taint (vs.map fun v => v.map fun o => BitVec.ofInt 8 o.code)
    ∧ k.taint = j.taint ||| taint

/-- Slots 3 and 10 of the Barn domains vote as the bays need, no tile waits for a bay, and no step or move waits to begin (05 Table 05.4a;
13 R387, R389). -/
abbrev State.barnSettled (s : State) : Prop :=
  (∀ d ∈ [16, 17], s.voteSlot d 10 = if (List.range 4).any s.stepping then 2 else 0) ∧ s.barn.waiting = []
    ∧ (s.voteSlot 17 3 = if s.barn.hint || (List.range 4).any fun b => (s.bay b).tile.isSome || (s.bay b).cut.isSome then 2 else 0)
    ∧ s.barn.due = [] ∧ (∀ b < 4, (s.bay b).lostLine = none ∨ s.stepping b = true) ∧ ∀ b : Fin 4, calKey (.line b) ∉ s.cal.abandoned

/-- BARN_ARRAY stays on when a step's vote ends: another vote keeps it, or the hold of its drop begins with that end (05 R160). -/
abbrev State.barnStays (s : State) : Prop :=
  (s.wanted 17 = 2 ∧ s.voteSlot 17 3 = 2) ∨ (s.failed 17 = false ∧ s.ceiling 17 = 2 ∧ 0 < s.holdLen 17 ∧ s.pendOf 17 = none)

/-- No level of a domain is pending (05 R169). -/
abbrev State.pendQuiet (s : State) : Prop := ∀ d < 24, s.pendOf d = none

/-- Bay `b` runs tile `j` of the Loft, whose current descriptor `d` is the operation `op` and passes its checks (13 R376). -/
abbrev State.atBay (s : State) (b op : Nat) (j : TileJob) (d : Desc) : Prop :=
  (s.bay b).tile = some j ∧ s.barnReady = true ∧ s.span.barnLock = true ∧ (s.bay b).loading = none ∧ s.stepping b = false
    ∧ s.bayOut b = false ∧ (s.bay b).lostLine = none ∧ s.noWait (.bay b) ∧ j.slot = none ∧ s.steadyAt (12 + (j.first + 64 * j.pos) / 0x400000) 2 = true
    ∧ d = readDesc (s.descBytes j j.pos) ∧ d.op = op ∧ s.barnCheck (s.descBytes j j.pos) = 0

/-- Ring `i` stands at a valid entry `e` of kind `k`, at `off` of memory `m`, whose domain is on, and the dispatcher serves it
(14 R397, R400). -/
abbrev State.atEntryOf (s : State) (i k : Nat) (e : List Byte) (m : Mem) (off : Nat) : Prop :=
  s.dispatches = true ∧ s.noWait (.ring i) ∧ s.armed i = true ∧ s.getAt F.RNG_RINGi_CFG_KIND i = 0 ∧ s.pi i ≠ (s.ring i).ii
    ∧ s.entryAt i (s.ring i).ii = some (m, off) ∧ (∀ d ∈ memDomain m off, s.steadyAt d 2 = true)
    ∧ e = s.entryBytes i (s.ring i).ii ∧ byteAt e 0 = k ∧ s.entryOk i e = true

/-- The entry has no gate, or its gate has been satisfied (14 R401). -/
abbrev State.entryOpen (s : State) (i : Nat) (e : List Byte) : Prop := fieldAt e 4 2 = 0xFFFF ∨ (s.ring i).gateOk = true

/-- Channel `c` of the Mover stands at descriptor `j` of operation `op`, from `so` of `sm` to `dO` of `dm`, both inside their memories
and in domains that are on (14 R409, R412, R419). -/
abbrev State.atMove (s : State) (c op : Nat) (j : MoveJob) (rest : List MoveJob) (sm : Mem) (so : Nat) (dm : Mem) (dO : Nat) : Prop :=
  s.chan c = j :: rest ∧ s.isUp = true ∧ s.coreOn = true ∧ s.alarmHold = false ∧ s.disp.stopped = false ∧ j.ran = false
    ∧ mvOp j.body = op ∧ moveOk j.body = true ∧ (op = 1 ∨ ((srcSide j.body).place = some (sm, so) ∧ (srcSide j.body).inside = true))
    ∧ (dstSide j.body).place = some (dm, dO) ∧ (dstSide j.body).inside = true
    ∧ ∀ d ∈ moveDomains j.body, s.steadyAt d 2 = true ∧ s.failed d = false

/-- The descriptor has moved: only bytes from `dO` on within its destination's span have changed, and it waits for its completion. -/
def Moved (s t : State) (c : Nat) (j : MoveJob) (rest : List MoveJob) (dm : Mem) (dO : Nat) : Prop :=
  t.chan c = { j with ran := true, status := 0 } :: rest ∧ t = { s with mem := t.mem, disp := { s.disp with chans := t.disp.chans } }
    ∧ (∀ a, (a < dO ∨ dO + (dstSide j.body).span ≤ a) → t.mem.read dm a 1 = s.mem.read dm a 1)
    ∧ ∀ m, m ≠ dm → ∀ a, t.mem.read m a 1 = s.mem.read m a 1

/-- Entry `idx` of WORK ring `i` is its oldest outstanding one, the bytes `e` that memory contents `m0` hold at `off` of memory `m`,
whose domain has power; no tally operation is raised (14 R397, R402). -/
abbrev State.oldest (s : State) (i idx : Nat) (m0 : MemState) (m : Mem) (off : Nat) (e : List Byte) : Prop :=
  i < 2048 ∧ idx = s.di i ∧ (s.ring i).finished = [] ∧ s.entryAt i idx = some (m, off) ∧ e = m0.read m off 64
    ∧ s.entryLive i idx = true ∧ s.disp.ops = [] ∧ (fieldAt e 6 2 < 4096 → s.TallyQuiet (fieldAt e 6 2))

/-- That entry completes with a status (14 R402): STATUS stands in place over `m0`, DI is behind it, a REPEAT ring presents it again,
and DONE_ADD joins DONE_TALLY, where the tallies otherwise hold `v`. -/
def EntryEnds (s t : State) (i idx : Nat) (m0 : MemState) (m : Mem) (off : Nat) (e : List Byte) (status : Nat) (v : Nat → Nat) : Prop :=
  t.mem = m0.write m (off + 2) [BitVec.ofNat 8 status] 0 ∧ t.di i = (idx + 1) % 131072
    ∧ t.pi i = (if s.getAt F.RNG_RINGi_CFG_REPEAT i = 1 then (s.pi i + 1) % 131072 else s.pi i)
    ∧ ∀ x < 4096, t.tally x = if x = fieldAt e 6 2 then min (v x + fieldAt e 12 2) (2 ^ 32 - 1) else v x

/-- The mailbox has answered (15 R430, R431): MB_RESP holds status and sequence, and vector 1 is sent, or pends. -/
def MbAnswered (s t : State) (seq : Byte) (status : Nat) : Prop :=
  t.host.mbResp = BitVec.ofNat 32 (status + 256 * seq.toNat)
    ∧ if s.msixSends 1 = true then elGet 0 t.host.sent 1 = elGet 0 s.host.sent 1 + 1 else bitOf t.host.pba 1 = true

/-- Output `o` has consumed one entry (15 R423); `t` differs from `s` in that, in the entries it frees and in what was answered. -/
def Consumed (s t : State) (o : Nat) : Prop :=
  t.outIdx o = (s.outIdx o + 1) % 256 ∧ (∀ k, k ≠ o → t.outIdx k = s.outIdx k) ∧ t.mem = s.mem ∧ t.log = s.log
    ∧ OnlyRegs s t [R.PCI_RECo_INDEX.at o, R.PCI_COUNTS.at 0]

/-- Port `p` is up and frame `f`, whole and with a good tag, is the next it expects (15 R440). -/
abbrev State.accepts (s : State) (p : Nat) (f : LinkFrame) : Prop :=
  s.portUp p = true ∧ f.crcOk = true ∧ f.tagOk = true
    ∧ (elGet 0 s.link.expect p = 0 ∨ elGet 0 s.link.expect p = f.lseq.toNat + 1)

/-- The frame has been answered ACK and port `p` expects the one behind it. -/
def Accepted (t : State) (p : Nat) (f : LinkFrame) : Prop :=
  t.resp = ctlBlock 0x4B f.lseq.toNat ∧ elGet 0 t.link.expect p = (f.lseq.toNat + 1) % 65536 + 1

end Sys2Proof.Machine
end

