-- ==== Sys2Proof/Certificates/Slice0/Obligations.lean ====
section
/-! DEFINITION. The statements about the model, from the numbered rules of spec/: what each command's effect is, on which states it
has it, and what it leaves as it was. Each docstring names the commands and the rules. -/

open Sys2Proof Sys2Proof.Machine

/-- A step runs the command in front on the state with the queue's rest; on an empty queue time passes (log 1, the model's choice). -/
def Obligations.StepRunsFront : Prop :=
  (∀ (c : Instr) (rest : List Instr) (s : State), step { s with pending := c :: rest } = exec c { s with pending := rest }) ∧
  ∀ s : State, s.pending = [] → step s = .next s.idle

/-- Every command answers a next state in every state and leaves the queue as it was (log 1, the model's choice). -/
def Obligations.ExecKeepsQueue : Prop :=
  ∀ (c : Instr) (s : State), ∃ t, exec c s = .next t ∧ t.pending = s.pending

/-- The canonical form of every memory and taint table is kept by every step from any state that has it. -/
def Obligations.StepKeepsInv : Prop :=
  ∀ s t : State, s.Inv → step s = .next t → t.Inv

/-- The state right after VIN_AON has risen: registers at their reset values, memories and queues empty, the start of POWER_ON due
(that it is due and not begun is the model's choice, log 7). -/
def Obligations.ResetState : Prop :=
  State.reset.Inv ∧ State.reset.pending = [] ∧ (∀ (r : RegDef) (i : Nat), State.reset.reg r i = r.resetAt i) ∧
  (∀ d, State.reset.level d = 0) ∧ (∀ d k, State.reset.voteSlot d k = 0) ∧ State.reset.span.count = 0 ∧
  State.reset.span.running = false ∧ State.reset.keys.identity = [] ∧ State.reset.keys.group = [] ∧
  (∀ w off n, State.reset.mem.read w off n = List.replicate n 0) ∧
  State.reset.boot.phase = .due ∧ State.reset.boot.cause = 0

/-- One step on an empty queue: a span tick with the monitor's sample of both rails, or an XT32 edge of a carry (R129, R135, R178). That
time passes only then is the model's choice (log 1, log 4). -/
def Obligations.IdleTick : Prop :=
  (∀ s : State, s.pending = [] → s.span.running = true → s.fab.reissues = [] → ∃ t, step s = .next t ∧
    t.span = { s.span with count := s.span.count + 1 } ∧ t.get F.SUP_VMON_CORE_NOW = s.sup.coreCode % 256 ∧
    t.get F.SUP_VMON_AON_NOW = s.sup.aonCode % 256 ∧ (∀ p < 8, (s.port p).ibi = true → (t.port p).ibi = false) ∧ t.mem = s.mem ∧
    t.log = s.log ∧ t.pwr = s.pwr) ∧
  (∀ s : State, s.pending = [] → s.span.running = false → s.span.carrying = false → step s = .next s) ∧
  ∀ s : State, s.pending = [] → s.span.running = false → s.span.carrying = true → ∃ t, step s = .next t ∧
    t.span.acc.toNat = (s.span.acc.toNat + (s.reg R.SPN_RATE 0).toNat) % 2 ^ 40 ∧
    t.span.count = s.span.count + (if 2 ^ 40 ≤ s.span.acc.toNat + (s.reg R.SPN_RATE 0).toNat then 65536 else 0) ∧
    t = { s with span := { s.span with acc := t.span.acc, count := t.span.count } }

/-- REGISTER_WRITE on a plain register; on STW_ACCESS_INFO, whose COUNT starts anew; 0 in PWR_SLEEP_TIMER, which disarms the timer (R13,
R45, R165). -/
def Obligations.RegisterWrite : Prop :=
  (∀ (s : State) (a v : Word) (r : RegDef) (i : Nat), s.reaches .steward = true → inRegs a.toNat = true → a.toNat % 4 = 0 →
    regAt a.toNat = some (r, i) → r.wo = 0 → r.base ≠ R.PWR_STW_VOTE0.base → r.base ≠ R.PWR_STW_VOTE1.base →
    r.base ≠ R.STW_ACCESS_INFO.base → (r.base = R.PWR_SLEEP_TIMER.base → F.PWR_SLEEP_TIMER_MS.of v ≠ 0) →
    ∃ t, exec (.registerWrite .steward a v) s = .next t ∧
      t.reg r i = ((s.reg r i &&& ~~~ r.rw) ||| (v &&& r.rw)) &&& ~~~ (v &&& r.w1c) ∧ ChangesRegs s t [r.at i]) ∧
  (∀ (s : State) (v : Word), s.reaches .steward = true → v.getLsbD 0 = true →
    ∃ t, exec (.registerWrite .steward (BitVec.ofNat 32 R.STW_ACCESS_INFO.base) v) s = .next t ∧
      t.get F.STW_ACCESS_INFO_VALID = 0 ∧ t.get F.STW_ACCESS_INFO_COUNT = 0 ∧ ChangesRegs s t [R.STW_ACCESS_INFO.at 0]) ∧
  ∀ (s : State) (v : Word), s.reaches .steward = true → F.PWR_SLEEP_TIMER_MS.of v = 0 →
    ∃ t, exec (.registerWrite .steward (BitVec.ofNat 32 R.PWR_SLEEP_TIMER.base) v) s = .next t ∧
      t.get F.PWR_SLEEP_TIMER_MS = 0 ∧ t.pwr = { s.pwr with timerArmed := false } ∧
      t = { s with regs := t.regs, pwr := t.pwr } ∧ OnlyRegs s t [R.PWR_SLEEP_TIMER.at 0]

/-- RC_READ (R13). -/
def Obligations.RegisterRead : Prop :=
  ∀ (s : State) (a : Word) (r : RegDef) (i : Nat), s.reaches .steward = true → inRegs a.toNat = true → a.toNat % 4 = 0 →
    regAt a.toNat = some (r, i) → r.base ≠ R.SPN_COUNT_LO.base → r.base ≠ R.SPN_COUNT_HI.base →
    ∃ t, exec (.rcRead .steward a) s = .next t ∧ t.resp = leBytes 4 (s.shown r i).toNat ∧
      t.reg r i = s.reg r i &&& ~~~ r.rc ∧ t = { s with regs := t.regs, resp := t.resp } ∧ OnlyRegs s t [r.at i]

/-- SPAN_COUNT_READ, also while an alignment is due, and the read of the shadow (R132, R141). -/
def Obligations.SpanCountRead : Prop :=
  (∀ (s : State) (m : Master), s.reaches m = true → s.mayRead m R.SPN_COUNT_LO.base = true → s.flag F.SPN_STATUS_ALIGNING = false →
    ∃ t, exec (.spanCountRead m) s = .next t ∧ t.resp = leBytes 4 (s.span.count.toNat % 2 ^ 32) ∧
      elGet 0 t.span.shadow (masterCode m) = BitVec.ofNat 32 (s.span.count.toNat / 2 ^ 32) ∧
      (∀ k, k ≠ masterCode m → elGet 0 t.span.shadow k = elGet 0 s.span.shadow k) ∧
      t = { s with span := { s.span with shadow := t.span.shadow }, resp := t.resp, jtag := t.jtag } ∧
      (m ≠ .debug → t.jtag = s.jtag)) ∧
  (∀ (s : State) (m : Master), s.reaches m = true → s.mayRead m R.SPN_COUNT_LO.base = true → s.flag F.SPN_STATUS_ALIGNING = true →
    exec (.spanCountRead m) s = .next { s with span := { s.span with reads := s.span.reads ++ [masterCode m] } }) ∧
  ∀ (s : State) (m : Master), s.reaches m = true → s.mayRead m R.SPN_COUNT_HI.base = true →
    ∃ t, exec (.rcRead m (BitVec.ofNat 32 R.SPN_COUNT_HI.base)) s = .next t ∧
      t.resp = leBytes 4 (elGet 0 s.span.shadow (masterCode m)).toNat ∧ t = { s with resp := t.resp, jtag := t.jtag } ∧
      (m ≠ .debug → t.jtag = s.jtag)

/-- FAULTING_ACCESS: a wrong width, and a write of a register by the host (R38, R39, R45). -/
def Obligations.FaultingAccess : Prop :=
  (∀ (s : State) (m : Master) (a : Word) (size : AccSize) (write : Bool), s.coreOn = true → s.reaches m = true →
    inRegs a.toNat = true → size ≠ .b32 → s.flag F.STW_ACCESS_INFO_VALID = false →
    ∃ t, exec (.faultingAccess m (.addr a) size write) s = .next t ∧ t.get F.STW_ACCESS_ADDR_ADDR = a.toNat ∧
      t.get F.STW_ACCESS_INFO_MASTER = masterCode m ∧ t.get F.STW_ACCESS_INFO_SIZE = accCode size ∧
      t.get F.STW_ACCESS_INFO_WRITE = b2n write ∧ t.get F.STW_ACCESS_INFO_UNMAPPED = 0 ∧
      t.get F.STW_ACCESS_INFO_VALID = 1 ∧ t.get F.STW_ACCESS_INFO_COUNT = 1 ∧ (write = false → t.resp = leBytes 4 0) ∧
      t = { s with regs := t.regs, log := t.log, resp := t.resp } ∧
      OnlyRegs s t [R.LOG_NEXT.at 0, R.LOG_STATUS.at 0, R.STW_ACCESS_ADDR.at 0, R.STW_ACCESS_INFO.at 0]) ∧
  (∀ (s : State) (m : Master) (a : Word) (size : AccSize) (write : Bool), s.coreOn = true → s.reaches m = true →
    inRegs a.toNat = true → size ≠ .b32 → s.flag F.STW_ACCESS_INFO_VALID = true →
    ∃ t, exec (.faultingAccess m (.addr a) size write) s = .next t ∧
      t.get F.STW_ACCESS_INFO_COUNT = min (s.get F.STW_ACCESS_INFO_COUNT + 1) 255 ∧
      t.get F.STW_ACCESS_ADDR_ADDR = s.get F.STW_ACCESS_ADDR_ADDR ∧ (write = false → t.resp = leBytes 4 0) ∧ t.mem = s.mem) ∧
  ∀ (s : State) (a : Word), s.coreOn = true → s.reaches .host = true → inRegs a.toNat = true → a.toNat % 4 = 0 →
    s.flag F.STW_ACCESS_INFO_VALID = false →
    ∃ t, exec (.faultingAccess .host (.addr a) .b32 true) s = .next t ∧ t.get F.STW_ACCESS_ADDR_ADDR = a.toNat ∧
      t.get F.STW_ACCESS_INFO_MASTER = 1 ∧ t.get F.STW_ACCESS_INFO_UNMAPPED = 1 ∧ t.get F.STW_ACCESS_INFO_VALID = 1 ∧
      t.get F.STW_ACCESS_INFO_COUNT = 1 ∧ t.mem = s.mem

/-- DBG_AP: with the rights, and without them (R464). -/
def Obligations.DebugAccess : Prop :=
  (∀ (s : State) (a : Word) (r : RegDef) (i : Nat), s.powered = true → s.bankOk 0 = true → s.coreOn = true → s.debugRegs = true → inRegs a.toNat = true →
    a.toNat % 4 = 0 → regAt a.toNat = some (r, i) → r.base ≠ R.SPN_COUNT_LO.base → r.base ≠ R.SPN_COUNT_HI.base →
    ∃ t, exec (.dbgAp false a 0) s = .next t ∧ t.jtag.apDone = true ∧ t.jtag.apData = s.shown r i) ∧
  ∀ (s : State) (a : Word), s.powered = true → s.bankOk 0 = true → s.coreOn = true → s.debugRegs = false → inRegs a.toNat = true → a.toNat % 4 = 0 →
    s.flag F.STW_ACCESS_INFO_VALID = false →
    ∃ t, exec (.dbgAp false a 0) s = .next t ∧ t.jtag.apDone = true ∧ t.jtag.apData = 0 ∧
      t.get F.STW_ACCESS_ADDR_ADDR = a.toNat ∧ t.get F.STW_ACCESS_INFO_MASTER = 3 ∧ t.get F.STW_ACCESS_INFO_UNMAPPED = 1 ∧
      t.get F.STW_ACCESS_INFO_VALID = 1

/-- TICK without a loss of light, STEWARD_WDT, and CALIBRATION_RETRY, which begins the calibration again where the Steward works and leaves
it due elsewhere (R20, R31, R32, R46, R138). -/
def Obligations.StewardTick : Prop :=
  (∀ (s : State) (tj : Byte), s.flag F.SPN_STATUS_PLL_LOCK = true → s.isUp = true → s.coreOn = true →
    ∃ t, exec (.tick tj []) s = .next t ∧ t.span.ticks = s.span.ticks + 1 ∧
      t.get F.SPN_TICK_COUNT = (s.get F.SPN_TICK_COUNT + 1) % 2 ^ 32 ∧ t.get F.STW_THROTTLE_TJ_MAX = tj.toNat ∧
      t.get F.STW_THROTTLE_HOT = b2n (decide (110 ≤ tj.toInt)) ∧
      (110 ≤ tj.toInt → t.get F.STW_THROTTLE_LEVEL = s.levelZero) ∧
      (s.throttleOn ≤ tj.toInt → tj.toInt < 110 → s.therm.held = false → s.get F.STW_THROTTLE_LEVEL ≤ 16 →
        t.get F.STW_THROTTLE_LEVEL = min 16 (s.get F.STW_THROTTLE_LEVEL + 1)) ∧ t.mem = s.mem) ∧
  (∀ (s : State) (tj : Byte) (l : List Loss), s.flag F.SPN_STATUS_PLL_LOCK = false → exec (.tick tj l) s = .next s) ∧
  (∀ s : State, s.isUp = true → s.coreOn = true → ∃ t, exec .stewardWdt s = .next t ∧ t.boot.phase = .due ∧ t.boot.cause = 9 ∧
    (∀ d < 24, t.level d = 0) ∧ t.get F.VRC_STATUS_RUNNING = 0) ∧
  (∀ (s : State) (m : Fin 16), s.isUp = true → s.coreOn = true → s.pwr.state < 2 → s.flag F.SUP_STATUS_BRACE = false →
    s.calLevel (.mic m) ≠ 0 → s.getAt F.EAR_MICm_STAT_CAL_STATE m = 4 → s.earLive = true → s.micOn m = true → s.micSettled m = true →
    ∃ t, exec (.calibrationRetry (.mic m)) s = .next t ∧ t.getAt F.EAR_MICm_STAT_CAL_STATE m = 1 ∧ t.mem = s.mem) ∧
  (∀ (s : State) (st : Fin 96), s.isUp = true → s.coreOn = true → s.pwr.state < 2 → s.calLevel (.column st) ≠ 0 →
    s.getAt F.CIM_STALLs_STATE_CAL_STATE st = 4 →
    ∃ t, exec (.calibrationRetry (.column st)) s = .next t ∧ t.getAt F.CIM_STALLs_STATE_CAL_STATE st = 1 ∧ t.mem = s.mem) ∧
  (∀ (s : State) (st : Fin 96), 2 ≤ s.pwr.state → s.calLevel (.column st) ≠ 0 → s.getAt F.CIM_STALLs_STATE_CAL_STATE st = 4 →
    ∃ t, exec (.calibrationRetry (.column st)) s = .next t ∧ calKey (.column st) ∈ t.cal.abandoned ∧
      t = { s with cal := { s.cal with abandoned := t.cal.abandoned } }) ∧
  (∀ (s : State) (b : Fin 4) (e : CalElem), (e = .dark b ∨ e = .line b) → s.calLevel e ≠ 0 → s.barnReady = true →
    s.flag F.BRN_CFG_ROT_EN = true → s.bayOut b = false → s.rotFixed b = false → s.flag F.SUP_STATUS_BRACE = false → s.barn.due = [] →
    s.wanted 17 = 2 → (∀ x < 4, s.stepping x = false ∧ (s.bay x).lostLine = none) → (s.bay b).loading = none →
    ∃ t, exec (.calibrationRetry e) s = .next t ∧ (t.bay b).part = .dark ∧ (t.bay b).lostLine = none ∧ t.mem = s.mem) ∧
  ∀ (s : State) (n : Fin 4), s.calLevel (.isen n) ≠ 0 →
    ∃ t, exec (.calibrationRetry (.isen n)) s = .next t ∧ calKey (.isen n) ∈ t.cal.abandoned ∧
      t = { s with cal := { s.cal with abandoned := t.cal.abandoned } }

/-- RATE_WINDOW, passed and rejected, and XT32_STOPPED, also with a Rest request pending (R133, R134, R145, R167). -/
def Obligations.RateAndLoss : Prop :=
  (∀ (s : State) (c : BitVec 22), s.span.running = true → 2046976 ≤ c.toNat → c.toNat ≤ 2049024 →
    ∃ t, exec (.rateWindow c) s = .next t ∧ t.get F.SPN_RATE_SPAN_RATE = c.toNat * 256 ∧ t.get F.SPN_STATUS_RATE_VALID = 1 ∧
      t.get F.SPN_MEAS_LAST_COUNT = c.toNat ∧ t.get F.SPN_STATUS_XT_STOPPED = 0 ∧ t.span.count = s.span.count ∧
      OnlyRegs s t [R.SPN_RATE.at 0, R.SPN_STATUS.at 0, R.SPN_MEAS.at 0, R.LOG_NEXT.at 0, R.LOG_STATUS.at 0]) ∧
  (∀ (s : State) (c : BitVec 22), s.span.running = true → (c.toNat < 2046976 ∨ 2049024 < c.toNat) →
    ∃ t, exec (.rateWindow c) s = .next t ∧ t.get F.SPN_RATE_SPAN_RATE = s.get F.SPN_RATE_SPAN_RATE ∧
      t.get F.SPN_STATUS_RATE_VALID = s.get F.SPN_STATUS_RATE_VALID ∧ t.get F.SPN_MEAS_LAST_COUNT = c.toNat ∧
      t.get F.SPN_MEAS_REJECTS = min (s.get F.SPN_MEAS_REJECTS + 1) 255 ∧ t.span.count = s.span.count) ∧
  (∀ s : State, s.span.running = true → s.flag F.SPN_STATUS_XT_STOPPED = false → (∀ q, s.pwr.req = some q → q.target ≠ 3) →
    ∃ t, exec .xt32Stopped s = .next t ∧ t.flag F.SPN_STATUS_XT_STOPPED = true ∧ t.log = (s.ev 0x0202 0).log ∧
      ChangesLogged s t [R.SPN_STATUS.at 0]) ∧
  ∀ (s : State) (q : ChipReq), s.span.running = true → s.flag F.SPN_STATUS_XT_STOPPED = false → s.isUp = true → s.pwr.state < 2 →
    s.pwr.req = some q → q.target = 3 → ∃ t, exec .xt32Stopped s = .next t ∧ t.flag F.SPN_STATUS_XT_STOPPED = true ∧
      t.pwr.req = none ∧ t.pwr.forced.head? = some { target := 2, cause := 8, forced := true } ∧ t.pwr.state = s.pwr.state ∧ t.mem = s.mem

/-- SPAN_ALIGN, with the bound that stood at the stop, and XT32_LOST, in Rest a wake (R134 to R137, R141, R143, R144). -/
def Obligations.CarryAligns : Prop :=
  (∀ (s : State) (rc : Word), s.span.carrying = true → s.span.rootOn = true →
    ∃ t, exec (.spanAlign rc) s = .next t ∧
      t.span.count = (s.span.edge (s.reg R.SPN_RATE 0)).count
        + BitVec.ofNat 64 ((s.span.edge (s.reg R.SPN_RATE 0)).acc.toNat / 2 ^ 24) ∧
      t.span.running = true ∧ t.span.carrying = false ∧ t.span.acc = 0 ∧ t.span.reads = [] ∧ t.flag F.SPN_STATUS_CARRIED = true ∧
      t.flag F.SPN_STATUS_ALIGNING = false ∧ t.flag F.SPN_STATUS_NOMINAL = !s.span.validAtStop ∧
      t.get F.SPN_CARRIED_TICKS = min (t.span.count - s.span.atStop).toNat (2 ^ 32 - 1) ∧
      t.get F.SPN_ERR_LAST_ERR = min (((t.span.count - s.span.atStop).toNat
        * (orOne s.span.boundAtStop + (if s.span.validAtStop then 0 else 100)) + 999999) / 1000000 + 2) (2 ^ 32 - 1) ∧ t.mem = s.mem) ∧
  (∀ (s : State) (rc : Word), s.span.carrying = true → ¬ (s.isUp = true ∧ s.pwr.state = 3) →
    ∃ t, exec (.xt32Lost rc) s = .next t ∧ t.span.running = true ∧ t.span.carrying = false ∧ t.flag F.SPN_STATUS_LOST = true ∧
      t.flag F.SPN_STATUS_ALIGNING = false ∧ t.gate.lost = true ∧ s.span.count.toNat ≤ t.span.count.toNat ∧ t.span.acc = 0 ∧
      t.mem = s.mem) ∧
  ∀ (s : State) (rc : Word), s.span.carrying = true → s.isUp = true → s.pwr.state = 3 → s.ChipQuiet →
    ∃ t, exec (.xt32Lost rc) s = .next t ∧ t.span.running = true ∧ t.span.carrying = false ∧ t.flag F.SPN_STATUS_LOST = true ∧
      t.gate.lost = true ∧ s.span.count.toNat ≤ t.span.count.toNat ∧ t.get F.PWR_WAKE_STATUS_LAST_SOURCE = 3 ∧
      t.pwr.wakeReq = some { target := 2, cause := 2 } ∧ t.boot.phase = .due ∧ t.boot.cause = 5 ∧ t.mem = s.mem

/-- PLL_UNLOCK and PLL_RELOCK for both PLLs (R131, R138, R146). -/
def Obligations.PllLocks : Prop :=
  (∀ s : State, s.flag F.SPN_STATUS_PLL_LOCK = true → ∃ t, exec (.pllUnlock .main) s = .next t ∧
    t.flag F.SPN_STATUS_PLL_LOCK = false ∧ t.log = (s.ev 0x0205 0).log ∧ ChangesLogged s t [R.SPN_STATUS.at 0]) ∧
  (∀ s : State, s.span.barnLock = true → ∃ t, exec (.pllUnlock .barn) s = .next t ∧ t.span.barnLock = false ∧
    t.span.count = s.span.count ∧ OnlyRegs s t [R.LOG_NEXT.at 0, R.LOG_STATUS.at 0] ∧ t.mem = s.mem) ∧
  (∀ s : State, s.span.running = true → s.pwr.nextState < 2 → s.flag F.SPN_STATUS_PLL_LOCK = false →
    ∃ t, exec (.pllRelock .main) s = .next t ∧ t.flag F.SPN_STATUS_PLL_LOCK = true ∧ t.get F.SPN_TICK_COUNT = 0 ∧
      ChangesRegs s t [R.SPN_STATUS.at 0, R.SPN_TICK.at 0]) ∧
  ∀ s : State, s.level 17 = 2 → ∃ t, exec (.pllRelock .barn) s = .next t ∧
    t = { s with span := { s.span with barnLock := true } }

/-- STATE_REQUEST and WARM_REQ (R110, R153, R169). -/
def Obligations.StateRequests : Prop :=
  (∀ (s : State) (v : Word), s.coreOn = true → s.isUp = true → s.ChipQuiet → s.pwr.state < F.PWR_STATE_REQ_TARGET.of v →
    F.PWR_STATE_REQ_TARGET.of v < 4 → (F.PWR_STATE_REQ_TARGET.of v = 3 → s.flag F.SPN_STATUS_XT_STOPPED = false) →
    exec (.stateRequest .steward v) s =
      .next { s with pwr := { s.pwr with req := some { target := F.PWR_STATE_REQ_TARGET.of v, cause := 0 } } }) ∧
  (∀ (s : State) (v : Word), s.coreOn = true → s.isUp = true → s.ChipQuiet → F.PWR_STATE_REQ_TARGET.of v < s.pwr.state →
    s.pwr.state < 3 → ∃ t, exec (.stateRequest .steward v) s = .next t ∧ t.pwr.req = none ∧ t.pwr.state = s.pwr.state ∧
      t.pwr.fly = some { target := F.PWR_STATE_REQ_TARGET.of v, cause := 0 } ∧ t.mem = s.mem) ∧
  (∀ (s : State) (v : Word), s.coreOn = true → 4 ≤ F.PWR_STATE_REQ_TARGET.of v → exec (.stateRequest .steward v) s = .next s) ∧
  (∀ (s : State) (v : Word), s.coreOn = true → s.isUp = true → s.alarmHold = false → F.STW_START_REQ_KEY.of v = 0x5752 →
    v.getLsbD 0 = true → ∃ t, exec (.warmReq .steward v) s = .next t ∧ t.boot.phase = .due ∧ t.boot.cause = 0xA ∧
      (∀ d < 24, t.level d = 0) ∧ t.span = s.span) ∧
  ∀ (s : State) (v : Word), s.coreOn = true → (F.STW_START_REQ_KEY.of v ≠ 0x5752 ∨ v.getLsbD 0 = false) →
    exec (.warmReq .steward v) s = .next s

/-- VOTE_WRITE, FIRST_ACCESS_WAKE and DOMAIN_HOLD_END (R159 to R161, R169). -/
def Obligations.VotesAndAccess : Prop :=
  (∀ (s : State) (v : Word), s.reaches .steward = true → ∃ t, exec (.voteWrite .steward false v) s = .next t ∧
    (∀ d < 16, t.voteSlot d 0 = bitsOf v.toNat (2 * d) 2) ∧ t.mem = s.mem ∧ t.pwr.state = s.pwr.state) ∧
  (∀ (s : State) (v : Word), s.reaches .steward = true → ∃ t, exec (.voteWrite .steward true v) s = .next t ∧
    (∀ d < 8, t.voteSlot (16 + d) 0 = bitsOf v.toNat (2 * d) 2) ∧ t.mem = s.mem ∧ t.pwr.state = s.pwr.state) ∧
  (∀ (s : State) (d : Fin 24), s.isUp = true → d.val ≤ 18 → s.steadyAt d 2 = false → s.failed d = false →
    ∃ t, exec (.firstAccessWake d) s = .next t ∧ t.voteSlot d 7 = 2 ∧ (d.val, StalledAcc.touch) ∈ t.pwr.stalled ∧
      t.level d = s.level d ∧ t.mem = s.mem) ∧
  ∀ (s : State) (d : Fin 24), s.inFlight d = none → s.pendOf d = some (s.wanted d) → s.wanted d < s.level d →
    s.mayDrop d (s.wanted d) = true →
    ∃ t, exec (.domainHoldEnd d) s = .next t ∧ t.inFlight d = some (s.wanted d) ∧ t.level d = s.level d ∧ t.mem = s.mem

/-- DOMAIN_READY and DOMAIN_DROPPED for a LOFT, DOMAIN_TIMEOUT (R87, R152, R161 to R163, R172). -/
def Obligations.DomainTransitions : Prop :=
  (∀ (s : State) (d : Fin 24) (lvl : Nat), isLoft d = true → s.inFlight d = some lvl → s.level d < lvl →
    (∀ x ∈ s.pwr.stalled, x.1 = d.val → x.2 = .touch) → ∃ t, exec (.domainReady d) s = .next t ∧ t.level d = lvl ∧ (lvl = 2 → t.voteSlot d 7 = 0) ∧ t.mem = s.mem) ∧
  (∀ (s : State) (d : Fin 24), isLoft d = true → s.inFlight d = some 0 → 0 < s.level d →
    ∃ t, exec (.domainDropped d) s = .next t ∧ t.level d = 0 ∧
      ∀ p, 1024 * (d.val - 12) ≤ p → p < 1024 * (d.val - 11) → t.mem.plot .loft p = 3) ∧
  (∀ (s : State) (d : Fin 24) (lvl : Nat), s.inFlight d = some lvl → s.level d < lvl → d.val ∉ s.pwr.retry →
    ∃ t, exec (.domainTimeout d) s = .next t ∧ t.level d = 0 ∧ d.val ∈ t.pwr.retry ∧ t.inFlight d = some lvl) ∧
  ∀ (s : State) (d : Fin 24) (lvl : Nat), s.inFlight d = some lvl → s.level d < lvl → d.val ∈ s.pwr.retry → 17 < d.val →
    s.fab.reissues = [] → ∃ t, exec (.domainTimeout d) s = .next t ∧ t.failed d = true ∧ d.val ∉ t.pwr.retry ∧ t.level d = 0

/-- ENTRY_COMMIT out of each state, and while a tile is in flight; STATE_ENTERED for each state (R127, R135, R155, R156, R165, R166, R169,
R174, R206, R243). -/
def Obligations.ChipTransitions : Prop :=
  (∀ (s : State) (q : ChipReq), s.isUp = true → s.pwr.state ≤ 1 → s.pwr.fly = none → s.pwr.req = some q → s.pwr.state < q.target →
    s.disp.waiters = [] → s.prepared q = true →
    ∃ t, exec .entryCommit s = .next t ∧ t.pwr.fly = some { q with target := s.pwr.state + 1 } ∧ t.pwr.window = true ∧
      t.pwr.req = (if q.target = s.pwr.state + 1 then none else some q) ∧ t.pwr.state = s.pwr.state ∧ t.mem = s.mem) ∧
  (∀ (s : State) (q : ChipReq), s.isUp = true → s.pwr.state = 2 → s.pwr.fly = none → s.pwr.req = some q → q.target = 3 →
    s.prepared q = true → ∃ t, exec .entryCommit s = .next t ∧ t.pwr.fly = some q ∧ t.pwr.window = true ∧ t.pwr.state = 2 ∧
      t.ear.coding = false ∧ t.mem = s.mem) ∧
  (∀ (s : State) (q : ChipReq), s.isUp = true → s.pwr.state = 0 → s.pwr.fly = none → s.pwr.req = some q → 0 < q.target →
    s.tilesOut = true → exec .entryCommit s = .next s) ∧
  (∀ (s : State) (q : ChipReq), s.isUp = true → s.pwr.fly = some q → s.mayEnter = true → s.pwr.nextState ≤ 1 →
    ∃ t, exec .stateEntered s = .next t ∧ t.pwr.state = s.pwr.nextState ∧ t.pwr.lastCause = q.cause ∧ t.pwr.window = false ∧
      t.mem = s.mem) ∧
  (∀ (s : State) (q : ChipReq), s.isUp = true → s.pwr.fly = some q → s.pwr.req = none → s.mayEnter = true → s.pwr.nextState = 2 →
    s.pwr.state < 2 → s.flag F.EAR_PREROLL_STATUS_UNLOADING = false →
    ∃ t, exec .stateEntered s = .next t ∧ t.pwr.state = 2 ∧ t.pwr.lastCause = q.cause ∧
      t.pwr.timerArmed = (s.get F.PWR_SLEEP_TIMER_MS != 0) ∧ t.flag F.EAR_PREROLL_STATUS_SESSION = true ∧ t.ear.coding = true ∧
      t.flag F.SPN_STATUS_PLL_LOCK = false ∧ t.get F.SPN_STATUS_DRIVE = 0 ∧ t.mem = s.mem) ∧
  ∀ (s : State) (q : ChipReq), s.isUp = true → s.pwr.fly = some q → s.mayEnter = true → s.pwr.nextState = 3 →
    s.flag F.SUP_STATUS_BRACE = false → ∃ t, exec .stateEntered s = .next t ∧ t.pwr.state = 3 ∧ t.pwr.lastCause = q.cause ∧
      t.span.running = false ∧ t.span.carrying = !s.span.clearing ∧ (s.span.running = true → t.span.atStop = s.span.count) ∧
      t.flag F.EAR_STATUS_MICVDD_ON = false ∧ t.flag F.VRC_STATUS_RUNNING = false ∧ t.sup.armed = false ∧ t.mem = s.mem

/-- WAKE_IN, SLEEP_TIMER, WAKE_RESAMPLE and BANK_RESTORED (R164 to R166, R478, R485). -/
def Obligations.WakeSources : Prop :=
  (∀ (s : State) (l : Bool), s.powered = true → s.bankOk 0 = true → s.get F.PWR_WAKE_CFG_WAKEIN_MODE = 3 →
    ∃ t, exec (.wakeIn l) s = .next t ∧ t.pwr = { s.pwr with wakePin := some l } ∧
      t.get F.PWR_WAKE_STATUS_WAKEIN_LEVEL = b2n (l != s.flag F.PWR_WAKE_CFG_WAKEIN_POL) ∧
      OnlyRegs s t [R.PWR_WAKE_STATUS.at 0] ∧ t.mem = s.mem) ∧
  (∀ (s : State) (l : Bool), s.isUp = true → s.pwr.state = 2 → s.ChipQuiet → s.bankOk 0 = true → s.wakeActive = false →
    s.get F.PWR_WAKE_CFG_WAKEIN_MODE = 0 → s.wakeTarget 1 < 2 → l ≠ s.flag F.PWR_WAKE_CFG_WAKEIN_POL →
    ∃ t, exec (.wakeIn l) s = .next t ∧ t.pwr.fly = some { target := s.wakeTarget 1, cause := 2 } ∧ t.pwr.state = 2) ∧
  (∀ s : State, s.isUp = true → s.pwr.state = 2 → s.ChipQuiet → s.pwr.timerArmed = true → s.wakeTarget 2 < 2 →
    ∃ t, exec .sleepTimer s = .next t ∧ t.pwr.fly = some { target := s.wakeTarget 2, cause := 2 } ∧ t.pwr.timerArmed = false ∧
      t.flag F.PWR_WAKE_STATUS_TIMER_FIRED = true ∧ t.mem = s.mem) ∧
  (∀ s : State, s.isUp = true → s.pwr.state = 2 → s.ChipQuiet → s.flag F.PWR_WAKE_STATUS_TIMER_FIRED = true →
    s.get F.PWR_WAKE_CFG_WAKEIN_MODE = 3 → s.wakeTarget 2 < 2 →
    ∃ t, exec .wakeResample s = .next t ∧ t.pwr.fly = some { target := s.wakeTarget 2, cause := 2 } ∧ t.mem = s.mem) ∧
  ∀ (s : State) (b : Bank) (v33 : Bool), s.powered = true → b ≠ .a → s.bankOk (bankNo b) = false →
    ∃ t, exec (.bankRestored b v33) s = .next t ∧ t.bankOk (bankNo b) = true ∧
      (bankSelects b = true → t.bankClassOf b = if v33 then 2 else 1) ∧ (∀ c, c ≠ b → t.bankClassOf c = s.bankClassOf c) ∧
      t = { s with sup := { s.sup with bankLow := t.sup.bankLow, bankClass := t.sup.bankClass } } ∧
      ∀ k, k ≠ bankNo b → t.bankOk k = s.bankOk k

/-- BRACE_ENTER in Watch and within Brace, BRACE_EXIT with both rails released and with one, DIP_LONG, CORE_BROWNOUT, BROWNOUT_DELAY and
STORM_END (R177 to R183, R191, R192). -/
def Obligations.BraceCycle : Prop :=
  (∀ (s : State) (c : Byte), s.isUp = true → s.pwr.state = 2 → s.flag F.SUP_STATUS_BRACE = false → 1000 + 4 * c.toNat < 1660 →
    s.cim.jobs = [] → s.barn.bays = [] →
    ∃ t, exec (.braceEnter .aon c) s = .next t ∧ t.flag F.SUP_STATUS_BRACE = true ∧ t.flag F.SUP_STATUS_AON_WARN = true ∧
      t.get F.SUP_COUNTS_BRACES = satAdd F.SUP_COUNTS_BRACES.width (s.get F.SUP_COUNTS_BRACES) 1 ∧
      t.get F.SUP_VMON_AON_NOW = c.toNat ∧ t.get F.SUP_VMON_AON_MIN = c.toNat ∧ t.get F.SUP_VMON_CORE_MIN = 0xFF ∧
      t.sup.braceAt = s.span.count ∧ t.flag F.VRC_STATUS_LIGHT = false) ∧
  (∀ (s : State) (c : Byte), s.isUp = true → s.pwr.state ≠ 3 → s.sup.armed = true → s.flag F.SUP_STATUS_BRACE = true →
    500 + 2 * c.toNat < 700 → ∃ t, exec (.braceEnter .core c) s = .next t ∧ t.get F.SUP_VMON_CORE_NOW = c.toNat ∧
      t.get F.SUP_VMON_CORE_MIN = min c.toNat (s.get F.SUP_VMON_CORE_MIN) ∧ t.flag F.SUP_STATUS_CORE_WARN = true ∧
      t = { s with regs := t.regs, sup := { s.sup with coreCode := c.toNat } } ∧ OnlyRegs s t [R.SUP_VMON.at 0, R.SUP_STATUS.at 0]) ∧
  (∀ (s : State) (rail : Rail) (c : Byte), s.powered = true → s.pwr.state ≠ 3 → belowWarn rail c.toNat = false →
    exec (.braceEnter rail c) s = .next s) ∧
  (∀ (s : State) (c a cn an : Byte), s.flag F.SUP_STATUS_BRACE = true → 720 < 500 + 2 * cn.toNat → 1700 < 1000 + 4 * an.toNat →
    s.cim.jobs = [] → s.sup.deferred = [] → s.barnReady = false →
    ∃ t, exec (.braceExit c a cn an) s = .next t ∧ t.flag F.SUP_STATUS_BRACE = false ∧ t.flag F.SUP_STATUS_CORE_WARN = false ∧
      t.flag F.SUP_STATUS_AON_WARN = false ∧ t.get F.SUP_VMON_CORE_NOW = cn.toNat ∧
      t.get F.SUP_VMON_CORE_MIN = min cn.toNat (min c.toNat (s.get F.SUP_VMON_CORE_MIN)) ∧
      t.get F.SUP_DIP_TICKS = min (s.span.count - s.sup.braceAt).toNat (2 ^ F.SUP_DIP_TICKS.width - 1)) ∧
  (∀ (s : State) (c a cn an : Byte), s.flag F.SUP_STATUS_BRACE = true → s.flag F.SUP_STATUS_CORE_WARN = true → s.sup.armed = true →
    500 + 2 * cn.toNat ≤ 720 → 1700 < 1000 + 4 * an.toNat →
    ∃ t, exec (.braceExit c a cn an) s = .next t ∧ t.flag F.SUP_STATUS_BRACE = true ∧ t.flag F.SUP_STATUS_CORE_WARN = true ∧
      t.flag F.SUP_STATUS_AON_WARN = false ∧ t.log = s.log ∧ OnlyRegs s t [R.SUP_VMON.at 0, R.SUP_STATUS.at 0] ∧ t.mem = s.mem) ∧
  (∀ s : State, s.flag F.SUP_STATUS_BRACE = true → s.resets = true → ∃ t, exec .dipLong s = .next t ∧ t.boot.phase = .due ∧
    t.boot.cause = 6 ∧ (∀ d < 24, t.level d = 0) ∧ t.flag F.VRC_STATUS_RUNNING = false ∧
    t.get F.SUP_COUNTS_LONG = satAdd F.SUP_COUNTS_LONG.width (s.get F.SUP_COUNTS_LONG) 1) ∧
  (∀ (s : State) (c : Byte), s.powered = true → 500 + 2 * c.toNat ≤ 660 →
    (s.sup.armed = true ∧ s.resets = true ∨ s.dipJustDue = true) →
    ∃ t, exec (.coreBrownout c) s = .next t ∧ t.boot.phase = .browned ∧ (∀ d < 24, t.level d = 0) ∧ t.sup.armed = false ∧
      t.flag F.VRC_STATUS_RUNNING = false ∧ t.pwr.flight = []) ∧
  (∀ s : State, s.boot.phase = .browned →
    exec .brownoutDelay s = .next { s with boot := { s.boot with phase := .due, cause := 7 } }) ∧
  ∀ s : State, s.flag F.SUP_STATUS_STORM = true → ∃ t, exec .stormEnd s = .next t ∧ t.flag F.SUP_STATUS_STORM = false ∧
    (∀ q ∈ t.pwr.forced, q.cause ≠ 4) ∧ t.mem = s.mem

/-- PHASE_OPEN, SENSE_FAILED, LIGHT_LOAD_ENTER and LIGHT_LOAD_EXIT on a period that fails, or meets, the rule's test (R185 to R187, R196 to
R198, R200, R201). -/
def Obligations.PhaseLosses : Prop :=
  (∀ (s : State) (n : Fin 4) (p : RailPeriod), s.flag F.VRC_STATUS_RUNNING = true → s.get F.VRC_STATUS_SHED = 0 →
    s.get F.VRC_STATUS_BLIND = 0 → s.openPeriod p n = true →
    ∃ t, exec (.phaseOpen n p) s = .next t ∧ t.get F.VRC_STATUS_SHED = 2 ^ n.val ∧ t.get F.VRC_STATUS_BLIND = 0 ∧
      t.get F.VRC_STATUS_BUDGET_A = 54 ∧ t.getAt F.VRC_PHASEn_STATE n = 1 ∧ t.log = (s.ev 0x0310 n).log ∧ t.mem = s.mem) ∧
  (∀ (s : State) (n : Fin 4) (p : RailPeriod), s.flag F.VRC_STATUS_RUNNING = true → s.get F.VRC_STATUS_SHED = 0 →
    s.get F.VRC_STATUS_BLIND = 0 → s.sensePeriod p n = true →
    ∃ t, exec (.senseFailed n p) s = .next t ∧ t.get F.VRC_STATUS_BLIND = 2 ^ n.val ∧ t.get F.VRC_STATUS_SHED = 0 ∧
      t.get F.VRC_STATUS_BUDGET_A = 63 ∧ t.getAt F.VRC_PHASEn_STATE n = 2 ∧ t.log = (s.ev 0x0312 n).log ∧ t.mem = s.mem) ∧
  (∀ (s : State) (p : RailPeriod), s.flag F.VRC_STATUS_RUNNING = true → s.get F.VRC_STATUS_SHED = 1 → s.get F.VRC_STATUS_BLIND = 0 →
    s.flag F.VRC_STATUS_CLAMP = false → s.openPeriod p 1 = true →
    ∃ t, exec (.phaseOpen 1 p) s = .next t ∧ t.get F.VRC_STATUS_SHED = 3 ∧ t.get F.VRC_STATUS_BUDGET_A = 36 ∧
      t.flag F.VRC_STATUS_CLAMP = true ∧ t.get F.VRC_STATUS_SHARE = 0 ∧ t.mem = s.mem) ∧
  (∀ (s : State) (p : RailPeriod), s.isUp = true → s.flag F.VRC_STATUS_RUNNING = true → s.get F.VRC_STATUS_SHED = 3 →
    s.get F.VRC_STATUS_BLIND = 0 → s.openPeriod p 2 = true →
    ∃ t, exec (.phaseOpen 2 p) s = .next t ∧ t.boot.phase = .due ∧ t.boot.cause = 8 ∧ t.get F.VRC_STATUS_SHED = 7 ∧
      (∀ d < 24, t.level d = 0)) ∧
  (∀ (s : State) (p : RailPeriod), s.flag F.VRC_STATUS_RUNNING = true → s.flag F.VRC_CFG_LIGHT_EN = true →
    s.flag F.VRC_STATUS_LIGHT = false → s.totalAmps p < 3 * s.ampDen →
    ∃ t, exec (.lightLoadEnter p) s = .next t ∧ t.flag F.VRC_STATUS_LIGHT = true ∧
      t = { s with regs := t.regs, free := t.free } ∧ OnlyRegs s t (R.VRC_STATUS.at 0 :: (List.range 4).map R.VRC_PHASEn.at)) ∧
  ∀ (s : State) (n : Fin 4) (p : RailPeriod), s.flag F.VRC_STATUS_RUNNING = true → s.flag F.VRC_STATUS_LIGHT = true →
    4 * s.ampDen ≤ s.totalAmps p → ∃ t, exec (.lightLoadExit p) s = .next t ∧ t.flag F.VRC_STATUS_LIGHT = false ∧
      (bitOf (s.get F.VRC_STATUS_SHED) n = false → bitOf (s.get F.VRC_STATUS_BLIND) n = false → t.getAt F.VRC_PHASEn_STATE n = 0) ∧
      t = { s with regs := t.regs, free := t.free } ∧ OnlyRegs s t (R.VRC_STATUS.at 0 :: (List.range 4).map R.VRC_PHASEn.at)

/-- OC_LIMIT: a period that truncates is counted always and logged once a window; another is not (R185, R203). -/
def Obligations.OvercurrentCount : Prop :=
  (∀ (s : State) (n : Fin 5) (p : RailPeriod), s.flag F.VRC_STATUS_RUNNING = true → s.truncates p n = true →
    elGet 0 s.log.windows 0x0314 = s.span.count.toNat / 1024 + 1 →
    ∃ t, exec (.ocLimit n p) s = .next t ∧
      t.get F.VRC_COUNTS_OC = satAdd F.VRC_COUNTS_OC.width (s.get F.VRC_COUNTS_OC) 1 ∧
      t = { s with regs := t.regs, free := t.free } ∧ OnlyRegs s t (R.VRC_COUNTS.at 0 :: (List.range 4).map R.VRC_PHASEn.at)) ∧
  (∀ (s : State) (n : Fin 5) (p : RailPeriod), s.flag F.VRC_STATUS_RUNNING = true → s.truncates p n = true → s.span.running = true →
    s.log.intake.length < 32 → elGet 0 s.log.windows 0x0314 ≠ s.span.count.toNat / 1024 + 1 →
    ∃ t, exec (.ocLimit n p) s = .next t ∧
      t.get F.VRC_COUNTS_OC = satAdd F.VRC_COUNTS_OC.width (s.get F.VRC_COUNTS_OC) 1 ∧
      t.log.intake = s.log.intake ++
        [⟨s.span.count, 0x0314, BitVec.ofNat 16 (s.get F.LOG_NEXT_SEQ), BitVec.ofNat 32 n.val⟩] ∧
      t.get F.LOG_NEXT_SEQ = (s.get F.LOG_NEXT_SEQ + 1) % 65536 ∧
      elGet 0 t.log.windows 0x0314 = s.span.count.toNat / 1024 + 1 ∧ t = { s with regs := t.regs, log := t.log, free := t.free } ∧
      OnlyRegs s t (R.VRC_COUNTS.at 0 :: R.LOG_NEXT.at 0 :: R.LOG_STATUS.at 0 :: (List.range 4).map R.VRC_PHASEn.at)) ∧
  ∀ (s : State) (n : Fin 5) (p : RailPeriod), s.flag F.VRC_STATUS_RUNNING = true → s.truncates p n = false →
    ∃ t, exec (.ocLimit n p) s = .next t ∧ t = { s with regs := t.regs, free := t.free } ∧
      OnlyRegs s t ((List.range 4).map R.VRC_PHASEn.at)

/-- RAIL_THROTTLE_STEP, VSENSE_LOCAL, SOFT_START_DONE, SOFT_START_RETRY, ISEN_CAL and BANK_UNDERVOLT (R188, R199, R202, R205, R478, R485). The code
that the monitor reads of the rail once it is up is the model's choice (log 135). -/
def Obligations.RailControl : Prop :=
  (∀ (s : State) (p : RailPeriod), s.flag F.VRC_STATUS_RUNNING = true → s.get F.VRC_STATUS_BUDGET_A * s.ampDen ≤ s.totalAmps p →
    ∃ t, exec (.railThrottleStep p) s = .next t ∧ t.get F.VRC_STATUS_SHARE = s.get F.VRC_STATUS_SHARE - 2 ∧
      t = { s with regs := t.regs, free := t.free } ∧ OnlyRegs s t (R.VRC_STATUS.at 0 :: (List.range 4).map R.VRC_PHASEn.at)) ∧
  (∀ (s : State) (p : RailPeriod), s.flag F.VRC_STATUS_RUNNING = true →
    10 * s.totalAmps p < 9 * s.get F.VRC_STATUS_BUDGET_A * s.ampDen →
    ∃ t, exec (.railThrottleStep p) s = .next t ∧ t.get F.VRC_STATUS_SHARE = min 16 (s.get F.VRC_STATUS_SHARE + 1) ∧
      t = { s with regs := t.regs, free := t.free } ∧ OnlyRegs s t (R.VRC_STATUS.at 0 :: (List.range 4).map R.VRC_PHASEn.at)) ∧
  (∀ s : State, s.flag F.VRC_STATUS_RUNNING = true → s.flag F.VRC_STATUS_VSENSE_LOCAL = false →
    ∃ t, exec .vsenseLocal s = .next t ∧ t.flag F.VRC_STATUS_VSENSE_LOCAL = true ∧ t.log = (s.ev 0x0315 0).log ∧
      ChangesLogged s t [R.VRC_STATUS.at 0]) ∧
  (∀ s : State, s.powered = true → s.flag F.VRC_STATUS_RUNNING = true → s.sup.armed = false →
    ∃ t, exec .softStartDone s = .next t ∧ t.sup = { s.sup with armed := true, coreCode := 125 } ∧
      t.flag F.SUP_STATUS_CORE_ARMED = true ∧ t = { s with sup := t.sup, regs := t.regs } ∧ OnlyRegs s t [R.SUP_STATUS.at 0]) ∧
  (∀ s : State, s.powered = true → s.flag F.VRC_STATUS_RUNNING = true → s.sup.armed = false →
    ∃ t, exec .softStartRetry s = .next t ∧ t.flag F.VRC_STATUS_RUNNING = false ∧ t.sup.calibrated = [] ∧
      t = { s with sup := t.sup, regs := t.regs } ∧
      OnlyRegs s t (R.VRC_STATUS.at 0 :: R.SUP_STATUS.at 0 :: (List.range 4).map R.VRC_PHASEn.at)) ∧
  (∀ (s : State) (n : Fin 4) (c : BitVec 10), s.powered = true → s.flag F.SUP_STATUS_BRACE = false →
    (s.railWanted = true ∧ s.flag F.VRC_STATUS_RUNNING = false ∨
      s.flag F.VRC_STATUS_RUNNING = true ∧ s.flag F.VRC_STATUS_LIGHT = true ∧ s.getAt F.VRC_PHASEn_STATE n ≠ 0) →
    176 ≤ c.toNat → c.toNat ≤ 336 →
    ∃ t, exec (.isenCal n { hiZ := true, codes16 := List.replicate 16 c, codes64 := List.replicate 64 c }) s = .next t ∧
      signed 16 (t.getAt F.VRC_OFFSETn_OFFSET n) = (c.toNat : Int) - 256 ∧ t.getAt F.VRC_OFFSETn_SOURCE n = 1 ∧
      t.getAt F.VRC_PHASEn_ISEN n = c.toNat ∧ t.calLevel (.isen n) = 0 ∧
      (s.flag F.VRC_STATUS_RUNNING = false → t.flag F.VRC_STATUS_RUNNING = (List.range 4).all fun k => k == n.val || s.sup.calibrated.contains k)) ∧
  ∀ (s : State) (b : Bank), s.powered = true → s.bankOk (bankNo b) = true → b ≠ .a → b ≠ .phy →
    ∃ t, exec (.bankUndervolt b) s = .next t ∧ t.bankOk (bankNo b) = false ∧ t.bankClassOf b = 0 ∧
      (∀ c, c ≠ b → t.bankClassOf c = s.bankClassOf c) ∧ (∀ k, k ≠ bankNo b → t.bankOk k = s.bankOk k) ∧
      t = { s with sup := { s.sup with bankLow := t.sup.bankLow, bankClass := t.sup.bankClass } }

/-- MESH_BREAK, in Rest as well, CORE_GLITCH, AON_GLITCH, ROOT_CLOCK_FAULT and TEMP_SAMPLE (R457 to R461, R468). That the root of a clock
fault restarts by itself, and that a root that a detection in Rest starts runs on, are the model's choices (log 31, log 224). -/
def Obligations.AlarmLevels : Prop :=
  (∀ s : State, s.powered = true → s.NotAtRest → s.alarmLevel 0 = 1 → ∃ t, exec .meshBreak s = .next t ∧ t.log = (s.ev2 0x0E00 0 1).log ∧
    t.get F.SEC_ALARM_STATUS_SEEN = setBitOf (s.get F.SEC_ALARM_STATUS_SEEN) 0 true ∧
    ChangesLogged s t [R.SEC_ALARM_STATUS.at 0]) ∧
  (∀ s : State, s.powered = true → s.NotAtRest → s.sup.armed = true → s.alarmLevel 1 = 1 → ∃ t, exec .coreGlitch s = .next t ∧
    t.log = (s.ev2 0x0E00 1 1).log ∧ t.get F.SEC_ALARM_STATUS_SEEN = setBitOf (s.get F.SEC_ALARM_STATUS_SEEN) 1 true ∧
    ChangesLogged s t [R.SEC_ALARM_STATUS.at 0]) ∧
  (∀ s : State, s.powered = true → s.NotAtRest → s.alarmLevel 2 = 1 → ∃ t, exec .aonGlitch s = .next t ∧ t.log = (s.ev2 0x0E00 2 1).log ∧
    t.get F.SEC_ALARM_STATUS_SEEN = setBitOf (s.get F.SEC_ALARM_STATUS_SEEN) 2 true ∧
    ChangesLogged s t [R.SEC_ALARM_STATUS.at 0]) ∧
  (∀ s : State, s.powered = true → s.pwr.state ≠ 3 → s.flag F.SPN_STATUS_XT_STOPPED = false → s.alarmLevel 3 = 1 →
    ∃ t, exec (.rootClockFault false) s = .next t ∧ t.log = (s.ev2 0x0E00 3 1).log ∧
      t.get F.SEC_ALARM_STATUS_SEEN = setBitOf (s.get F.SEC_ALARM_STATUS_SEEN) 3 true ∧
      ChangesLogged s t [R.SEC_ALARM_STATUS.at 0]) ∧
  (∀ s : State, s.powered = true → s.pwr.state ≠ 3 → s.flag F.SPN_STATUS_XT_STOPPED = false → s.alarmLevel 3 = 1 →
    s.span.running = true → ∃ t, exec (.rootClockFault true) s = .next t ∧ t.span.running = false ∧ t.span.rootOn = true ∧
      t.span.carrying = !s.span.clearing ∧ t.span.atStop = s.span.count ∧ t.flag F.SPN_STATUS_ALIGNING = true ∧
      t.flag F.SPN_STATUS_PLL_LOCK = false ∧ t.mem = s.mem) ∧
  (∀ (s : State) (c : Byte), s.powered = true → s.NotAtRest → s.keys.hot = true → tempOut c = true → s.alarmLevel 4 = 1 →
    ∃ t, exec (.tempSample c) s = .next t ∧ t.log = (s.ev2 0x0E00 4 1).log ∧ t.get F.SEC_TEMP_TJ = c.toNat ∧
      t.get F.SEC_ALARM_STATUS_SEEN = setBitOf (s.get F.SEC_ALARM_STATUS_SEEN) 4 true ∧
      ChangesLogged s t [R.SEC_ALARM_STATUS.at 0, R.SEC_TEMP.at 0]) ∧
  (∀ (s : State) (c : Byte), s.powered = true → (s.keys.hot = false ∨ tempOut c = false) →
    ∃ t, exec (.tempSample c) s = .next t ∧ t.get F.SEC_TEMP_TJ = c.toNat ∧ t.keys = { s.keys with hot := tempOut c } ∧
      t = { s with keys := t.keys, regs := t.regs } ∧ OnlyRegs s t [R.SEC_TEMP.at 0]) ∧
  (∀ s : State, s.isUp = true → s.pwr.state = 3 → s.alarmLevel 0 = 1 → ∃ t, exec .meshBreak s = .next t ∧ t.span.rootOn = true ∧
    t.get F.SPN_STATUS_DRIVE = 1 ∧ t.flag F.SPN_STATUS_ALIGNING = s.span.carrying ∧
    t.get F.SEC_ALARM_STATUS_SEEN = setBitOf (s.get F.SEC_ALARM_STATUS_SEEN) 0 true ∧
    t.span = { s.span with rootOn := true } ∧ t.mem = s.mem) ∧
  (∀ s : State, s.powered = true → s.alarmLevel 0 = 2 → s.get F.SEC_ALARM_STATUS_LEVEL < 2 →
    (∀ p < 8, (s.port p).run = none) → ∃ t, exec .meshBreak s = .next t ∧ t.get F.SEC_ALARM_STATUS_LEVEL = 2 ∧
      t.get F.SEC_ALARM_STATUS_FIRST_SOURCE = 0 ∧ t.disp.chans = [] ∧ t.fab.reissues = [] ∧ t.barn.waiting = [] ∧
      (∀ st < 96, (elGet {} t.fab.stalls st).tile = none ∧ (elGet {} t.fab.stalls st).cut = none) ∧
      t.ear.clk0 = false ∧ t.ear.clk1 = false ∧ t.get F.CAM_STATUS_CAM_EN = 0 ∧ t.flag F.EAR_PREROLL_STATUS_SESSION = false ∧
      t.boot.phase = (if s.boot.phase = .inStart then .alarmed else s.boot.phase) ∧ t.mem = s.mem) ∧
  ∀ s : State, s.powered = true → s.alarmLevel 0 = 3 → s.get F.SEC_ALARM_STATUS_LEVEL = 2 →
    ∃ t, exec .meshBreak s = .next t ∧ t.boot.phase = .zeroise ∧ t.get F.SEC_ALARM_STATUS_LEVEL = 3 ∧
      t.get F.SEC_ALARM_STATUS_FIRST_SOURCE = 0 ∧ t.flag F.SEC_KEYS_ZEROISE_PENDING = true ∧ t.link.session = 0 ∧
      t.flag F.EAR_PREROLL_STATUS_SESSION = false ∧ (s.isUp = true → s.pwr.state = 3 → t.span.rootOn = true) ∧ t.mem = s.mem

/-- ZEROISE_ERASE_DONE, L3_FILL_DONE and ZEROISE_HOLD_END (R460, R469). That an L3 of BOOT_HOLD leads back into it is the model's choice (log 211). -/
def Obligations.ZeroiseSequence : Prop :=
  (∀ (s : State) (l : List (Fin 4)), s.boot.phase = .zeroise → s.keys.erased = false →
    ∃ t, exec (.zeroiseEraseDone l) s = .next t ∧ t.keys.identity = [] ∧ t.keys.group = [] ∧ t.keys.erased = true ∧
      t.get F.SEC_KEYS_IDENTITY = 0 ∧ t.get F.SEC_KEYS_GROUP = 0 ∧ t.get F.SEC_KEYS_GROUP_TG = 0 ∧
      t.flag F.SEC_KEYS_ZEROISE_PENDING = false ∧ (∀ k < 16, t.getAt F.SEC_ID_PUBk_DATA k = 0) ∧
      (∀ k ∈ l, k.val ∈ t.keys.killed) ∧ t.boot = s.boot) ∧
  (∀ s : State, s.Inv → s.boot.phase = .zeroise → s.keys.filled = false → s.keys.erased = false →
    s.flag F.PEN_STATUS_WIPING = false → ∃ t, exec .l3FillDone s = .next t ∧ t.keys = { s.keys with filled := true } ∧
      (∀ a < 0x1000000, s.level (12 + a / 0x400000) = 2 → t.mem.read .loft a 1 = [0]) ∧
      (∀ a, (a < 0x4000 ∨ 0x5000 ≤ a) → t.mem.read .yard a 1 = [0]) ∧
      (∀ a, 0x4000 ≤ a → a < 0x5000 → t.mem.read .yard a 1 = s.mem.read .yard a 1) ∧
      t = { s with mem := t.mem, keys := t.keys }) ∧
  (∀ s : State, s.boot.phase = .zeroise → s.keys.filled = false → s.keys.erased = true → s.flag F.PEN_STATUS_WIPING = false →
    ∃ t, exec .l3FillDone s = .next t ∧ t.keys.filled = true ∧ (∀ d < 24, t.level d = 0) ∧ t.sup.armed = false ∧
      t.flag F.VRC_STATUS_RUNNING = false ∧ t.boot = s.boot) ∧
  (∀ (s : State) (l : List (Fin 4)), s.boot.phase = .zeroise → s.keys.filled = true → s.keys.erased = false →
    ∃ t, exec (.zeroiseEraseDone l) s = .next t ∧ (∀ d < 24, t.level d = 0) ∧ t.flag F.VRC_STATUS_RUNNING = false) ∧
  (∀ s : State, s.boot.phase = .zeroise → s.keys.filled = true → s.keys.erased = true → s.flag F.IMG_BOOT_HOLD = false →
    exec .zeroiseHoldEnd s = .next { s with boot := { s.boot with phase := .due, cause := 3 } }) ∧
  ∀ s : State, s.boot.phase = .zeroise → s.keys.filled = true → s.keys.erased = true → s.flag F.IMG_BOOT_HOLD = true →
    ∃ t, exec .zeroiseHoldEnd s = .next t ∧ t.boot = { s.boot with phase := .hold } ∧ t.mem = s.mem

/-- OTP_STAGE, LC_REQUEST, KEY_INSTALL and ERASE_GROUP by debug (R451, R452, R456, R469; 06 R179). -/
def Obligations.KeysAndLifecycle : Prop :=
  (∀ (s : State) (k : Fin 16) (v : Word), s.coreOn = true → s.debugRegs = true → s.get F.SEC_LIFECYCLE_STATE = 0 →
    s.flag F.SEC_LIFECYCLE_PENDING = false → ∃ t, exec (.otpStage .debug k v) s = .next t ∧
      elGet 0 t.keys.staged k = v ∧ (∀ j, j ≠ k.val → elGet 0 t.keys.staged j = elGet 0 s.keys.staged j) ∧
      t = { s with keys := { s.keys with staged := t.keys.staged } }) ∧
  (∀ (s : State) (v : Word), s.coreOn = true → s.debugRegs = true → s.secured = false → s.flag F.SUP_STATUS_BRACE = false →
    s.flag F.SEC_LIFECYCLE_PENDING = false → s.get F.SEC_LIFECYCLE_STATE = 1 → F.SEC_LC_REQ_KEY.of v = 0x4C43 →
    F.SEC_LC_REQ_TARGET.of v = 2 → ∃ t, exec (.lcRequest .debug v []) s = .next t ∧ t.get F.SEC_LIFECYCLE_NEXT = 2 ∧
      t.flag F.SEC_LIFECYCLE_PENDING = true ∧ t.get F.SEC_LIFECYCLE_STATE = 1 ∧ t.log = (s.ev 0x0E10 2).log ∧
      ChangesLogged s t [R.SEC_LIFECYCLE.at 0]) ∧
  (∀ (s : State) (v : Word) (h : Nat → Word), s.coreOn = true → s.debugRegs = true → s.secured = false →
    s.flag F.SUP_STATUS_BRACE = false → s.flag F.SEC_LIFECYCLE_PENDING = false → s.get F.SEC_LIFECYCLE_STATE = 0 →
    F.SEC_LC_REQ_KEY.of v = 0x4C43 → F.SEC_LC_REQ_TARGET.of v = 1 →
    s.keys.staged = (List.range 16).map (fun k => (k, h k)) → (∃ k < 8, h k ≠ 0) →
    ∃ t, exec (.lcRequest .debug v []) s = .next t ∧ t.get F.SEC_LIFECYCLE_NEXT = 1 ∧
      t.flag F.SEC_LIFECYCLE_PENDING = true ∧ (∀ k < 16, t.reg R.SEC_OTP_HASHk k = h k) ∧
      ChangesLogged s t (R.SEC_LIFECYCLE.at 0 :: (List.range 16).map R.SEC_OTP_HASHk.at)) ∧
  (∀ (s : State) (v : Word) (l : List (Fin 4)), s.coreOn = true → s.debugRegs = true → s.secured = false →
    s.flag F.SUP_STATUS_BRACE = false → s.flag F.SEC_LIFECYCLE_PENDING = false → s.get F.SEC_LIFECYCLE_STATE = 1 →
    F.SEC_LC_REQ_KEY.of v = 0x4C43 → F.SEC_LC_REQ_TARGET.of v = 3 →
    ∃ t, exec (.lcRequest .debug v l) s = .next t ∧ t.get F.SEC_LIFECYCLE_NEXT = 3 ∧ t.flag F.SEC_LIFECYCLE_PENDING = true ∧
      t.keys.identity = [] ∧ t.keys.group = [] ∧ (∀ k ∈ l, k.val ∈ t.keys.killed) ∧ t.link.session = 0 ∧ t.mem = s.mem) ∧
  (∀ (s : State) (v : Word) (key : List Byte) (slot : Nat), s.coreOn = true → s.debugRegs = true → s.secured = false →
    s.flag F.SUP_STATUS_BRACE = false → s.get F.SEC_LIFECYCLE_STATE = 1 → s.keys.identity ≠ [] →
    F.SEC_KEY_CMD_KEY.of v = 0x4B49 → v.getLsbD 0 = true → v.getLsbD 1 = false → fieldAt s.envelope 0 2 = 1 →
    fieldAt s.envelope 2 2 ≠ 0 → fieldAt s.envelope 2 2 = s.get F.GATE_CFG_TRUST_GROUP → zeroAt s.envelope 4 12 = true →
    unwrap s.keys.identity s.serial s.envelope = some key → s.liveSlot 2 = some slot →
    ∃ t, exec (.keyInstall .debug v) s = .next t ∧ t.keys = { s.keys with group := key, grpSlot := slot } ∧
      t.get F.SEC_KEYS_GROUP = 1 ∧ t.get F.SEC_KEYS_GROUP_TG = fieldAt s.envelope 2 2 ∧ t.get F.SEC_KEYS_RESULT = 1 ∧
      t.log = (s.ev 0x0E11 (fieldAt s.envelope 2 2)).log ∧ t.mem = s.mem) ∧
  (∀ (s : State) (v : Word), s.coreOn = true → s.debugRegs = true → s.secured = false → s.flag F.SUP_STATUS_BRACE = false →
    s.get F.SEC_LIFECYCLE_STATE = 1 → s.keys.identity = [] → F.SEC_KEY_CMD_KEY.of v = 0x4B49 → v.getLsbD 0 = true →
    v.getLsbD 1 = false → ∃ t, exec (.keyInstall .debug v) s = .next t ∧ t.get F.SEC_KEYS_RESULT = 5 ∧
      t.log = (s.ev 0x0E12 5).log ∧ ChangesLogged s t [R.SEC_KEYS.at 0]) ∧
  (∀ (s : State) (v : Word) (failed : Bool), s.coreOn = true → s.debugRegs = true → s.secured = false →
    s.flag F.SUP_STATUS_BRACE = false → F.SEC_KEY_CMD_KEY.of v = 0x4B49 → v.getLsbD 0 = false → v.getLsbD 1 = true →
    ∃ t, exec (.eraseGroup .debug v failed) s = .next t ∧ t.keys.group = [] ∧ t.get F.SEC_KEYS_GROUP = 0 ∧
      t.get F.SEC_KEYS_GROUP_TG = 0 ∧ (failed = true → s.keys.grpSlot ∈ t.keys.killed) ∧
      (failed = false → t.keys = { s.keys with group := [] } ∧ OnlyRegs s t [R.SEC_KEYS.at 0]) ∧ t.mem = s.mem) ∧
  ∀ (s : State) (v : Word) (l : List (Fin 4)), s.coreOn = true → s.debugRegs = true → s.flag F.SUP_STATUS_BRACE = true →
    exec (.lcRequest .debug v l) s = .next { s with sup := { s.sup with deferred := s.sup.deferred ++ [.key (.lc v l)] } }

/-- EXTEST, SAMPLE_PRELOAD, HIGHZ, CLAMP, IDCODE, BYPASS, DBG_CHAL and DBG_UNLOCK (R463 to R466; 01 R24). -/
def Obligations.JtagPort : Prop :=
  (∀ s : State, s.powered = true → s.bankOk 0 = true → s.jtag.hold = true →
    exec .extest s = .next { s with jtag := { s.jtag with ir := 0x00 } } ∧
    exec .samplePreload s = .next { s with jtag := { s.jtag with ir := 0x01 } } ∧
    exec .highz s = .next { s with jtag := { s.jtag with ir := 0x03 } } ∧
    exec .clamp s = .next { s with jtag := { s.jtag with ir := 0x04 } }) ∧
  (∀ s : State, s.powered = true → s.bankOk 0 = true → s.jtag.hold = false → (∀ p < 8, (s.port p).run = none) →
    ∀ q ∈ [(Instr.extest, 0x00), (Instr.samplePreload, 0x01), (Instr.highz, 0x03), (Instr.clamp, 0x04)],
      ∃ t, exec q.1 s = .next t ∧ t.jtag = { s.jtag with ir := q.2, hold := true } ∧ t.ear.clk0 = false ∧
        t.ear.clk1 = false ∧ t.flag F.EAR_STATUS_MICVDD_ON = false ∧ t.get F.CAM_STATUS_CAM_EN = 0 ∧
        t.flag F.CAM_STATUS_HELD = true ∧ (∀ p < 8, s.portState p ≠ 4 → s.portState p ≠ 5 → t.portState p = 6) ∧ t.mem = s.mem) ∧
  (∀ s : State, s.powered = true → s.bankOk 0 = true →
    exec .bypass s = .next { s with jtag := { s.jtag with ir := 0xFF } } ∧
    exec .idcode s = .next { s with jtag := { s.jtag with ir := 0x02 }, resp := [0xAF, 0x09, 0x96, 0x10] } ∧
    ∃ t, exec .dbgChal s = .next t ∧ t.jtag.challenge = (List.range 32).map (Config.drbgByte s.free) ∧
      t.jtag = { s.jtag with ir := 0x10, challenge := t.jtag.challenge } ∧ t.resp = t.jtag.challenge ++ s.serial.reverse ∧
      t = { s with jtag := t.jtag, resp := t.resp, free := s.free + 1 }) ∧
  (∀ (s : State) (token : List Byte), s.powered = true → s.bankOk 0 = true → s.secured = false → s.tooSoon = false →
    s.get F.SEC_LIFECYCLE_STATE ≠ 2 → s.level 18 = 0 →
    ∃ t, exec (.dbgUnlock token) s = .next t ∧ t.flag F.SEC_DBG_STATUS_UNLOCKED = true ∧ t.get F.SEC_DBG_STATUS_SCOPE = 7 ∧
      t.get F.SEC_DBG_STATUS_FAILS = 0 ∧ t.flag F.SEC_DBG_STATUS_HELD = true ∧ t.jtag.failedAt = none ∧ t.jtag.ir = 0x11 ∧
      t.voteSlot 23 13 = 2 ∧ t.ear.clk0 = false ∧ t.flag F.EAR_PREROLL_STATUS_SESSION = false ∧ t.mem = s.mem) ∧
  (∀ (s : State) (token : List Byte), s.powered = true → s.bankOk 0 = true → s.secured = false → s.tooSoon = false →
    s.get F.SEC_LIFECYCLE_STATE = 2 → s.tokenGood token = true →
    ∃ t, exec (.dbgUnlock token) s = .next t ∧ t.flag F.SEC_DBG_STATUS_UNLOCKED = true ∧
      t.get F.SEC_DBG_STATUS_SCOPE = fieldAt token 2 2 ∧ t.get F.SEC_DBG_STATUS_FAILS = 0) ∧
  (∀ (s : State) (token : List Byte), s.powered = true → s.bankOk 0 = true → s.secured = false → s.tooSoon = false →
    s.get F.SEC_LIFECYCLE_STATE = 2 → s.tokenGood token = false → s.get F.SEC_DBG_STATUS_FAILS < 2 →
    ∃ t, exec (.dbgUnlock token) s = .next t ∧ t.get F.SEC_DBG_STATUS_FAILS = s.get F.SEC_DBG_STATUS_FAILS + 1 ∧
      t.jtag = { s.jtag with ir := 0x11, failedAt := some s.span.count } ∧
      t.log = (s.ev 0x0E21 (s.get F.SEC_DBG_STATUS_FAILS + 1)).log ∧
      t = { s with jtag := t.jtag, regs := t.regs, log := t.log } ∧
      OnlyRegs s t [R.LOG_NEXT.at 0, R.LOG_STATUS.at 0, R.SEC_DBG_STATUS.at 0]) ∧
  ∀ (s : State) (token : List Byte), s.powered = true → s.bankOk 0 = true → s.secured = false → s.tooSoon = true →
    s.get F.SEC_DBG_STATUS_FAILS < 2 → ∃ t, exec (.dbgUnlock token) s = .next t ∧
      t.get F.SEC_DBG_STATUS_FAILS = s.get F.SEC_DBG_STATUS_FAILS + 1 ∧ t.log = (s.ev 0x0E22 0).log ∧
      t.jtag.failedAt = some s.span.count ∧ t.get F.SEC_DBG_STATUS_UNLOCKED = s.get F.SEC_DBG_STATUS_UNLOCKED

/-- POWER_ON, AON_BROWNOUT, RESET_N and SEAL_TIMEOUT (R110, R111, R113, R114; 06 R182). -/
def Obligations.PowerAndReset : Prop :=
  (∀ s : State, ∃ t, exec .powerOn s = .next t ∧ t.boot.phase = .due ∧ t.boot.cause = 0 ∧ t.mem.nvm = s.mem.nvm ∧
    (s.programming = [] → t.cim.cells = s.cim.cells) ∧ t.keys.identity = s.keys.identity ∧ t.keys.group = s.keys.group ∧
    t.keys.killed = s.keys.killed ∧ t.span.count = 0 ∧ t.log.intake = [] ∧ (∀ d, t.level d = 0) ∧
    (∀ a n, t.mem.read .yard a n = List.replicate n 0) ∧ (∀ p < 4096, t.mem.plot .loft p = 3) ∧
    ∀ (r : RegDef) (i : Nat), regAt (r.at i) = some (r, i) → r.nonvolatile = 0 → t.reg r i = r.resetAt i) ∧
  (∀ s : State, s.powered = true → ∃ t, exec .aonBrownout s = .next t ∧ t.boot.phase = .down ∧ t.boot.cause = 2 ∧
    t.mem.nvm = s.mem.nvm ∧ t.keys.identity = s.keys.identity ∧ t.span.count = 0 ∧ (∀ d, t.level d = 0) ∧
    (∀ a n, t.mem.read .yard a n = List.replicate n 0)) ∧
  (∀ s : State, s.powered = true → s.bankOk 0 = true → s.boot.phase ≠ .zeroise → ∃ t, exec .resetN s = .next t ∧
    t.boot = { s.boot with phase := .due, cause := 1 } ∧ (∀ d < 24, t.level d = 0) ∧ t.flag F.VRC_STATUS_RUNNING = false ∧
    t.span = s.span ∧ t.mem.nvm = s.mem.nvm ∧ t.mem.yard = s.mem.yard) ∧
  ∀ s : State, s.boot.phase = .inStart → s.flag F.IMG_STATUS_SEALED = false → s.startSlot = 0 →
    ∃ t, exec .sealTimeout s = .next t ∧ t.boot.phase = .due ∧ t.boot.cause = 4 ∧
      t.get F.IMG_BOOT_FAILS_A = min 3 (s.get F.IMG_BOOT_FAILS_A + 1) ∧
      t.get F.IMG_BOOT_FAILS_B = s.get F.IMG_BOOT_FAILS_B ∧ (∀ d < 24, t.level d = 0)

/-- COLD_START and WARM_START: t0, BOOT_HOLD, failures, and entry to START_STATE (R89, R103, R106, R111, R113, R119, R120). -/
def Obligations.StartsBegin : Prop :=
  (∀ (s : State) (env : StartEnv), s.boot.phase = .due → coldCause s.boot.cause = true → env.stopAt = 1 →
    ∃ t, exec (.coldStart env) s = .next t ∧ t.boot.phase = .inStart ∧ t.boot.step = 1 ∧ t.boot.warm = false ∧
      t.get F.IMG_CAUSE_CAUSE = s.boot.cause ∧ t.get F.IMG_CAUSE_TYPE = 0 ∧ t.get F.IMG_STRAPS_BOOTSEL = env.bootsel.toNat ∧
      t.get F.STL_GROUP_CHIP_ID = env.chip.toNat ∧ (∀ d < 24, t.level d = 0) ∧ t.keys.identity = s.keys.identity ∧
      t.keys.group = s.keys.group ∧ (s.programming = [] → t.cim.cells = s.cim.cells) ∧ t.disp = {} ∧ t.mem.nvm = s.mem.nvm ∧
      (clearsAon s.boot.cause = true → t.span.count = 0 ∧ ∀ a n, t.mem.read .yard a n = List.replicate n 0) ∧
      (clearsAon s.boot.cause = false → t.span.count = s.span.count ∧
        ∀ a n, (a + n ≤ 0x4000 ∨ 0x5000 ≤ a) → t.mem.read .yard a n = s.mem.read .yard a n)) ∧
  (∀ (s : State) (env : StartEnv), s.boot.phase = .due → coldCause s.boot.cause = false → s.boot.cause < 256 → env.stopAt = 1 →
    ∃ t, exec (.warmStart env) s = .next t ∧ t.boot.phase = .inStart ∧ t.boot.step = 1 ∧ t.boot.warm = true ∧
      t.get F.IMG_CAUSE_CAUSE = s.boot.cause ∧ t.get F.IMG_CAUSE_TYPE = 1 ∧ t.get F.IMG_STRAPS_BOOTSEL = env.bootsel.toNat ∧
      (∀ d < 24, t.level d = 0) ∧ t.mem.nvm = s.mem.nvm ∧ t.span.count = s.span.count ∧ t.disp = {} ∧
      t.keys.staged = s.keys.staged ∧ t.log.intake = [] ∧
      ∀ a n, (a + n ≤ 0x4000 ∨ 0x5000 ≤ a) → t.mem.read .yard a n = s.mem.read .yard a n) ∧
  (∀ (s : State) (env : StartEnv), s.boot.phase = .inStart → s.boot.warm = false → s.boot.step = 3 → env.stopAt = 4 →
    env.aonBist = none → env.failing = [] → s.get F.SEC_LIFECYCLE_STATE = 0 → s.failed 23 = false → s.failed 21 = false →
    ∃ t, exec (.coldStart env) s = .next t ∧ t.boot.phase = .hold ∧ t.flag F.IMG_BOOT_HOLD = true ∧
      t.get F.IMG_BOOT_HOLD_CAUSE = 3 ∧ t.flag F.STW_NVM_GRANTED = true ∧ t.level 23 = 2 ∧ t.level 21 = 2 ∧
      ∀ a, (a < 0x4000 ∨ 0x5000 ≤ a) → t.mem.read .yard a 1 = [0]) ∧
  (∀ (s : State) (env : StartEnv), s.boot.phase = .inStart → s.boot.warm = false → s.boot.step = 4 → env.stopAt = 5 →
    s.startSlot = 0 → headValid (s.imgHead 0) = false → ∃ t, exec (.coldStart env) s = .next t ∧ t.boot.phase = .due ∧
      t.boot.cause = 4 ∧ t.get F.IMG_BOOT_FAILS_A = min 3 (s.get F.IMG_BOOT_FAILS_A + 1)) ∧
  (∀ (s : State) (env : StartEnv), s.boot.phase = .inStart → s.boot.step = 9 → env.stopAt = 10 → 5000 < env.sealMs →
    s.failed 23 = false → s.startSlot = 1 → ∃ t, exec (.warmStart env) s = .next t ∧ t.boot.phase = .due ∧ t.boot.cause = 4 ∧
      t.get F.IMG_BOOT_FAILS_B = min 3 (s.get F.IMG_BOOT_FAILS_B + 1)) ∧
  ∀ (s : State) (env : StartEnv), s.boot.phase = .inStart → s.boot.step = 11 → env.stopAt = 12 → s.failed 23 = false → s.pwr.wakeReq = none →
    s.pwr.held = [] → s.pwr.fly = none → s.pwr.req = none → s.boot.warmHeld = false → s.get F.IMG_STATUS_START_STATE = 0 →
    ∃ t, exec (.coldStart env) s = .next t ∧ t.boot.phase = .up ∧ t.boot.step = 12 ∧ t.pwr.state = 0 ∧ t.pwr.lastCause = 7 ∧
      ∀ d < 24, t.voteSlot d 9 = 0

/-- NVM_REQ, NVM_GRANT, NVM_RELEASE, STATE_AREA_WRITE, STATE_WRITE_DONE, STATE_WRITE_RETRY, CAL_INTERVAL_END and CORE_RESTORE
(R92, R94, R96, R97, R108, R109, R116, R121). -/
def Obligations.NvmAndStateArea : Prop :=
  (∀ s : State, s.bankOk 0 = true → s.flag F.IMG_STATUS_SEALED = true → ∃ t, exec .nvmReq s = .next t ∧
    t.flag F.STW_NVM_REQ = true ∧ t.sup = { s.sup with nvmAsked := true } ∧ t = { s with sup := t.sup, regs := t.regs } ∧
    OnlyRegs s t [R.STW_NVM.at 0]) ∧
  (∀ s : State, s.flag F.IMG_STATUS_SEALED = false → exec .nvmReq s = .next { s with sup := { s.sup with nvmAsked := true } }) ∧
  (∀ s : State, s.isUp = true → s.flag F.STW_NVM_REQ = true → s.flag F.STW_NVM_GRANTED = false → s.boot.writing = none →
    ∃ t, exec .nvmGrant s = .next t ∧ t.flag F.STW_NVM_GRANTED = true ∧
      t.get F.STW_NVM_GRANTS = min (s.get F.STW_NVM_GRANTS + 1) 255 ∧ ChangesRegs s t [R.STW_NVM.at 0]) ∧
  (∀ (s : State) (a : Nat) (bs : List Byte), s.boot.phase ≠ .hold → s.flag F.STW_NVM_GRANTED = true →
    a + bs.length ≤ 0x8100000 → ∃ t, exec (.nvmRelease [(a, bs)]) s = .next t ∧ t.flag F.STW_NVM_GRANTED = false ∧
      t.flag F.STW_NVM_REQ = false ∧ t.sup.nvmAsked = false ∧ (∀ i < bs.length, t.mem.nvmRead (a + i) 1 = [bs.getD i 0]) ∧
      ∀ b, (b < a ∨ a + bs.length ≤ b) → t.mem.nvmRead b 1 = s.mem.nvmRead b 1) ∧
  (∀ (s : State) (l : List (Nat × List Byte)), s.flag F.STW_NVM_GRANTED = false → ∃ t, exec (.nvmRelease l) s = .next t ∧
    t.flag F.STW_NVM_REQ = false ∧ t.sup = { s.sup with nvmAsked := false } ∧ t.mem = s.mem) ∧
  (∀ s : State, s.nvmFree = true → s.boot.retryBank = none → s.boot.wearDue = true →
    ∃ t, exec .stateAreaWrite s = .next t ∧ t = { s with mem := { s.mem with nvm := t.mem.nvm }, boot := t.boot } ∧
      t.boot.wearDue = false ∧ t.boot.calDue = false ∧ t.boot.newest = s.boot.newest ∧
      let b := match s.boot.newest with | some k => 1 - k | none => 0
      t.boot.writing = some b ∧ t.mem.nvmRead (bankBase b) 64 = List.replicate 64 0xFF ∧
      t.mem.nvmRead (bankBase b + 0x40) s.bankImage.length = s.bankImage ∧
      ∀ a, (a < bankBase b ∨ bankBase b + 0x80000 ≤ a) → t.mem.nvmRead a 1 = s.mem.nvmRead a 1) ∧
  (∀ (s : State) (b : Fin 2), s.boot.writing = some b.val → s.bankOk 1 = true → s.boot.wrote = false →
    ∃ t, exec (.stateWriteDone true) s = .next t ∧ t.boot.newest = some b.val ∧ t.boot.writing = none ∧
      t.flag F.IMG_STATE_VALID = s.flag F.IMG_STATE_VALID ∧ t.get F.IMG_STATE_BANK = b ∧
      t.get F.IMG_STATE_WR_WRITES = min (s.get F.IMG_STATE_WR_WRITES + 1) 65535 ∧
      let seq := ((match s.boot.newest with | some k => s.bankSeq k | none => 0) + 1) % 2 ^ 32
      t.get F.IMG_STATE_SEQ = seq % 2 ^ 24 ∧
      t.mem.nvmRead (bankBase b) 64 = bankHeader (s.flag F.IMG_STATE_WEAR_LOST) seq (s.bankBody b) ∧
      ∀ a, (a < bankBase b ∨ bankBase b + 64 ≤ a) → t.mem.nvmRead a 1 = s.mem.nvmRead a 1) ∧
  (∀ (s : State) (b : Fin 2), s.boot.writing = some b.val → s.boot.again = false → s.boot.wrote = false →
    ∃ t, exec (.stateWriteDone false) s = .next t ∧ t.boot = { s.boot with writing := none, retryBank := some b.val } ∧
      t.get F.IMG_STATE_WR_FAILS = min (s.get F.IMG_STATE_WR_FAILS + 1) 255 ∧ t.log = (s.ev 0x0112 b).log ∧ t.mem = s.mem) ∧
  (∀ (s : State) (b : Fin 2), s.boot.retryBank = some b.val → s.nvmFree = true → ∃ t, exec .stateWriteRetry s = .next t ∧
    t.boot.writing = some b.val ∧ t.boot.again = true ∧ t.boot.retryBank = none ∧
    t.mem.nvmRead (bankBase b + 0x40) s.bankImage.length = s.bankImage) ∧
  (∀ s : State, s.boot.calChanged = false → exec .calIntervalEnd s = .next { s with boot := { s.boot with calTimer := false } }) ∧
  (∀ s : State, s.boot.calChanged = true → s.flag F.SUP_STATUS_BRACE = false → exec .calIntervalEnd s =
    .next { s with boot := { s.boot with calTimer := false, calChanged := false, calDue := true } }) ∧
  ∀ s : State, s.isUp = true → s.level 23 ≠ 2 → s.inFlight 23 = some 2 → s.pwr.restored = false →
    s.flag F.STW_NVM_GRANTED = false → s.bankOk 1 = true →
    (∀ id ∈ [3, 4, 9, 10, 12, 13], s.secGood (s.get F.IMG_BOOT_ACTIVE_SLOT) (s.imgHead (s.get F.IMG_BOOT_ACTIVE_SLOT)) id = true) →
    ∃ t, exec .coreRestore s = .next t ∧ t.pwr.restored = true ∧ t.get F.STW_THROTTLE_LEVEL = 0 ∧ t.mem = s.mem ∧
      ∀ i < 2048, t.armed i = true → (t.ring i).ii = t.di i ∧ (t.ring i).finished = []

/-- MOVI, ADD, SUB, MUL, AND, OR, SHIFT and CMP (R212, R213), and the faults of a bad word (R228). -/
def Obligations.YardArithmetic : Prop :=
  (∀ (s : State) (i : Fin 16) (w : Nat), aluOk w = true →
    ∀ q ∈ ([(.add i, 0x06, 1, fun a b => a + b), (.sub i, 0x07, 1, fun a b => a - b), (.mul i, 0x08, 4, fun a b => a * b),
        (.and i, 0x09, 1, fun a b => a &&& b), (.or i, 0x0A, 1, fun a b => a ||| b)] :
        List (Instr × Nat × Nat × (Word → Word → Word))),
      s.atInstr i q.2.1 q.2.2.1 w → ∃ t, exec q.1 s = .next t ∧ ChangesSlot s t i ∧ SlotKeeps (s.slot i) (t.slot i) ∧
        SlotBehind (s.slot i) (t.slot i) q.2.2.1 ∧ (t.slot i).phase = .running ∧
        (t.slot i).gReg (dOf w) = q.2.2.2 ((s.slot i).gReg (dOf w)) ((s.slot i).operand w) ∧
        ∀ r, r ≠ dOf w → (t.slot i).gReg r = (s.slot i).gReg r) ∧
  (∀ (s : State) (i : Fin 16) (w : Nat), s.atInstr i 0x05 1 w → dOf w < 8 → sOf w ≤ 2 →
    ∃ t, exec (.movi i) s = .next t ∧ ChangesSlot s t i ∧ SlotKeeps (s.slot i) (t.slot i) ∧
      SlotBehind (s.slot i) (t.slot i) 1 ∧ (t.slot i).phase = .running ∧
      (sOf w = 0 → (t.slot i).gReg (dOf w) = BitVec.ofNat 32 (immOf w)) ∧
      (sOf w = 1 → ((t.slot i).gReg (dOf w)).toNat = immOf w * 65536 + ((s.slot i).gReg (dOf w)).toNat % 65536) ∧
      (sOf w = 2 → (t.slot i).gReg (dOf w) = (BitVec.ofNat 16 (immOf w)).signExtend 32) ∧
      ∀ r, r ≠ dOf w → (t.slot i).gReg r = (s.slot i).gReg r) ∧
  (∀ (s : State) (i : Fin 16) (w : Nat), s.atInstr i 0x0B 1 w → dOf w < 8 → sOf w = 0 → immOf w < 64 → immOf w ≠ 32 →
    ∃ t, exec (.shift i) s = .next t ∧ ChangesSlot s t i ∧ SlotKeeps (s.slot i) (t.slot i) ∧
      SlotBehind (s.slot i) (t.slot i) 1 ∧ (t.slot i).phase = .running ∧
      (immOf w < 32 → (t.slot i).gReg (dOf w) = (s.slot i).gReg (dOf w) <<< immOf w) ∧
      (32 < immOf w → (t.slot i).gReg (dOf w) = ((s.slot i).gReg (dOf w)).sshiftRight (64 - immOf w)) ∧
      ∀ r, r ≠ dOf w → (t.slot i).gReg r = (s.slot i).gReg r) ∧
  (∀ (s : State) (i : Fin 16) (w : Nat), s.atInstr i 0x0C 1 w → aluOk w = true →
    ∃ t, exec (.cmp i) s = .next t ∧ ChangesSlot s t i ∧ SlotBehind (s.slot i) (t.slot i) 1 ∧ (t.slot i).phase = .running ∧
      ((t.slot i).lt = true ↔ ((s.slot i).gReg (dOf w)).toInt < ((s.slot i).operand w).toInt) ∧
      ((t.slot i).eq = true ↔ (s.slot i).gReg (dOf w) = (s.slot i).operand w) ∧
      ((t.slot i).gt = true ↔ ((s.slot i).operand w).toInt < ((s.slot i).gReg (dOf w)).toInt) ∧
      (t.slot i).g = (s.slot i).g ∧ (t.slot i).votes = (s.slot i).votes ∧ (t.slot i).det = (s.slot i).det ∧
      (t.slot i).taint = (s.slot i).taint) ∧
  (∀ (s : State) (i : Fin 16), s.yardRuns = true → s.slotReady i = true → (s.slotCfg i).length ≤ (s.slot i).pc →
    ∃ t, exec (.add i) s = .next t ∧ (t.slot i).phase = .faulted ∧ t.getAt F.YRD_SLOTn_STAT_FAULT i = 4 ∧
      (t.slot i).votes = [] ∧ (t.slot i).wakes = [] ∧ t.mem = s.mem) ∧
  ∀ (s : State) (i : Fin 16), s.yardRuns = true → s.slotReady i = true → (s.slot i).pc < (s.slotCfg i).length →
    0x18 ≤ opOf (s.slotWord i) → ∃ t, exec (.movi i) s = .next t ∧ (t.slot i).phase = .faulted ∧
      t.getAt F.YRD_SLOTn_STAT_FAULT i = 1 ∧ (t.slot i).votes = [] ∧ t.mem = s.mem

/-- SLOT_TIMER, HALT, WAIT, WAIT_END, WAIT_TIMEOUT, BR, LOOPN, MARK, ARM, CLEAR and CYCLE_MAX_EXCEEDED (R209, R212, R216, R224, R228). -/
def Obligations.YardControl : Prop :=
  (∀ (s : State) (i : Fin 16), s.yardRuns = true → bitOf (s.get F.YRD_CFG_SLOT_EN) i = true →
    s.getAt F.YRD_SLOTn_PERIOD_PERIOD i ≠ 0 → (s.slot i).phase = .idle →
    ∃ t, exec (.slotTimer i) s = .next t ∧
      t.slot i = { phase := .running, votes := (s.slot i).votes, wakes := (s.slot i).wakes, det := (s.slot i).det,
                   margin := (s.slot i).margin } ∧ (∀ j, j ≠ i.val → t.slot j = s.slot j) ∧
      t.getAt F.YRD_SLOTn_STAT_RUNS i = min (s.getAt F.YRD_SLOTn_STAT_RUNS i + 1) 65535 ∧
      t = { s with yard := { s.yard with slots := t.yard.slots }, regs := t.regs } ∧ OnlyRegs s t [R.YRD_SLOTn_STAT.at i]) ∧
  (∀ (s : State) (i : Fin 16), s.yardRuns = true → bitOf (s.get F.YRD_CFG_SLOT_EN) i = true →
    s.getAt F.YRD_SLOTn_PERIOD_PERIOD i ≠ 0 → (s.slot i).phase ≠ .idle → (s.slot i).phase ≠ .faulted →
    ∃ t, exec (.slotTimer i) s = .next t ∧ t.yard = s.yard ∧ t.log = (s.ev 0x0403 i).log ∧
      t.getAt F.YRD_SLOTn_STAT_OVERRUNS i = min (s.getAt F.YRD_SLOTn_STAT_OVERRUNS i + 1) 255 ∧
      ChangesLogged s t [R.YRD_SLOTn_STAT.at i]) ∧
  (∀ (s : State) (i : Fin 16) (w : Nat), s.atInstr i 0x00 1 w → onlyOp w = true → ∃ t, exec (.halt i) s = .next t ∧
    ChangesSlot s t i ∧ t.slot i = { s.slot i with phase := .idle, cycles := (s.slot i).cycles + 1 }) ∧
  (∀ (s : State) (i : Fin 16) (w : Nat), s.atInstr i 0x01 1 w → dOf w = 2 → sOf w = 0 → immOf w ≠ 0 →
    ∃ t, exec (.wait i) s = .next t ∧ ChangesSlot s t i ∧
      t.slot i = { s.slot i with phase := .waiting 2 (immOf w), met := false, cycles := (s.slot i).cycles + 1 }) ∧
  (∀ (s : State) (i : Fin 16) (w : Nat), s.atInstr i 0x01 1 w → dOf w = 2 → sOf w = 0 → immOf w = 0 →
    ∃ t, exec (.wait i) s = .next t ∧ ChangesSlot s t i ∧ (t.slot i).phase = .running ∧
      SlotBehind (s.slot i) (t.slot i) 1 ∧ (t.slot i).timeout = (s.slot i).timeout) ∧
  (∀ (s : State) (i : Fin 16) (n : Nat), s.yardRuns = true → (s.slot i).phase = .waiting 2 n →
    ∃ t, exec (.waitEnd i) s = .next t ∧ t = { s with yard := { s.yard with slots := t.yard.slots } } ∧
      (∀ j, j ≠ i.val → t.slot j = s.slot j) ∧ (t.slot i).phase = .running ∧ SlotBehind (s.slot i) (t.slot i) 0 ∧
      (t.slot i).timeout = (s.slot i).timeout) ∧
  (∀ (s : State) (i : Fin 16) (k n : Nat), s.yardRuns = true → (s.slot i).phase = .waiting k n → k ≠ 2 →
    ∃ t, exec (.waitTimeout i) s = .next t ∧ t = { s with yard := { s.yard with slots := t.yard.slots } } ∧
      (∀ j, j ≠ i.val → t.slot j = s.slot j) ∧ (t.slot i).phase = .running ∧ SlotBehind (s.slot i) (t.slot i) 0 ∧
      (t.slot i).timeout = true) ∧
  (∀ (s : State) (i : Fin 16) (w : Nat), s.atInstr i 0x0D 2 w → dOf w ≤ 11 → sOf w = 0 → immOf w < 256 →
    (s.slot i).cond (dOf w) = true → ∃ t, exec (.br i) s = .next t ∧ ChangesSlot s t i ∧
      SlotKeeps (s.slot i) (t.slot i) ∧ (t.slot i).pc = immOf w ∧ (t.slot i).cycles = (s.slot i).cycles + 2 ∧
      (t.slot i).g = (s.slot i).g) ∧
  (∀ (s : State) (i : Fin 16) (w : Nat), s.atInstr i 0x0D 1 w → dOf w ≤ 11 → sOf w = 0 → immOf w < 256 →
    (s.slot i).cond (dOf w) = false → ∃ t, exec (.br i) s = .next t ∧ ChangesSlot s t i ∧
      SlotKeeps (s.slot i) (t.slot i) ∧ SlotBehind (s.slot i) (t.slot i) 1 ∧ (t.slot i).g = (s.slot i).g) ∧
  (∀ (s : State) (i : Fin 16) (w : Nat), s.atInstr i 0x0E 1 w → dOf w = 0 → sOf w = 0 → 256 ≤ immOf w →
    (s.slot i).loopLeft = 0 → (immOf w % 256 ≠ 0 → (s.slot i).pc + 1 + immOf w / 256 ≤ (s.slotCfg i).length) →
    ∃ t, exec (.loopn i) s = .next t ∧ ChangesSlot s t i ∧ SlotKeeps (s.slot i) (t.slot i) ∧ (t.slot i).g = (s.slot i).g ∧
      (t.slot i).cycles = (s.slot i).cycles + 1 ∧
      (immOf w % 256 = 0 → (t.slot i).pc = (s.slot i).pc + 1 + immOf w / 256 ∧ (t.slot i).loopLeft = 0) ∧
      (immOf w % 256 ≠ 0 → (t.slot i).pc = (s.slot i).pc + 1 ∧ (t.slot i).loopLeft = immOf w % 256 ∧
        (t.slot i).loopAt = (s.slot i).pc + 1 ∧ (t.slot i).loopEnd = (s.slot i).pc + 1 + immOf w / 256)) ∧
  (∀ (s : State) (i : Fin 16) (w : Nat), s.atInstr i 0x15 1 w → dOf w = 0 → sOf w = 0 → ∃ t, exec (.mark i) s = .next t ∧
    t.log = (s.ev2 0x0410 i (immOf w)).log ∧ SlotKeeps (s.slot i) (t.slot i) ∧ SlotBehind (s.slot i) (t.slot i) 1 ∧
    (t.slot i).g = (s.slot i).g ∧ (∀ j, j ≠ i.val → t.slot j = s.slot j) ∧ t.mem = s.mem ∧ t.pwr = s.pwr ∧
    OnlyRegs s t [R.LOG_NEXT.at 0, R.LOG_STATUS.at 0, R.YRD_ENGINE.at 0]) ∧
  (∀ (s : State) (i j : Fin 16) (w : Nat), s.atInstr i 0x16 1 w → dOf w = 0 → sOf w = 0 → immOf w = j.val → i ≠ j →
    bitOf (s.get F.YRD_CFG_SLOT_EN) j = true → (s.slot j).phase = .idle → ∃ t, exec (.arm i) s = .next t ∧
      t.slot j = { phase := .running, votes := (s.slot j).votes, wakes := (s.slot j).wakes, det := (s.slot j).det,
                   margin := (s.slot j).margin } ∧ SlotKeeps (s.slot i) (t.slot i) ∧
      SlotBehind (s.slot i) (t.slot i) 1 ∧ t.getAt F.YRD_SLOTn_STAT_RUNS j = min (s.getAt F.YRD_SLOTn_STAT_RUNS j + 1) 65535 ∧
      t.mem = s.mem ∧ t.log = s.log) ∧
  (∀ (s : State) (i : Fin 16) (w : Nat), s.atInstr i 0x16 1 w → dOf w = 0 → sOf w = 0 → immOf w = i.val →
    ∃ t, exec (.arm i) s = .next t ∧ ChangesSlot s t i ∧ SlotKeeps (s.slot i) (t.slot i) ∧
      SlotBehind (s.slot i) (t.slot i) 1 ∧ (t.slot i).g = (s.slot i).g) ∧
  (∀ (s : State) (i : Fin 16) (w : Nat), s.atInstr i 0x17 1 w → onlyOp w = true → s.slotFlag i 2 = true →
    ∃ t, exec (.clear i) s = .next t ∧ ChangesSlot s t i ∧ (t.slot i).det = {} ∧ (t.slot i).wakes = (s.slot i).wakes ∧
      (t.slot i).votes = (s.slot i).votes ∧ (t.slot i).g = (s.slot i).g ∧ SlotBehind (s.slot i) (t.slot i) 1) ∧
  ∀ (s : State) (i : Fin 16), s.yardRuns = true → (s.slot i).phase = .running → (s.slotCfg i).cycleMax ≤ (s.slot i).cycles →
    ∃ t, exec (.cycleMaxExceeded i) s = .next t ∧ (t.slot i).phase = .faulted ∧ t.getAt F.YRD_SLOTn_STAT_FAULT i = 5 ∧
      (t.slot i).votes = [] ∧ (t.slot i).wakes = [] ∧ t.mem = s.mem

/-- LOAD, STORE, SAMPLE, FEAT, FEAT_DONE, NET and NET_DONE (R210 to R216). -/
def Obligations.YardDataAndUnits : Prop :=
  (∀ (s : State) (i : Fin 16) (w : Nat), s.atInstr i 0x03 2 w → regsOk w = true → s.dataAddr i w % 4 = 0 →
    inData (s.dataAddr i w) 4 = true → ∃ t, exec (.load i) s = .next t ∧ ChangesSlot s t i ∧
      (t.slot i).gReg (dOf w) = BitVec.ofNat 32 (leNat (s.yardRead (s.dataAddr i w) 4)) ∧
      (∀ r, r ≠ dOf w → (t.slot i).gReg r = (s.slot i).gReg r) ∧
      (t.slot i).taint = (s.slot i).taint ||| s.mem.taint .yard (s.dataAddr i w) 4 ∧ SlotBehind (s.slot i) (t.slot i) 2) ∧
  (∀ (s : State) (i : Fin 16) (w : Nat), s.atInstr i 0x04 2 w → regsOk w = true → s.dataAddr i w % 4 = 0 →
    inData (s.dataAddr i w) 4 = true → ∃ t, exec (.yardStore i) s = .next t ∧
      t.yardRead (s.dataAddr i w) 4 = leBytes 4 ((s.slot i).gReg (dOf w)).toNat ∧
      (∀ b, (b < s.dataAddr i w ∨ s.dataAddr i w + 4 ≤ b) → t.yardRead b 1 = s.yardRead b 1) ∧
      t.mem.plot .yard (s.dataAddr i w / 4096) = s.mem.plot .yard (s.dataAddr i w / 4096) ||| (s.slot i).taint ∧
      t.mem.loft = s.mem.loft ∧ t.mem.stall = s.mem.stall ∧ (t.slot i).g = (s.slot i).g ∧ SlotKeeps (s.slot i) (t.slot i) ∧
      SlotBehind (s.slot i) (t.slot i) 2 ∧ OnlyRegs s t [R.YRD_ENGINE.at 0]) ∧
  (∀ (s : State) (i : Fin 16) (w : Nat), s.atInstr i 0x04 0 w → regsOk w = true →
    (s.dataAddr i w % 4 ≠ 0 ∨ inData (s.dataAddr i w) 4 = false) → ∃ t, exec (.yardStore i) s = .next t ∧
      (t.slot i).phase = .faulted ∧ t.getAt F.YRD_SLOTn_STAT_FAULT i = 2 ∧ t.mem = s.mem) ∧
  (∀ (s : State) (i : Fin 16) (p : Fin 8) (w : Nat), s.atInstr i 0x02 2 w → dOf w = p.val → sOf w = 0 → immOf w < 8 →
    s.portReady p = true → s.portIdle p = true → s.scriptOf p (immOf w) ≠ [] → ∃ t, exec (.sample i) s = .next t ∧
      (t.port p).run = some { script := immOf w } ∧ t.getAt F.SPT_PORTn_STATUS_BUSY p = 1 ∧
      t.getAt F.SPT_PORTn_STATUS_SCRIPT p = immOf w ∧ t.getAt F.SPT_PORTn_STATUS_STEP p = 0 ∧
      (t.slot i).taint = (s.slot i).taint ||| 1 ∧ (t.slot i).phase = .running ∧ SlotBehind (s.slot i) (t.slot i) 2 ∧ t.mem = s.mem) ∧
  (∀ (s : State) (i : Fin 16) (p : Fin 8) (w : Nat), s.atInstr i 0x02 2 w → dOf w = p.val → sOf w = 0 → immOf w < 8 →
    (s.portReady p = false ∨ s.portIdle p = false) → ∃ t, exec (.sample i) s = .next t ∧ ChangesSlot s t i ∧
      (t.slot i).phase = .sampling ∧ (t.slot i).pc = (s.slot i).pc) ∧
  (∀ (s : State) (i : Fin 16) (w : Nat), s.atInstr i 0x0F ((s.featDesc i (immOf w)).cycles (dOf w)) w → dOf w ≤ 5 →
    sOf w = 0 → immOf w < 8 → (s.featDesc i (immOf w)).ok (dOf w) = true → (s.featDesc i (immOf w)).inSpace (dOf w) = true →
    ∃ t, exec (.feat i) s = .next t ∧ t.mem = s.mem ∧ (t.slot i).pc = (s.slot i).pc ∧
      (s.yard.featUnit = none → t.yard.featUnit = some i.val ∧ (t.slot i).phase = .operating false) ∧
      (s.yard.featUnit ≠ none → t.yard.featUnit = s.yard.featUnit ∧ (t.slot i).phase = .wanting false)) ∧
  (∀ (s : State) (i : Fin 16), s.yardRuns = true → s.yard.featUnit = some i.val → (s.slot i).phase = .operating false →
    let op := dOf (s.slotWord i)
    let f := s.featDesc i (immOf (s.slotWord i))
    ∃ t, exec .featDone s = .next t ∧ (t.slot i).phase = .running ∧
      (t.slot i).taint = (s.slot i).taint ||| s.featTaint f op ∧ SlotBehind (s.slot i) (t.slot i) 0 ∧
      (op ≠ 3 → op ≠ 5 → t.yardRead f.dst (s.featOut f op).length = s.featOut f op) ∧
      (op = 3 ∨ op = 5 → t.yardRead f.aux (f.count * f.width) = s.yardRead f.src (f.count * f.width)) ∧
      ((∀ j < 16, (s.slot j).phase ≠ .wanting false) → t.yard.featUnit = none)) ∧
  (∀ (s : State) (i : Fin 16) (w base layers : Nat), s.atInstr i 0x10 (netCycles s.mem base layers) w → dOf w = 0 →
    sOf w < 8 → s.slotNet i = some (base, layers) → inData ((s.slot i).gReg (sOf w)).toNat (netIn s.mem base) = true →
    inData (immOf w) (netOut s.mem base layers) = true → ∃ t, exec (.net i) s = .next t ∧ t.mem = s.mem ∧
      (t.slot i).pc = (s.slot i).pc ∧
      (s.yard.netUnit = none → t.yard.netUnit = some i.val ∧ (t.slot i).phase = .operating true) ∧
      (s.yard.netUnit ≠ none → t.yard.netUnit = s.yard.netUnit ∧ (t.slot i).phase = .wanting true)) ∧
  (∀ (s : State) (i k : Fin 16), k < i → (s.slot k).phase = .running → exec (.load i) s = .next s ∧
    exec (.yardStore i) s = .next s ∧ exec (.feat i) s = .next s ∧ exec (.net i) s = .next s) ∧
  ∀ (s : State) (i : Fin 16) (base layers : Nat), s.yardRuns = true → s.yard.netUnit = some i.val →
    (s.slot i).phase = .operating true → s.slotNet i = some (base, layers) →
    let w := s.slotWord i
    let a := ((s.slot i).gReg (sOf w)).toNat
    let y := netRun s.mem base layers (s.yardRead a (netIn s.mem base))
    ∃ t, exec .netDone s = .next t ∧ t.yardRead (immOf w) y.length = y ∧ (t.slot i).phase = .running ∧
      (t.slot i).gReg 6 = BitVec.ofNat 32 (topClass y) ∧ (t.slot i).gReg 7 = BitVec.ofNat 32 (scoreMargin y) ∧
      (t.slot i).margin = scoreMargin y ∧ (∀ r < 6, (t.slot i).gReg r = (s.slot i).gReg r) ∧
      (t.slot i).det = ((s.slot i).det.eval (s.slotCfg i) (topClass y) (scoreMargin y)).1 ∧
      ((∀ j < 16, (s.slot j).phase ≠ .wanting true) → t.yard.netUnit = none)

/-- VOTE, WAKE, WAKE_QUEUE_RESUME, WAKE_QUEUE_MOVE, REQ and WAKE_CLR (R217 to R219, R225; 05 R153). -/
def Obligations.YardVotesAndWakes : Prop :=
  (∀ (s : State) (i : Fin 16) (w : Nat), s.atInstr i 0x11 1 w → dOf w ≤ 2 → sOf w = 0 → immOf w < 24 →
    ∃ t, exec (.vote i) s = .next t ∧ elGet 0 (t.slot i).votes (immOf w) = dOf w ∧
      (∀ d, d ≠ immOf w → elGet 0 (t.slot i).votes d = elGet 0 (s.slot i).votes d) ∧
      (s.slotFlag i 2 = false → (t.slot i).wakes = (s.slot i).wakes) ∧ (∀ d < 24, t.voteSlot d 1 = t.yardVote d) ∧
      (∀ j, j ≠ i.val → t.slot j = s.slot j) ∧ SlotBehind (s.slot i) (t.slot i) 1 ∧ t.mem = s.mem) ∧
  (∀ (s : State) (i : Fin 16) (w : Nat), s.atInstr i 0x12 3 w → onlyOp w = true → s.queued < 64 → s.yard.stalled = [] →
    ∃ t, exec (.wake i) s = .next t ∧ (∀ d < 24, elGet 0 (t.slot i).wakes d = bitsOf (s.slotCfg i).wakeVotes (2 * d) 2) ∧
      (∀ d < 24, t.voteSlot d 1 = t.yardVote d) ∧ t.get F.YRD_WAKE_LAST_SLOT = i ∧ t.queued = s.queued + 1 ∧
      t.get F.YRD_WAKE_COUNT_WAKES = min (s.get F.YRD_WAKE_COUNT_WAKES + 1) 65535 ∧ t.yard.wseq = s.yard.wseq + 1 ∧
      t.yardRead (0x6000 + 64 * ((s.yard.wakeRd + s.queued) % 64)) 64 = s.wakeRecord i ∧
      (s.slotFlag i 3 = true → t.flag F.YRD_WAKE_WAKE_OUT = true) ∧ (t.slot i).phase = .running ∧
      SlotBehind (s.slot i) (t.slot i) 3) ∧
  (∀ (s : State) (i : Fin 16) (w : Nat), s.atInstr i 0x12 3 w → onlyOp w = true →
    (64 ≤ s.queued ∨ s.yard.stalled ≠ []) → ∃ t, exec (.wake i) s = .next t ∧ (t.slot i).phase = .wakeStalled ∧
      t.queued = s.queued ∧ t.yard.stalled = withIdx s.yard.stalled i ∧
      t.get F.YRD_WAKE_COUNT_STALLS = min (s.get F.YRD_WAKE_COUNT_STALLS + 1) 65535 ∧
      (∀ d < 24, elGet 0 (t.slot i).wakes d = bitsOf (s.slotCfg i).wakeVotes (2 * d) 2) ∧ t.mem = s.mem) ∧
  (∀ (s : State) (i : Fin 16) (rest : List Nat), s.yardRuns = true → (s.slot i).phase = .wakeStalled → s.queued < 64 →
    s.yard.stalled = i.val :: rest → ∃ t, exec (.wakeQueueResume i) s = .next t ∧ t.queued = s.queued + 1 ∧
      t.yard.stalled = rest ∧ (t.slot i).phase = .running ∧
      t.yardRead (0x6000 + 64 * ((s.yard.wakeRd + s.queued) % 64)) 64 = s.wakeRecord i ∧ t.yard.wseq = s.yard.wseq + 1 ∧
      SlotBehind (s.slot i) (t.slot i) 0) ∧
  (∀ (s : State) (i off : Nat), s.coreOn = true → s.isUp = true → 0 < s.queued → s.queued ≤ 64 →
    fieldAt (s.yardRead (0x6000 + 64 * s.yard.wakeRd) 64) 14 2 = i → i < 2048 → s.armed i = true →
    s.getAt F.RNG_RINGi_CFG_OWNER i = 0 → ringDiff (s.pi i) (s.di i) < s.ringSize i →
    s.entryAt i (s.pi i) = some (.loft, off) → s.steadyAt (12 + off / 0x400000) 2 = true →
    ∃ t, exec .wakeQueueMove s = .next t ∧ t.mem.read .loft off 64 = s.yardRead (0x6000 + 64 * s.yard.wakeRd) 64 ∧
      (∀ b, (b < off ∨ off + 64 ≤ b) → t.mem.read .loft b 1 = s.mem.read .loft b 1) ∧ t.queued = s.queued - 1 ∧
      t.pi i = (s.pi i + 1) % 131072 ∧ t.yard.wakeRd = (s.yard.wakeRd + 1) % 64 ∧
      (s.queued = 1 → t.flag F.YRD_WAKE_WAKE_OUT = false)) ∧
  (∀ (s : State) (i : Fin 16) (w : Nat), s.atInstr i 0x13 1 w → dOf w < 4 → sOf w = 0 → immOf w = 0 → s.ChipQuiet →
    s.pwr.state < dOf w → (dOf w = 3 → s.flag F.SPN_STATUS_XT_STOPPED = false) → ∃ t, exec (.req i) s = .next t ∧
      t.pwr = { s.pwr with req := some { target := dOf w, cause := 1 } } ∧ SlotKeeps (s.slot i) (t.slot i) ∧
      SlotBehind (s.slot i) (t.slot i) 1 ∧ t.mem = s.mem) ∧
  ∀ (s : State) (v : Word), s.reaches .steward = true → ∃ t, exec (.wakeClr .steward v) s = .next t ∧
    (∀ i : Fin 16, v.getLsbD i = true → s.slotFlag i 2 = true → (t.slot i).wakes = []) ∧
    (∀ i : Fin 16, (v.getLsbD i = false ∨ s.slotFlag i 2 = false) → t.slot i = s.slot i) ∧
    (∀ d < 24, t.voteSlot d 1 = t.yardVote d) ∧ t.mem = s.mem

/-- RECORD, GATE_TAKE, TOKEN_REFILL and LOG_WRITE (R67 to R70, R220, R222, R423). -/
def Obligations.GateAndLog : Prop :=
  (∀ (s : State) (i : Fin 16) (w a n h : Nat), s.atInstr i 0x14 (if n = 64 then 20 else 12) w → dOf w = 0 → sOf w < 8 →
    immOf w = 0 → a = ((s.slot i).gReg (sOf w)).toNat → n = recLen (byteAt (s.yardRead a 1) 0) → inData a 1 = true →
    inData a n = true → s.gateOpen = true →
    let p : Presented := { bytes := s.yardRead a n, taint := (s.slot i).taint ||| s.mem.taint .yard a n, adapted := false,
                           yard := true, slot := i, remapped := false }
    s.headOf p = some h → s.gateStep p h = 7 → ∃ t, exec (.record i) s = .next t ∧ (t.slot i).full = false ∧
      t.yardRead (0x5000 + 64 * (s.outW % 64)) 64 = s.stamp p h (s.getAt F.GATE_HEADi_SEQ_NEXT_SEQ h) ∧
      t.outW = (s.outW + 1) % 256 ∧ t.getAt F.GATE_HEADi_SEQ_NEXT_SEQ h = (s.getAt F.GATE_HEADi_SEQ_NEXT_SEQ h + 1) % 65536 ∧
      t.get F.GATE_PASSED_COUNT = (s.get F.GATE_PASSED_COUNT + 1) % 2 ^ 32 ∧
      t.get F.GATE_CEIL_REC_TOKENS = s.get F.GATE_CEIL_REC_TOKENS - 1 ∧
      t.get F.GATE_CEIL_BYTE_TOKENS = s.get F.GATE_CEIL_BYTE_TOKENS - recLen (byteAt p.bytes 0) ∧
      t.getAt F.GATE_HEADi_LIMITS_TOKENS h = s.getAt F.GATE_HEADi_LIMITS_TOKENS h - 1) ∧
  (∀ (s : State) (i : Fin 16) (w a n : Nat), s.atInstr i 0x14 (if n = 64 then 20 else 12) w → dOf w = 0 → sOf w < 8 →
    immOf w = 0 → a = ((s.slot i).gReg (sOf w)).toNat → n = recLen (byteAt (s.yardRead a 1) 0) → inData a 1 = true →
    inData a n = true → s.gateOpen = false → ∃ t, exec (.record i) s = .next t ∧ (t.slot i).full = true ∧
      t.outW = s.outW ∧ t.mem = s.mem ∧ t.log = (s.ev 0x0408 i).log ∧
      OnlyRegs s t [R.LOG_NEXT.at 0, R.LOG_STATUS.at 0, R.YRD_ENGINE.at 0]) ∧
  (∀ (s : State) (hd : Fin 48) (st h : Nat) (t0 : TileJob), s.gateOpen = true → s.isUp = true → s.coreOn = true →
    (List.range 96).find? (fun x => match (s.stall x).tile with | some t => t.slot == some (hd : Nat) && t.record != [] | none => false)
      = some st → (s.stall st).tile = some t0 → s.endsTile t0 t0.pos = true →
    let p : Presented := { bytes := t0.record, taint := t0.recTaint, adapted := t0.adapted, yard := false, slot := hd,
                           remapped := s.remapped t0.ring }
    s.headOf p = some h → s.gateStep p h = 7 → ∃ t, exec (.gateTake hd) s = .next t ∧ t.outW = (s.outW + 1) % 256 ∧
      (∃ k, (t.stall st).tile = some k ∧ k.record = [] ∧ k.ended = true) ∧
      t.yardRead (0x5000 + 64 * (s.outW % 64)) 64 = s.stamp p h (s.getAt F.GATE_HEADi_SEQ_NEXT_SEQ h) ∧
      t.get F.GATE_PASSED_COUNT = (s.get F.GATE_PASSED_COUNT + 1) % 2 ^ 32) ∧
  (∀ s : State, ∃ t, exec (.tokenRefill .records) s = .next t ∧
    t.get F.GATE_CEIL_REC_TOKENS = min 256 (s.get F.GATE_CEIL_REC_TOKENS + 1) ∧
    t.get F.GATE_CEIL_BYTE_TOKENS = s.get F.GATE_CEIL_BYTE_TOKENS ∧ ChangesRegs s t [R.GATE_CEIL.at 0]) ∧
  (∀ s : State, ∃ t, exec (.tokenRefill .bytes) s = .next t ∧
    t.get F.GATE_CEIL_BYTE_TOKENS = min 16384 (s.get F.GATE_CEIL_BYTE_TOKENS + 16) ∧
    t.get F.GATE_CEIL_REC_TOKENS = s.get F.GATE_CEIL_REC_TOKENS ∧ ChangesRegs s t [R.GATE_CEIL.at 0]) ∧
  (∀ (s : State) (i : Fin 48), s.getAt F.GATE_HEADi_CFG_ARMED i = 1 → ∃ t, exec (.tokenRefill (.head i)) s = .next t ∧
    t.getAt F.GATE_HEADi_LIMITS_TOKENS i = min (s.getAt F.GATE_HEADi_CFG_BURST i) (s.getAt F.GATE_HEADi_LIMITS_TOKENS i + 1) ∧
    ChangesRegs s t [R.GATE_HEADi_LIMITS.at i]) ∧
  ∀ (s : State) (e : Event) (rest : List Event), s.span.running = true → s.log.intake = e :: rest →
    ∃ t, exec .logWrite s = .next t ∧ t.log = { s.log with intake := rest } ∧
      t.yardRead (0x4000 + 16 * s.get F.LOG_NEXT_INDEX) 16 = e.bytes ∧
      (∀ b, (b < 0x4000 + 16 * s.get F.LOG_NEXT_INDEX ∨ 0x4010 + 16 * s.get F.LOG_NEXT_INDEX ≤ b) →
        t.yardRead b 1 = s.yardRead b 1) ∧ t.get F.LOG_NEXT_INDEX = (s.get F.LOG_NEXT_INDEX + 1) % 256 ∧
      (s.get F.LOG_NEXT_INDEX = 255 → t.get F.LOG_NEXT_WRAPPED = 1) ∧ OnlyRegs s t [R.LOG_NEXT.at 0]

/-- FRAME_START, FRAME_END, PEN_TTL, SLOT_WIPE_DONE and PEN_WIPE (R51 to R56, R77, R279). -/
def Obligations.PenSlots : Prop :=
  (∀ (s : State) (p : Fin 2) (vc : BitVec 2) (h : PktHdr), s.camReady p = true → s.headerFits p vc h →
    s.flag F.PEN_STATUS_WIPING = false → (s.cam p).frame = none → (s.cam p).next < 4 → s.penSlot p (s.cam p).next = 0 →
    ∃ t, exec (.frameStart p vc h) s = .next t ∧ t.penSlot p (s.cam p).next = 1 ∧ SlotsBut s t p (s.cam p).next ∧
      t.cam p = { s.cam p with frame := some ⟨(s.cam p).next, 0⟩, next := ((s.cam p).next + 1) % s.penSlots p } ∧
      (∀ p' < 2, p' ≠ p.val → t.cam p' = s.cam p') ∧
      t = { s with regs := t.regs, head := { s.head with cams := t.head.cams } } ∧ OnlyRegs s t [R.PEN_STATUS.at 0]) ∧
  (∀ (s : State) (p : Fin 2) (vc : BitVec 2) (h : PktHdr), s.camReady p = true → s.headerFits p vc h →
    (s.cam p).frame = none → s.penSlot p (s.cam p).next ≠ 0 → ∃ t, exec (.frameStart p vc h) s = .next t ∧
      t.get F.PEN_COUNTS_SKIPPED = min (s.get F.PEN_COUNTS_SKIPPED + 1) 65535 ∧ t.log = (s.ev 0x0712 p).log ∧
      ChangesLogged s t [R.PEN_COUNTS.at 0]) ∧
  (∀ (s : State) (p : Fin 2) (vc : BitVec 2) (h : PktHdr) (f : FrameIn), s.camReady p = true → s.headerFits p vc h →
    s.flag F.PEN_STATUS_WIPING = false → (s.cam p).frame = some f → f.slot < 4 → (s.cam p).next < 4 → f.slot ≠ (s.cam p).next →
    s.penSlot p (s.cam p).next = 0 → ∃ t, exec (.frameStart p vc h) s = .next t ∧ t.penSlot p f.slot = 3 ∧
      t.penSlot p (s.cam p).next = 1 ∧ (t.cam p).frame = some ⟨(s.cam p).next, 0⟩ ∧
      t.getAt F.CAM_PORTn_ERR_LAST_CAUSE p = 3 ∧ t.log = (s.ev2 0x0611 p 3).log ∧ t.mem = s.mem ∧ t.disp = s.disp) ∧
  (∀ (s : State) (p : Fin 2) (vc : BitVec 2) (h : PktHdr) (f : FrameIn), s.camReady p = true → s.headerFits p vc h →
    (s.cam p).frame = some f → f.slot < 4 → f.lines = s.getAt F.CAM_PORTn_SIZE_HEIGHT p →
    s.TallyQuiet (s.getAt F.PEN_CAMn_CFG_TALLY p) → ∃ t, exec (.frameEnd p vc h) s = .next t ∧ t.penSlot p f.slot = 2 ∧
      SlotsBut s t p f.slot ∧ (t.cam p).frame = none ∧ TallyGains s t (s.getAt F.PEN_CAMn_CFG_TALLY p) 1 ∧
      t.getAt F.CAM_PORTn_COUNTS_FRAMES p = min (s.getAt F.CAM_PORTn_COUNTS_FRAMES p + 1) 65535 ∧ t.mem = s.mem ∧
      OnlyRegs s t [R.PEN_STATUS.at 0, R.CAM_PORTn_COUNTS.at p, R.TLY_TALLYt.at (s.getAt F.PEN_CAMn_CFG_TALLY p),
        R.TLY_COUNTS.at 0, R.LOG_NEXT.at 0, R.LOG_STATUS.at 0]) ∧
  (∀ (s : State) (p : Fin 2) (vc : BitVec 2) (h : PktHdr) (f : FrameIn), s.camReady p = true → s.headerFits p vc h →
    (s.cam p).frame = some f → f.slot < 4 → f.lines ≠ s.getAt F.CAM_PORTn_SIZE_HEIGHT p →
    ∃ t, exec (.frameEnd p vc h) s = .next t ∧ FrameAbandoned s t p f.slot 3 ∧ (∀ x < 4096, t.tally x = s.tally x)) ∧
  (∀ (s : State) (p : Fin 2) (k : Fin 4), s.penSlot p k = 2 → ∃ t, exec (.penTtl p k) s = .next t ∧ t.penSlot p k = 3 ∧
    SlotsBut s t p k ∧ t.get F.PEN_COUNTS_TTL_EXPIRED = min (s.get F.PEN_COUNTS_TTL_EXPIRED + 1) 255 ∧
    t.log = (s.ev2 0x0711 p k).log ∧ ChangesLogged s t [R.PEN_STATUS.at 0, R.PEN_COUNTS.at 0]) ∧
  (∀ (s : State) (p : Fin 2) (k : Fin 4), s.penSlot p k = 3 → s.flag F.PEN_STATUS_WIPING = false →
    ∃ t, exec (.slotWipeDone p k) s = .next t ∧ t.penSlot p k = 0 ∧ SlotsBut s t p k ∧
      (∀ a, s.penBase p k ≤ a → a < s.penBase p k + s.penBytes p → t.mem.penRead a 1 = [0]) ∧
      (∀ a, (a < s.penBase p k ∨ s.penBase p k + s.penBytes p ≤ a) → t.mem.penRead a 1 = s.mem.penRead a 1) ∧
      t.mem = { s.mem with pen := t.mem.pen } ∧ t.log = s.log ∧ OnlyRegs s t [R.PEN_STATUS.at 0]) ∧
  ∀ s : State, s.flag F.PEN_STATUS_WIPING = true → ∃ t, exec .penWipe s = .next t ∧ t.flag F.PEN_STATUS_WIPING = false ∧
    (∀ p < 2, (∀ k < 4, t.penSlot p k = 0) ∧ (t.cam p).frame = none) ∧ (∀ a < 0x200000, t.mem.penRead a 1 = [0]) ∧
    t.mem = { s.mem with pen := t.mem.pen } ∧ t.get F.PEN_STATUS_LAST_CAUSE = s.pen.cause % 8 ∧
    t.get F.PEN_LAST_WIPE_SPAN = s.span.count.toNat % 2 ^ 32 ∧ t.log = (s.ev 0x0710 s.pen.cause).log ∧
    t.get F.PEN_COUNTS_WHOLE_WIPES = min (s.get F.PEN_COUNTS_WHOLE_WIPES + 1) 255 ∧ t.disp = s.disp ∧
    OnlyRegs s t [R.PEN_STATUS.at 0, R.PEN_COUNTS.at 0, R.PEN_LAST_WIPE.at 0, R.LOG_NEXT.at 0, R.LOG_STATUS.at 0]

/-- LINE_PACKET and FRAME_TIMEOUT, and an uncorrectable header (R278, R279). -/
def Obligations.CameraPackets : Prop :=
  (∀ (s : State) (p : Fin 2) (k : CamPacket) (f : FrameIn), s.camReady p = true → s.headerFits p k.vc k.hdr →
    (s.isDvp p = true ∨ (k.dt.toNat = dtCode (s.getAt F.CAM_PORTn_CFG_DT p) ∧ k.crcOk = true)) → (s.cam p).frame = some f →
    k.payload.length = s.lineBytes p → f.lines < s.getAt F.CAM_PORTn_SIZE_HEIGHT p →
    ∃ t, exec (.linePacket p k) s = .next t ∧ (t.cam p).frame = some { f with lines := f.lines + 1 } ∧
      t.mem.penRead (s.penBase p f.slot + f.lines * s.lineBytes p) (s.lineBytes p) = k.payload ∧
      (∀ a, (a < s.penBase p f.slot + f.lines * s.lineBytes p ∨ s.penBase p f.slot + (f.lines + 1) * s.lineBytes p ≤ a) →
        t.mem.penRead a 1 = s.mem.penRead a 1) ∧
      t = { s with mem := { s.mem with pen := t.mem.pen }, head := { s.head with cams := t.head.cams } } ∧
      ∀ p' < 2, p' ≠ p.val → t.cam p' = s.cam p') ∧
  (∀ (s : State) (p : Fin 2) (k : CamPacket), s.camReady p = true → s.headerFits p k.vc k.hdr → s.isDvp p = false →
    k.dt.toNat ≠ dtCode (s.getAt F.CAM_PORTn_CFG_DT p) → ∃ t, exec (.linePacket p k) s = .next t ∧
      t.getAt F.CAM_PORTn_COUNTS_DISCARDED p = min (s.getAt F.CAM_PORTn_COUNTS_DISCARDED p + 1) 255 ∧
      t.log = (s.ev 0x0614 p).log ∧ ChangesLogged s t [R.CAM_PORTn_COUNTS.at p]) ∧
  (∀ (s : State) (p : Fin 2) (k : CamPacket) (f : FrameIn), s.camReady p = true → s.headerFits p k.vc k.hdr →
    s.isDvp p = false → k.dt.toNat = dtCode (s.getAt F.CAM_PORTn_CFG_DT p) → k.crcOk = false → (s.cam p).frame = some f →
    f.slot < 4 → ∃ t, exec (.linePacket p k) s = .next t ∧ FrameAbandoned s t p f.slot 2 ∧
      t.getAt F.CAM_PORTn_ERR_CRC p = min (s.getAt F.CAM_PORTn_ERR_CRC p + 1) 255) ∧
  (∀ (s : State) (p : Fin 2) (k : CamPacket) (f : FrameIn), s.camReady p = true → s.headerFits p k.vc k.hdr →
    (s.isDvp p = true ∨ (k.dt.toNat = dtCode (s.getAt F.CAM_PORTn_CFG_DT p) ∧ k.crcOk = true)) → (s.cam p).frame = some f →
    f.slot < 4 → k.payload.length ≠ s.lineBytes p → ∃ t, exec (.linePacket p k) s = .next t ∧
      FrameAbandoned s t p f.slot 3) ∧
  (∀ (s : State) (p : Fin 2) (k : CamPacket) (f : FrameIn), s.camReady p = true → s.isDvp p = false → k.hdr = .fatal →
    (s.cam p).frame = some f → f.slot < 4 → ∃ t, exec (.linePacket p k) s = .next t ∧ FrameAbandoned s t p f.slot 1 ∧
      t.getAt F.CAM_PORTn_ERR_ECC_FATAL p = min (s.getAt F.CAM_PORTn_ERR_ECC_FATAL p + 1) 255) ∧
  ∀ (s : State) (p : Fin 2) (f : FrameIn), (s.cam p).frame = some f → f.slot < 4 →
    ∃ t, exec (.frameTimeout p) s = .next t ∧ FrameAbandoned s t p f.slot 4

/-- CAM_ACTIVE, CAM_EN_ASSERT, CAM_SETTLED, CAM_INACTIVE, CAM_LED_FAULT and CAM_LED_TEST (R280, R281). -/
def Obligations.CameraIndicator : Prop :=
  (∀ s : State, (s.camWants 0 = true ∨ s.camWants 1 = true) → ∃ t, exec .camActive s = .next t ∧
    t.flag F.CAM_STATUS_LED_ON = true ∧ t.flag F.CAM_STATUS_CAM0_ACTIVE = s.camWants 0 ∧
    t.flag F.CAM_STATUS_CAM1_ACTIVE = s.camWants 1 ∧ t.flag F.CAM_STATUS_HELD = false ∧
    t.get F.CAM_STATUS_CAM_EN = s.get F.CAM_STATUS_CAM_EN ∧ ChangesRegs s t [R.CAM_STATUS.at 0]) ∧
  (∀ s : State, s.flag F.CAM_STATUS_LED_ON = true → s.head.ledHold = false → (s.camWants 0 = true ∨ s.camWants 1 = true) →
    ∃ t, exec .camEnAssert s = .next t ∧ t.flag F.CAM_STATUS_CAM_EN = true ∧ t.flag F.CAM_STATUS_LED_ON = true ∧
      ChangesRegs s t [R.CAM_STATUS.at 0]) ∧
  (∀ s : State, s.flag F.CAM_STATUS_CAM_EN = true → ∃ t, exec .camSettled s = .next t ∧
    t = { s with head := { s.head with settled := true } } ∧
    (∀ p : Fin 2, s.camWants p = true → s.isDvp p = false → s.bankOk 4 = true → t.camReady p = true)) ∧
  (∀ s : State, s.camWants 0 = false → s.camWants 1 = false → ∃ t, exec .camInactive s = .next t ∧
    t.flag F.CAM_STATUS_LED_ON = false ∧ t.flag F.CAM_STATUS_CAM_EN = false ∧ t.flag F.CAM_STATUS_CAM0_ACTIVE = false ∧
    t.flag F.CAM_STATUS_CAM1_ACTIVE = false ∧ t.camReady 0 = false ∧ t.camReady 1 = false ∧
    t = { s with regs := t.regs, head := { s.head with settled := false } } ∧ OnlyRegs s t [R.CAM_STATUS.at 0]) ∧
  (∀ (s : State) (k : LedPath), s.flag F.CAM_STATUS_LED_ON = true → k ≠ .good → (s.cam 0).frame = none →
    (s.cam 1).frame = none → ∃ t, exec (.camLedFault k) s = .next t ∧ t.head.ledHold = true ∧
      t.flag F.CAM_STATUS_CAM_EN = false ∧ t.flag F.CAM_STATUS_LED_ON = false ∧ t.flag F.CAM_STATUS_HELD = true ∧
      t.get F.CAM_STATUS_LED_FAULT = (if k = .shorted then 2 else 1) ∧ t.camReady 0 = false ∧ t.camReady 1 = false ∧
      t.log = (s.ev 0x0612 (if k = .shorted then 1 else 0)).log ∧ t.mem = s.mem ∧
      OnlyRegs s t [R.CAM_STATUS.at 0, R.LOG_NEXT.at 0, R.LOG_STATUS.at 0]) ∧
  (∀ (s : State) (k : LedPath) (f : FrameIn), s.flag F.CAM_STATUS_LED_ON = true → k ≠ .good → (s.cam 0).frame = some f →
    f.slot < 4 → (s.cam 1).frame = none → ∃ t, exec (.camLedFault k) s = .next t ∧ t.head.ledHold = true ∧
      (t.cam 0).frame = none ∧ t.penSlot 0 f.slot = 3 ∧ SlotsBut s t 0 f.slot ∧
      t.getAt F.CAM_PORTn_ERR_LAST_CAUSE 0 = 5 ∧ t.flag F.CAM_STATUS_CAM_EN = false ∧ t.mem = s.mem) ∧
  ∀ s : State, s.head.ledHold = true → s.bankOk 0 = true → ∃ t, exec (.camLedTest .good) s = .next t ∧
    t.head = { s.head with ledHold := false } ∧ t.get F.CAM_STATUS_LED_FAULT = 0 ∧
    t.flag F.CAM_STATUS_HELD = (s.senseHold || s.flag F.SEC_DBG_STATUS_HELD) ∧ t.log = (s.ev 0x0613 0).log ∧
    t.flag F.CAM_STATUS_CAM0_ACTIVE = t.camWants 0 ∧ t.flag F.CAM_STATUS_CAM1_ACTIVE = t.camWants 1 ∧
    t = { s with regs := t.regs, log := t.log, head := t.head } ∧
    OnlyRegs s t [R.CAM_STATUS.at 0, R.LOG_NEXT.at 0, R.LOG_STATUS.at 0]

/-- CLOCK_SWITCH, SETTLE_END, TDM_FRAMING and TDM_RESYNC (R235, R236, R255). -/
def Obligations.EarClocks : Prop :=
  (∀ s : State, s.wantClk0 = true → s.earOn = false → (s.ear.clk0 = false ∨ s.flag F.EAR_STATUS_CLK0_FULL = true) → ∃ t, exec (.clockSwitch .listening) s = .next t ∧
    t.ear = { s.ear with clk0 := true, settle0 := true, hist := t.ear.hist } ∧ t.flag F.EAR_STATUS_CLK0_FULL = false ∧
    t.flag F.EAR_STATUS_SETTLING = true ∧ (∀ m < 4, elGet [] t.ear.hist m = []) ∧
    (∀ m, 4 ≤ m → elGet [] t.ear.hist m = elGet [] s.ear.hist m) ∧ t.log = (s.ev 0x0502 0).log ∧
    t = { s with regs := t.regs, log := t.log, ear := t.ear } ∧
    OnlyRegs s t [R.EAR_STATUS.at 0, R.LOG_NEXT.at 0, R.LOG_STATUS.at 0]) ∧
  (∀ s : State, s.wantClk0 = true → s.earOn = true → (s.ear.clk0 = false ∨ s.flag F.EAR_STATUS_CLK0_FULL = false) →
    ∃ t, exec (.clockSwitch .full) s = .next t ∧
    t.ear = { s.ear with clk0 := true, settle0 := true, hist := t.ear.hist } ∧ t.flag F.EAR_STATUS_CLK0_FULL = true ∧
    t.flag F.EAR_STATUS_SETTLING = true ∧ (∀ m < 4, elGet [] t.ear.hist m = []) ∧
    (∀ m, 4 ≤ m → elGet [] t.ear.hist m = elGet [] s.ear.hist m) ∧ t.log = (s.ev 0x0502 1).log ∧
    t = { s with regs := t.regs, log := t.log, ear := t.ear } ∧
    OnlyRegs s t [R.EAR_STATUS.at 0, R.LOG_NEXT.at 0, R.LOG_STATUS.at 0]) ∧
  (∀ s : State, s.wantClk1 = true → s.ear.clk1 = false → ∃ t, exec (.clockSwitch .clk1Start) s = .next t ∧
    t.ear = { s.ear with clk1 := true, settle1 := true, hist := t.ear.hist } ∧ t.flag F.EAR_STATUS_CLK1_RUN = true ∧
    t.flag F.EAR_STATUS_CLK0_FULL = s.flag F.EAR_STATUS_CLK0_FULL ∧ (∀ m, 4 ≤ m → m < 8 → elGet [] t.ear.hist m = []) ∧
    (∀ m, (m < 4 ∨ 8 ≤ m) → elGet [] t.ear.hist m = elGet [] s.ear.hist m) ∧ t.log = (s.ev 0x0502 2).log ∧
    t = { s with regs := t.regs, log := t.log, ear := t.ear } ∧
    OnlyRegs s t [R.EAR_STATUS.at 0, R.LOG_NEXT.at 0, R.LOG_STATUS.at 0]) ∧
  (∀ (s : State) (c : Fin 2), ∃ t, exec (.settleEnd c) s = .next t ∧
    t.ear.settle0 = (if c = 0 then false else s.ear.settle0) ∧ t.ear.settle1 = (if c = 0 then s.ear.settle1 else false) ∧
    t.flag F.EAR_STATUS_SETTLING = (t.ear.settle0 || t.ear.settle1) ∧ t.mem = s.mem ∧
    (∀ m : Fin 16, calKey (.mic m) ∈ s.cal.abandoned → s.calsRun = true → t.micSettled m = true →
      t.getAt F.EAR_MICm_STAT_CAL_STATE m = 1 ∧ calKey (.mic m) ∉ t.cal.abandoned) ∧
    (∀ m : Fin 16, (calKey (.mic m) ∉ s.cal.abandoned ∨ s.calsRun = false ∨ t.micSettled m = false) →
      t.getAt F.EAR_MICm_STAT_CAL_STATE m = s.getAt F.EAR_MICm_STAT_CAL_STATE m) ∧
    ((s.calsRun = false ∨ ∀ m : Fin 16, calKey (.mic m) ∉ s.cal.abandoned) →
      t = { s with regs := t.regs, ear := { s.ear with settle0 := t.ear.settle0, settle1 := t.ear.settle1 } } ∧
      OnlyRegs s t [R.EAR_STATUS.at 0])) ∧
  (∀ s : State, s.earLive = true → s.earOn = true → s.flag F.EAR_TDM_CFG_CONTROLLER = false →
    ∃ t, exec .tdmFraming s = .next t ∧ t.ear = { s.ear with tdmBad := true, tdmHurt := tdmStreams } ∧
      t.get F.EAR_COUNTS_TDM_ERRORS = min (s.get F.EAR_COUNTS_TDM_ERRORS + 1) 255 ∧ t.log = (s.ev 0x050C 0).log ∧
      t = { s with regs := t.regs, log := t.log, ear := t.ear } ∧
      OnlyRegs s t [R.EAR_COUNTS.at 0, R.LOG_NEXT.at 0, R.LOG_STATUS.at 0]) ∧
  ∀ s : State, ∃ t, exec .tdmResync s = .next t ∧ t = { s with ear := { s.ear with tdmBad := false } }

/-- STREAM_FRAME (R237 to R239, R256). -/
def Obligations.StreamFrames : Prop :=
  (∀ (s : State) (m : Fin 16) (st : Stream) (xs : List Word), s.streams m st = true → xs.length = frameLen st →
    s.winOpen m st = false → ∃ t, exec (.streamFrame m st xs) s = .next t ∧
      elGet 0 t.ear.seq (3 * m + streamNo st) = (elGet 0 s.ear.seq (3 * m + streamNo st) + 1) % 65536 ∧
      (∀ k, k ≠ 3 * m + streamNo st → elGet 0 t.ear.seq k = elGet 0 s.ear.seq k) ∧
      t = { s with ear := { s.ear with seq := t.ear.seq, hist := t.ear.hist, enc := t.ear.enc, tdmHurt := t.ear.tdmHurt } }) ∧
  (∀ (s : State) (m : Fin 16) (st : Stream) (xs : List Word), s.streams m st = true → xs.length = frameLen st →
    s.winOpen m st = true →
    let n := elGet 0 s.ear.seq (3 * m + streamNo st)
    let a := s.winAt m st n
    let size := if st = .hq48 then 256 else 64
    let w := if st = .lp16 then 16 else 24
    let hurt := decide (8 ≤ m.val) && s.ear.tdmHurt.contains (3 * m + streamNo st)
    let k := if st = .lp16 then 0 else 2
    let raw := (if s.tdmDirect m st then xs.map s.tdmSample else xs).map (micOut w (s.micCoef m k) (s.micCoef m (k + 1)))
    let ys := if s.settling m || hurt then raw.map (fun _ => 0) else raw.map (clip w)
    let flags := b2n (s.settling m) + 2 * b2n hurt + 4 * b2n (!(s.settling m || hurt) && raw.any fun x => clip w x != x)
    let frame := frameBytes m flags n ((s.span.count - 1024).toNat % 2 ^ 32) w ys
    s.steadyAt (12 + a / 0x400000) 2 = true → ∃ t, exec (.streamFrame m st xs) s = .next t ∧
      t.mem.read .loft a size = frame ++ List.replicate (size - frame.length) 0 ∧
      (∀ b, (b < a ∨ a + size ≤ b) → t.mem.read .loft b 1 = s.mem.read .loft b 1) ∧
      t.mem.plot .loft (a / 4096) = s.mem.plot .loft (a / 4096) ||| 2 ∧
      (∀ q, q ≠ a / 4096 → t.mem.plot .loft q = s.mem.plot .loft q) ∧
      t.mem = { s.mem with loft := t.mem.loft, tLoft := t.mem.tLoft } ∧
      t.getAt F.EAR_MICm_STAT_WR_INDEX m = (n + 1) % s.winFrames m ∧
      elGet 0 t.ear.seq (3 * m + streamNo st) = (n + 1) % 65536 ∧
      (s.ear.tdmBad = false → (3 * m + streamNo st) ∉ t.ear.tdmHurt) ∧
      (s.noWait (.mic m) → t = { s with regs := t.regs, mem := t.mem, ear := { s.ear with
          seq := t.ear.seq, hist := t.ear.hist, enc := t.ear.enc, tdmHurt := t.ear.tdmHurt } } ∧
        OnlyRegs s t [R.EAR_MICm_STAT.at m])) ∧
  ∀ (s : State) (m : Fin 16) (st : Stream) (xs : List Word), s.streams m st = true → xs.length = frameLen st →
    s.winOpen m st = true →
    s.steadyAt (12 + s.winAt m st (elGet 0 s.ear.seq (3 * m + streamNo st)) / 0x400000) 2 = false →
    s.failed (12 + s.winAt m st (elGet 0 s.ear.seq (3 * m + streamNo st)) / 0x400000) = true →
    ∃ t, exec (.streamFrame m st xs) s = .next t ∧ t.getAt F.EAR_MICm_STAT_WIN_FAILED m = 1 ∧ t.mem = s.mem ∧
      (s.noWait (.mic m) → t.log = (s.ev 0x050D m).log ∧
        OnlyRegs s t [R.EAR_MICm_STAT.at m, R.LOG_NEXT.at 0, R.LOG_STATUS.at 0])

/-- LOGMEL_FRAME, PATTERN_EVAL and REFRACT_END (R240, R241). -/
def Obligations.RecogniserFrames : Prop :=
  (∀ (s : State) (m : Fin 16), s.yardRuns = true → s.patNames m = true → ∃ t, exec (.logmelFrame m) s = .next t ∧
    let f := if s.melRuns m = true then s.melFrame m else none
    elGet [] t.ear.mel m = (f :: elGet [] s.ear.mel m).take 100 ∧
    (∀ k, k ≠ m.val → elGet [] t.ear.mel k = elGet [] s.ear.mel k) ∧ (f = none → t.yard = s.yard) ∧
    (∀ i < 16, (s.slot i).phase = .waiting 4 0 → f.isSome = true → (t.slot i).met = true) ∧
    (∀ i < 16, (s.slot i).phase ≠ .waiting 4 0 → t.slot i = s.slot i) ∧
    t = { s with ear := { s.ear with mel := t.ear.mel }, yard := { s.yard with slots := t.yard.slots } }) ∧
  (∀ (s : State) (m : Fin 16), (∃ b, s.melFrame m = some b ∧ b.length = 40) ∨ s.melFrame m = none) ∧
  (∀ (s : State) (m : Fin 16), (s.melFrame m).isSome = true ↔
    ((elGet [] s.ear.hist m).length = 400 ∧ ∀ x ∈ elGet [] s.ear.hist m, x ≠ none)) ∧
  (∀ (s : State) (m : Fin 16), s.patNames m = false → exec (.logmelFrame m) s = .next s) ∧
  (∀ (s : State) (m : Fin 16), elGet [] s.ear.hist m = List.replicate 400 (some 0) →
    s.melFrame m = some (List.replicate 40 (BitVec.ofInt 8 (-100)))) ∧
  (∀ (s : State) (p : Fin 8) (x : List Byte), s.yardRuns = true → s.getAt F.EAR_PATp_STAT_STATE p = 1 →
    s.patInput p = some x → s.patHit p x = false → ∃ t, exec (.patternEval p) s = .next t ∧ elGet 0 t.ear.hits p = 0 ∧
      (∀ k, k ≠ p.val → elGet 0 t.ear.hits k = elGet 0 s.ear.hits k) ∧ t = { s with ear := { s.ear with hits := t.ear.hits } }) ∧
  (∀ (s : State) (p : Fin 8) (x : List Byte), s.yardRuns = true → s.getAt F.EAR_PATp_STAT_STATE p = 1 →
    s.patInput p = some x → s.patHit p x = true → elGet 0 s.ear.hits p < s.getAt F.EAR_PATp_CFG_PERSIST_M1 p →
    ∃ t, exec (.patternEval p) s = .next t ∧ elGet 0 t.ear.hits p = elGet 0 s.ear.hits p + 1 ∧
      (∀ k, k ≠ p.val → elGet 0 t.ear.hits k = elGet 0 s.ear.hits k) ∧ t = { s with ear := { s.ear with hits := t.ear.hits } }) ∧
  (∀ (s : State) (p : Fin 8) (x : List Byte), s.yardRuns = true → s.getAt F.EAR_PATp_STAT_STATE p = 1 →
    s.patInput p = some x → s.patHit p x = true → s.getAt F.EAR_PATp_CFG_PERSIST_M1 p ≤ elGet 0 s.ear.hits p →
    ∃ t, exec (.patternEval p) s = .next t ∧ t.getAt F.EAR_PATp_STAT_STATE p = 2 ∧ elGet 0 t.ear.hits p = 0 ∧
      t.getAt F.EAR_PATp_STAT_MATCHES p = min (s.getAt F.EAR_PATp_STAT_MATCHES p + 1) 65535 ∧ t.mem = s.mem ∧
      (∀ i < 16, (s.slot i).phase = .waiting 3 p → (t.slot i).met = true) ∧
      (∀ i < 16, s.getAt F.YRD_SLOTn_TRIG_TRIGGER i = 1 → s.getAt F.YRD_SLOTn_TRIG_TRIG_INDEX i = p.val →
        bitOf (s.get F.YRD_CFG_SLOT_EN) i = true → (s.slot i).phase = .idle → (t.slot i).phase = .running) ∧
      ((∀ i < 16, ¬ (s.getAt F.YRD_SLOTn_TRIG_TRIGGER i = 1 ∧ s.getAt F.YRD_SLOTn_TRIG_TRIG_INDEX i = p.val)) →
        t.log = (if bitOf (s.getAt F.EAR_PATp_CFG_FLAGS p) 2 = true then (s.ev 0x0503 p).log else s.log) ∧
        OnlyRegs s t [R.EAR_PATp_STAT.at p, R.LOG_NEXT.at 0, R.LOG_STATUS.at 0])) ∧
  ∀ (s : State) (p : Fin 8), s.getAt F.EAR_PATp_STAT_STATE p = 2 → ∃ t, exec (.refractEnd p) s = .next t ∧
    t.getAt F.EAR_PATp_STAT_STATE p = 1 ∧ t.getAt F.EAR_PATp_STAT_MATCHES p = s.getAt F.EAR_PATp_STAT_MATCHES p ∧
    ChangesRegs s t [R.EAR_PATp_STAT.at p]

/-- PREROLL_BLOCK, UNLOAD, AUTO_UNLOAD, PREROLL_UNLOADED and PREROLL_KEEP_END (R243 to R246, R253). -/
def Obligations.PreRoll : Prop :=
  (∀ (s : State) (m : Fin 16), s.codes m = true →
    let codec := s.get F.EAR_PREROLL_CFG_CODEC
    let e : PreEnc := elGet {} s.ear.enc m
    let r := adpcmRun codec (e.pred, e.step) (e.samples.take (blockLen codec))
    let c := prerollCipher s.ear.key s.ear.nonce s.ear.written
      (s.blockBytes m (b2n e.start + 2 * b2n e.settle) e.span e.pred e.step (packCodes codec r.1))
    let a := 0x80000 + 256 * s.get F.EAR_PREROLL_STATUS_WR_BLOCK
    blockLen codec ≤ e.samples.length → ∃ t, exec (.prerollBlock m) s = .next t ∧
      t.yardRead a c.length = c ∧ (∀ b, (b < a ∨ a + c.length ≤ b) → t.yardRead b 1 = s.yardRead b 1) ∧
      t.mem = { s.mem with yard := t.mem.yard, tYard := t.mem.tYard } ∧
      (0 < c.length → bitOf (t.mem.plot .yard (a / 4096)) 1 = true) ∧
      t.get F.EAR_PREROLL_STATUS_WR_BLOCK = (s.get F.EAR_PREROLL_STATUS_WR_BLOCK + 1) % s.ringBlocks ∧
      t.get F.EAR_PREROLL_STATUS_BLOCKS = min s.ringBlocks (s.get F.EAR_PREROLL_STATUS_BLOCKS + 1) ∧
      t.ear.written = s.ear.written + 1 ∧ (elGet {} t.ear.enc m).samples = e.samples.drop (blockLen codec) ∧
      (elGet {} t.ear.enc m).pred = r.2.1 ∧ (elGet {} t.ear.enc m).step = r.2.2 ∧
      t.ear = { s.ear with written := t.ear.written, enc := t.ear.enc } ∧ t.log = s.log ∧
      OnlyRegs s t [R.EAR_PREROLL_STATUS.at 0]) ∧
  (∀ (s : State) (v : Word), s.reaches .steward = true → F.EAR_PREROLL_CMD_KEY.of v = 0x554C → v.getLsbD 0 = true →
    ∃ t, exec (.unload .steward v) s = .next t ∧
      t.flag F.EAR_PREROLL_STATUS_UNLOADING = (s.flag F.EAR_PREROLL_STATUS_UNLOADING || s.flag F.EAR_PREROLL_STATUS_SESSION) ∧
      (s.flag F.EAR_PREROLL_STATUS_SESSION = false → t = s) ∧ ChangesRegs s t [R.EAR_PREROLL_STATUS.at 0]) ∧
  (∀ (s : State) (v : Word), s.coreOn = true → (F.EAR_PREROLL_CMD_KEY.of v ≠ 0x554C ∨ v.getLsbD 0 = false) →
    exec (.unload .steward v) s = .next s) ∧
  (∀ s : State, s.flag F.EAR_PREROLL_CFG_AUTO_UNLOAD = true → s.pwr.state < 2 → s.ear.coding = false →
    s.steadyAt (12 + s.get F.EAR_PREROLL_DST_BASE_PLOT / 1024) 2 = true → s.flag F.EAR_PREROLL_STATUS_SESSION = true →
    ∃ t, exec .autoUnload s = .next t ∧ t.flag F.EAR_PREROLL_STATUS_UNLOADING = true ∧
      ChangesRegs s t [R.EAR_PREROLL_STATUS.at 0]) ∧
  (∀ s : State, s.flag F.EAR_PREROLL_STATUS_UNLOADING = true → s.flag F.EAR_PREROLL_STATUS_SESSION = true →
    s.ear.pendEnd = 0 → s.TallyQuiet (s.get F.EAR_PREROLL_DST_TALLY) → s.tally (s.get F.EAR_PREROLL_DST_TALLY) < 2 ^ 32 - 1 →
    let base := 4096 * s.get F.EAR_PREROLL_DST_BASE_PLOT
    let bs := (((List.range (s.get F.EAR_PREROLL_STATUS_BLOCKS)).map s.unloadBlock).flatten).take (0x1000000 - base)
    s.steadyAt (12 + base / 0x400000) 2 = true → s.steadyAt (12 + (base + (bs.length - 1)) / 0x400000) 2 = true →
    ∃ t, exec .prerollUnloaded s = .next t ∧ t.mem.read .loft base bs.length = bs ∧
      (∀ b, (b < base ∨ base + bs.length ≤ b) → t.mem.read .loft b 1 = s.mem.read .loft b 1) ∧
      t.mem = { s.mem with loft := t.mem.loft, tLoft := t.mem.tLoft } ∧
      (0 < bs.length → bitOf (t.mem.plot .loft (base / 4096)) 1 = true) ∧
      TallyGains s t (s.get F.EAR_PREROLL_DST_TALLY) 1 ∧ (s.noWait .preroll → t.log = ((s.ev 0x050B 0).ev 0x050A 1).log) ∧
      t.ear = { s.ear with key := [], nonce := [], written := 0, enc := [], coding := false, pendEnd := 0 } ∧
      t.flag F.EAR_PREROLL_STATUS_SESSION = false ∧ t.flag F.EAR_PREROLL_STATUS_UNLOADING = false ∧
      t.get F.EAR_PREROLL_STATUS_BLOCKS = 0 ∧ t.get F.EAR_PREROLL_STATUS_WR_BLOCK = 0 ∧ t.get F.SEC_KEYS_PREROLL = 0) ∧
  (∀ s : State, s.pwr.state ≠ 2 → s.ear.coding = false → s.flag F.EAR_PREROLL_STATUS_SESSION = true →
    s.flag F.EAR_PREROLL_STATUS_UNLOADING = false → ∃ t, exec .prerollKeepEnd s = .next t ∧
      t.ear = { s.ear with key := [], nonce := [], written := 0, enc := [], pendEnd := 0 } ∧
      t.flag F.EAR_PREROLL_STATUS_SESSION = false ∧ t.get F.EAR_PREROLL_STATUS_BLOCKS = 0 ∧
      t.get F.EAR_PREROLL_STATUS_WR_BLOCK = 0 ∧ t.get F.SEC_KEYS_PREROLL = 0 ∧ t.log = (s.ev 0x050A 2).log ∧
      t = { s with regs := t.regs, log := t.log, ear := t.ear } ∧
      OnlyRegs s t [R.EAR_PREROLL_STATUS.at 0, R.SEC_KEYS.at 0, R.LOG_NEXT.at 0, R.LOG_STATUS.at 0]) ∧
  ∀ s : State, s.pwr.state ≠ 2 → s.ear.coding = false → s.flag F.EAR_PREROLL_STATUS_UNLOADING = true →
    exec .prerollKeepEnd s = .next { s with ear := { s.ear with pendEnd := 2 } }

/-- MUTE_ON, MUTE_SW_RELEASE, MUTE_OFF, MUTE_LED_TEST and MICVDD_FAULT (R247 to R250). -/
def Obligations.MuteAndMicvdd : Prop :=
  (∀ s : State, s.flag F.EAR_STATUS_MUTED = false → ∃ t, exec .muteOn s = .next t ∧ t.flag F.EAR_STATUS_MUTED = true ∧
    t.flag F.EAR_STATUS_UNMUTING = false ∧ t.flag F.EAR_STATUS_MICVDD_ON = false ∧ t.flag F.EAR_STATUS_CLK0_FULL = false ∧
    t.flag F.EAR_STATUS_CLK1_RUN = false ∧ t.ear.clk0 = false ∧ t.ear.clk1 = false ∧ t.ear.settle0 = false ∧
    t.ear.settle1 = false ∧ t.ear.muteSw = true ∧ t.get F.EAR_COUNTS_MUTES = min (s.get F.EAR_COUNTS_MUTES + 1) 65535 ∧
    ((∀ m : Fin 16, s.getAt F.EAR_MICm_STAT_CAL_STATE m ≠ 1 ∧ s.getAt F.EAR_MICm_STAT_CAL_STATE m ≠ 2) →
      t.log = (s.ev 0x0504 0).log) ∧
    (∀ m < 4, s.codes m = true → (elGet {} t.ear.enc m).samples = [] ∧ (elGet {} t.ear.enc m).start = true) ∧
    (∀ m : Fin 16, (s.getAt F.EAR_MICm_STAT_CAL_STATE m = 1 ∨ s.getAt F.EAR_MICm_STAT_CAL_STATE m = 2) →
      t.getAt F.EAR_MICm_STAT_CAL_STATE m = 0 ∧ calKey (.mic m) ∈ t.cal.abandoned) ∧
    t.mem.loft = s.mem.loft ∧ t.mem.stall = s.mem.stall ∧ (∀ a < 0x80000, t.yardRead a 1 = s.yardRead a 1) ∧
    (∀ (m : Fin 16) (k : Stream), t.streams m k = false)) ∧
  (∀ s : State, s.flag F.EAR_STATUS_MUTED = true → ∃ t, exec .muteOn s = .next t ∧ t.ear = { s.ear with muteSw := true } ∧
    t.flag F.EAR_STATUS_MUTED = true ∧ t.flag F.EAR_STATUS_UNMUTING = false ∧ t.log = s.log ∧ t.mem = s.mem ∧
    OnlyRegs s t [R.EAR_STATUS.at 0]) ∧
  (∀ s : State, s.bankOk 0 = true → s.flag F.EAR_STATUS_MUTED = true → ∃ t, exec .muteSwRelease s = .next t ∧
    t.ear = { s.ear with muteSw := false } ∧ t.flag F.EAR_STATUS_MUTED = true ∧
    (s.flag F.EAR_STATUS_LED_FAULT = false → t.flag F.EAR_STATUS_UNMUTING = true) ∧
    (s.flag F.EAR_STATUS_LED_FAULT = true → t.regs = s.regs) ∧ t.log = s.log ∧ t.mem = s.mem ∧
    OnlyRegs s t [R.EAR_STATUS.at 0]) ∧
  (∀ s : State, s.flag F.EAR_STATUS_UNMUTING = true → ∃ t, exec .muteOff s = .next t ∧ t.flag F.EAR_STATUS_MUTED = false ∧
    t.flag F.EAR_STATUS_UNMUTING = false ∧
    (t.flag F.EAR_STATUS_MICVDD_ON = true ↔
      (s.flag F.EAR_STATUS_MICVDD_FAULT = false ∧ s.scanHold = false ∧ s.pwr.state < 3)) ∧
    t.log = (s.ev 0x0505 0).log ∧ ChangesLogged s t [R.EAR_STATUS.at 0]) ∧
  (∀ (s : State) (k : LedPath), s.bankOk 0 = true → k ≠ .good → s.flag F.EAR_STATUS_LED_FAULT = false →
    s.flag F.EAR_STATUS_MUTED = true → ∃ t, exec (.muteLedTest k) s = .next t ∧ t.flag F.EAR_STATUS_LED_FAULT = true ∧
      t.flag F.EAR_STATUS_MUTED = true ∧ t.flag F.EAR_STATUS_UNMUTING = false ∧
      t.log = (s.ev 0x0506 (if k = .shorted then 1 else 0)).log ∧ ChangesLogged s t [R.EAR_STATUS.at 0]) ∧
  (∀ (s : State) (k : LedPath), s.bankOk 0 = true → k ≠ .good → s.flag F.EAR_STATUS_LED_FAULT = false →
    s.flag F.EAR_STATUS_MUTED = false → ∃ t, exec (.muteLedTest k) s = .next t ∧ t.flag F.EAR_STATUS_LED_FAULT = true ∧
      t.flag F.EAR_STATUS_MUTED = true ∧ t.ear.clk0 = false ∧ t.ear.clk1 = false ∧ t.flag F.EAR_STATUS_MICVDD_ON = false) ∧
  (∀ s : State, s.bankOk 0 = true → s.flag F.EAR_STATUS_LED_FAULT = true → ∃ t, exec (.muteLedTest .good) s = .next t ∧
    t.flag F.EAR_STATUS_LED_FAULT = false ∧
    (s.flag F.EAR_STATUS_MUTED = true → s.ear.muteSw = false → t.flag F.EAR_STATUS_UNMUTING = true) ∧
    (s.ear.muteSw = true → t.flag F.EAR_STATUS_UNMUTING = s.flag F.EAR_STATUS_UNMUTING) ∧
    t.log = (s.ev 0x0507 0).log ∧ ChangesLogged s t [R.EAR_STATUS.at 0]) ∧
  ∀ s : State, s.flag F.EAR_STATUS_MICVDD_ON = true → ∃ t, exec .micvddFault s = .next t ∧
    t.flag F.EAR_STATUS_MICVDD_FAULT = true ∧ t.flag F.EAR_STATUS_MICVDD_ON = false ∧ t.ear.clk0 = false ∧
    t.ear.clk1 = false ∧ t.flag F.EAR_STATUS_MUTED = s.flag F.EAR_STATUS_MUTED ∧ t.mem = s.mem ∧
    (∀ (m : Fin 16) (k : Stream), 8 ≤ m.val → t.streams m k = s.streams m k) ∧
    (∀ (m : Fin 16) (k : Stream), m.val < 8 → t.streams m k = false) ∧
    (∀ m : Fin 16, (s.getAt F.EAR_MICm_STAT_CAL_STATE m = 1 ∨ s.getAt F.EAR_MICm_STAT_CAL_STATE m = 2) →
      if m.val < 8 then t.getAt F.EAR_MICm_STAT_CAL_STATE m = 0 ∧ calKey (.mic m) ∈ t.cal.abandoned
      else t.getAt F.EAR_MICm_STAT_CAL_STATE m = s.getAt F.EAR_MICm_STAT_CAL_STATE m) ∧
    ((∀ m : Fin 16, m.val < 8 → s.getAt F.EAR_MICm_STAT_CAL_STATE m ≠ 1 ∧ s.getAt F.EAR_MICm_STAT_CAL_STATE m ≠ 2) →
      t.log = (s.ev 0x0508 0).log ∧ OnlyRegs s t [R.EAR_STATUS.at 0, R.LOG_NEXT.at 0, R.LOG_STATUS.at 0])

/-- MIC_CAL_START, MIC_QUIET_CHECK_END and MIC_CAL_END (R32, R33, R251). Which neighbour a quotient that is not whole becomes, and the
median of an even number of levels, are the model's choices (log 217). -/
def Obligations.MicCalibration : Prop :=
  (∀ (s : State) (m : Fin 16) (hq : Bool), s.isUp = true → s.coreOn = true → s.pwr.state < 2 → s.earLive = true → s.micOn m = true →
    s.getAt F.EAR_MICm_STAT_CAL_STATE m ≠ 1 → s.getAt F.EAR_MICm_STAT_CAL_STATE m ≠ 2 →
    let runs := s.streams m (if 4 ≤ m.val ∨ hq = true then .hq16 else .lp16) && !s.settling m
      && !(decide (8 ≤ m.val) && s.ear.tdmBad) && !s.flag F.SUP_STATUS_BRACE
    ∃ t, exec (.micCalStart m hq) s = .next t ∧ t.calPathHq m = (decide (4 ≤ m.val) || hq) ∧
      (runs = true → t.getAt F.EAR_MICm_STAT_CAL_STATE m = 1 ∧ m.val ∉ t.ear.calDue) ∧
      (runs = false → t.getAt F.EAR_MICm_STAT_CAL_STATE m = s.getAt F.EAR_MICm_STAT_CAL_STATE m ∧ m.val ∈ t.ear.calDue ∧
        calKey (.mic m) ∈ t.cal.abandoned) ∧
      t.ear = { s.ear with calHq := t.ear.calHq, calDue := t.ear.calDue } ∧ t.mem = s.mem) ∧
  (∀ (s : State) (m : Fin 16) (rms peak : Word), s.getAt F.EAR_MICm_STAT_CAL_STATE m = 1 → s.calsRun = true →
    belowDb rms.toNat (s.get F.EAR_CAL_CFG_QUIET_DBFS) false = true → belowDb peak.toNat (s.get F.EAR_CAL_CFG_QUIET_DBFS) true = true →
    ∃ t, exec (.micQuietCheckEnd m rms peak) s = .next t ∧ t.getAt F.EAR_MICm_STAT_CAL_STATE m = 2 ∧ t.ear = s.ear ∧ t.mem = s.mem ∧
      (s.calVoteEar = s → ChangesRegs s t [R.EAR_MICm_STAT.at m])) ∧
  (∀ (s : State) (m : Fin 16) (rms peak : Word), s.getAt F.EAR_MICm_STAT_CAL_STATE m = 1 → s.calsRun = true →
    (belowDb rms.toNat (s.get F.EAR_CAL_CFG_QUIET_DBFS) false = false ∨ belowDb peak.toNat (s.get F.EAR_CAL_CFG_QUIET_DBFS) true = false) →
    ∃ t, exec (.micQuietCheckEnd m rms peak) s = .next t ∧ t.getAt F.EAR_MICm_STAT_CAL_STATE m = 4 ∧
      t.calLevel (.mic m) = min 7 (s.calLevel (.mic m) + 1) ∧
      t.get F.EAR_COUNTS_CAL_REJECTS = min (s.get F.EAR_COUNTS_CAL_REJECTS + 1) 255 ∧ t.ear = s.ear ∧ t.mem = s.mem ∧
      (s.calPathHq m = false → s.calVoteEar = s → t.log = (s.ev2 0x0510 m 1).log ∧
        OnlyRegs s t [R.EAR_MICm_STAT.at m, R.EAR_COUNTS.at 0, R.LOG_NEXT.at 0, R.LOG_STATUS.at 0])) ∧
  (∀ (s : State) (m : Fin 16) (x : MicMeas), s.getAt F.EAR_MICm_STAT_CAL_STATE m = 2 → s.calsRun = true →
    let dc := micDc x (Config.freeWord s.free)
    let gain := s.micGain m x (Config.freeWord (s.free + 1))
    micPlausible dc gain = true → ∃ t, exec (.micCalEnd m x) s = .next t ∧
      (t.micCoef m (if s.calPathHq m then 2 else 0)).toInt = dc ∧
      ((t.micCoef m (if s.calPathHq m then 3 else 1)).toNat : Int) = gain ∧
      (∀ n < 16, ∀ k < 4, (n ≠ m.val ∨ (k / 2 == 1) ≠ s.calPathHq m) → t.micCoef n k = s.micCoef n k) ∧
      t.getAt F.EAR_MICm_STAT_CAL_STATE m = 3 ∧ t.getAt F.EAR_MICm_STAT_CAL_SOURCE m = 1 ∧ t.calLevel (.mic m) = 0 ∧ t.mem = s.mem ∧
      (s.calPathHq m = false → s.calVoteEar = s → t.log = s.log ∧ OnlyRegs s t [R.EAR_MICm_STAT.at m])) ∧
  (∀ (s : State) (m : Fin 16) (x : MicMeas), s.getAt F.EAR_MICm_STAT_CAL_STATE m = 2 → s.calsRun = true →
    micPlausible (micDc x (Config.freeWord s.free)) (s.micGain m x (Config.freeWord (s.free + 1))) = false →
    ∃ t, exec (.micCalEnd m x) s = .next t ∧ t.getAt F.EAR_MICm_STAT_CAL_STATE m = 4 ∧
      t.calLevel (.mic m) = min 7 (s.calLevel (.mic m) + 1) ∧ t.ear = s.ear ∧ t.mem = s.mem ∧
      (s.calPathHq m = false → s.calVoteEar = s → t.log = (s.ev2 0x0510 m 3).log ∧
        OnlyRegs s t [R.EAR_MICm_STAT.at m, R.EAR_COUNTS.at 0, R.LOG_NEXT.at 0, R.LOG_STATUS.at 0])) ∧
  (∀ (v : Int) (n : Nat) (l : List (Fin 16 × Word)) (pick : Word), 0 < n → micDc ⟨v * (n * 65536 : Nat), n, l⟩ pick = v) ∧
  (∀ dc gain : Int, micPlausible dc gain = true ↔ (dc.natAbs ≤ 655 ∧ 11599 ≤ gain ∧ gain ≤ 23143)) ∧
  ∀ s : State, s.calsRun = false → ∀ (m : Fin 16) (rms peak : Word) (x : MicMeas),
    exec (.micQuietCheckEnd m rms peak) s = .next s ∧ exec (.micCalEnd m x) s = .next s

/-- SCRIPT_WRITE, SCRIPT_READ, BUS_TRANSFER_DONE, WAIT_INT, WAIT_INT_TIMEOUT, DELAY, DELAY_END and LOOP (R271 to R275). -/
def Obligations.ScriptSteps : Prop :=
  (∀ (s : State) (p : Fin 8) (r : ScriptRun) (w : Nat),
    s.atStep p 1 .next r w → ∃ t, exec (.scriptWrite p) s = .next t ∧ ChangesPort s t p ∧
      t.port p = { s.port p with run := some { r with phase := .bus }
                                 bus := (if s.portMode p = 2 then [] else [BitVec.ofNat 8 (2 * bitsOf w 49 7)])
                                   ++ leBytes (bitsOf w 40 3) (bitsOf w 0 32) } ∧
      t.getAt F.SPT_PORTn_STATUS_STEP p = r.step % 64) ∧
  (∀ (s : State) (p : Fin 8) (r : ScriptRun) (w : Nat),
    s.atStep p 2 .next r w → ∃ t, exec (.scriptRead p) s = .next t ∧ ChangesPort s t p ∧
      t.port p = { s.port p with run := some { r with phase := .bus }
                                 bus := if s.portMode p = 2 then List.replicate (bitsOf w 32 10) 0
                                   else [BitVec.ofNat 8 (2 * bitsOf w 49 7 + 1)] } ∧
      t.getAt F.SPT_PORTn_STATUS_STEP p = r.step % 64) ∧
  (∀ (s : State) (p : Fin 8) (r : ScriptRun) (w : Nat),
    s.atStep p 4 .next r w → ∃ t, exec (.delay p) s = .next t ∧ ChangesPort s t p ∧
      t.port p = { s.port p with run := some { r with phase := .delay } } ∧ t.getAt F.SPT_PORTn_STATUS_STEP p = r.step % 64) ∧
  (∀ (s : State) (p : Fin 8) (r : ScriptRun) (w : Nat) (ack : Bool) (d : List Byte), (ack = true ∨ s.portMode p = 2) →
    s.atStep p 1 .bus r w → r.step + 1 < (s.scriptOf p r.script).length →
    ∃ t, exec (.busTransferDone p ack d) s = .next t ∧ ChangesPort s t p ∧
      t.port p = { s.port p with busHeld := bitOf w 48, bus := [], run := some { r with step := r.step + 1, phase := .next } }) ∧
  (∀ (s : State) (p : Fin 8) (r : ScriptRun) (w : Nat) (ack : Bool) (d : List Byte), (ack = true ∨ s.portMode p = 2) →
    s.atStep p 2 .bus r w → d.length = bitsOf w 32 10 → r.step + 1 < (s.scriptOf p r.script).length →
    ∃ t, exec (.busTransferDone p ack d) s = .next t ∧ ChangesPort s t p ∧
      tblGetRange (fun _ => (0 : Byte)) (t.port p).buf (bitsOf w 0 10) d.length = d ∧
      (∀ k, (k < bitsOf w 0 10 ∨ bitsOf w 0 10 + d.length ≤ k) →
        tblGet (fun _ => (0 : Byte)) (t.port p).buf k = tblGet (fun _ => (0 : Byte)) (s.port p).buf k) ∧
      t.port p = { s.port p with
        buf := (t.port p).buf, busHeld := bitOf w 48, bus := [], run := some { r with step := r.step + 1, phase := .next } }) ∧
  (∀ (s : State) (p : Fin 8) (r : ScriptRun) (w op : Nat) (d : List Byte), (op = 1 ∨ op = 2) → s.atStep p op .bus r w →
    s.portMode p ≠ 2 → r.entry = none → r.init = false → s.noWait (.port p) →
    (s.port p).nacks + 1 < orOne (s.get F.SPT_CFG_NACK_LIMIT) →
    ∃ t, exec (.busTransferDone p false d) s = .next t ∧ ScriptEnds s t p 1 ∧ (t.port p).nacks = (s.port p).nacks + 1) ∧
  (∀ (s : State) (p : Fin 8) (r : ScriptRun) (w op : Nat) (d : List Byte), (op = 1 ∨ op = 2) → s.atStep p op .bus r w →
    s.portMode p ≠ 2 → r.entry = none → s.railOn p = true → orOne (s.get F.SPT_CFG_NACK_LIMIT) ≤ (s.port p).nacks + 1 →
    ∃ t, exec (.busTransferDone p false d) s = .next t ∧ (t.port p).run = none ∧ (t.port p).nacks = 0 ∧ t.portState p = 1 ∧
      t.getAt F.SPT_PORTn_STATUS_RESULT p = 1 ∧ (s.noWait (.port p) → t.log = (s.ev2 0x060A p 1).log) ∧ t.mem = s.mem) ∧
  (∀ (s : State) (p : Fin 8) (r : ScriptRun) (w : Nat), s.atStep p 3 .next r w →
    s.getAt F.SPT_PORTn_STATUS_INT_FLOAT p = 0 → s.portInt p = false → ∃ t, exec (.waitInt p) s = .next t ∧
      ChangesPort s t p ∧ t.port p = { s.port p with run := some { r with phase := .waitInt } }) ∧
  (∀ (s : State) (p : Fin 8) (r : ScriptRun) (w : Nat), s.atStep p 3 .next r w →
    s.getAt F.SPT_PORTn_STATUS_INT_FLOAT p = 0 → s.portInt p = true → r.step + 1 < (s.scriptOf p r.script).length →
    ∃ t, exec (.waitInt p) s = .next t ∧ ChangesPort s t p ∧
      t.port p = { s.port p with run := some { r with step := r.step + 1, phase := .next } }) ∧
  (∀ (s : State) (p : Fin 8) (r : ScriptRun) (w : Nat), s.atStep p 3 .next r w → r.entry = none → r.init = false →
    s.noWait (.port p) → s.getAt F.SPT_PORTn_STATUS_INT_FLOAT p = 1 → ∃ t, exec (.waitInt p) s = .next t ∧ ScriptEnds s t p 2) ∧
  (∀ (s : State) (p : Fin 8) (r : ScriptRun) (w : Nat), s.atStep p 3 .waitInt r w → r.entry = none → r.init = false →
    s.noWait (.port p) → ∃ t, exec (.waitIntTimeout p) s = .next t ∧ ScriptEnds s t p 2) ∧
  (∀ (s : State) (p : Fin 8) (r : ScriptRun) (w : Nat), s.atStep p 4 .delay r w →
    r.step + 1 < (s.scriptOf p r.script).length → ∃ t, exec (.delayEnd p) s = .next t ∧ ChangesPort s t p ∧
      t.port p = { s.port p with run := some { r with step := r.step + 1, phase := .next } }) ∧
  (∀ (s : State) (p : Fin 8) (r : ScriptRun) (w : Nat), s.atStep p 4 .delay r w → r.entry = none → r.init = false →
    s.noWait (.port p) → r.step + 1 = (s.scriptOf p r.script).length → ∃ t, exec (.delayEnd p) s = .next t ∧ ScriptEnds s t p 0) ∧
  (∀ (s : State) (p : Fin 8) (r : ScriptRun) (w : Nat), s.atStep p 5 .next r w →
    bitsOf w 40 6 < (s.scriptOf p r.script).length → r.step + 1 < (s.scriptOf p r.script).length → bitsOf w 32 8 ≠ 0 →
    ∃ t, exec (.loop p) s = .next t ∧ ChangesPort s t p ∧
      (r.looping = false → (t.port p).run = some { r with step := bitsOf w 40 6, phase := .next, looping := true,
                                                          left := bitsOf w 32 8 - 1 }) ∧
      (r.looping = true → r.left ≠ 0 → (t.port p).run = some { r with step := bitsOf w 40 6, phase := .next, looping := true,
                                                                       left := r.left - 1 }) ∧
      (r.looping = true → r.left = 0 → (t.port p).run = some { r with step := r.step + 1, phase := .next, looping := false,
                                                                       left := 0 }))

/-- STORE, SIGNAL_TALLY, SIGNAL_LINE and HELD_SIGNAL_APPLY (R272 to R276). -/
def Obligations.ScriptOutput : Prop :=
  (∀ (s : State) (p : Fin 8) (r : ScriptRun) (w : Nat), s.atStep p 6 .next r w → bitOf w 55 = false → 0 < bitsOf w 32 11 →
    r.step + 1 < (s.scriptOf p r.script).length → ∃ t, exec (.scriptStore p) s = .next t ∧
      t.yardRead (bitsOf w 0 32) (bitsOf w 32 11)
        = tblGetRange (fun _ => (0 : Byte)) (s.port p).buf (bitsOf w 43 10) (bitsOf w 32 11) ∧
      (∀ b, (b < bitsOf w 0 32 ∨ bitsOf w 0 32 + bitsOf w 32 11 ≤ b) → t.yardRead b 1 = s.yardRead b 1) ∧
      bitOf (t.mem.plot .yard (bitsOf w 0 32 / 4096)) 0 = true ∧
      t.mem = { s.mem with yard := t.mem.yard, tYard := t.mem.tYard } ∧
      t.port p = { s.port p with run := some { r with step := r.step + 1, phase := .next } } ∧
      OnlyRegs s t [R.SPT_PORTn_STATUS.at p]) ∧
  (∀ (s : State) (p : Fin 8) (r : ScriptRun) (w : Nat), s.atStep p 6 .next r w → bitOf w 55 = true → 0 < bitsOf w 32 11 →
    s.steadyAt (12 + bitsOf w 0 32 / 0x400000) 2 = true →
    s.steadyAt (12 + (bitsOf w 0 32 + bitsOf w 32 11 - 1) / 0x400000) 2 = true →
    r.step + 1 < (s.scriptOf p r.script).length → ∃ t, exec (.scriptStore p) s = .next t ∧
      t.mem.read .loft (bitsOf w 0 32) (bitsOf w 32 11)
        = tblGetRange (fun _ => (0 : Byte)) (s.port p).buf (bitsOf w 43 10) (bitsOf w 32 11) ∧
      (∀ b, (b < bitsOf w 0 32 ∨ bitsOf w 0 32 + bitsOf w 32 11 ≤ b) → t.mem.read .loft b 1 = s.mem.read .loft b 1) ∧
      bitOf (t.mem.plot .loft (bitsOf w 0 32 / 4096)) 0 = true ∧
      t.mem = { s.mem with loft := t.mem.loft, tLoft := t.mem.tLoft } ∧
      t.port p = { s.port p with run := some { r with step := r.step + 1, phase := .next } } ∧
      (s.noWait (.port p) → OnlyRegs s t [R.SPT_PORTn_STATUS.at p])) ∧
  (∀ (s : State) (p : Fin 8) (r : ScriptRun) (w : Nat), s.atStep p 7 .next r w → bitsOf w 52 4 = 0 → s.coreOn = true →
    s.TallyQuiet (bitsOf w 32 12) → r.step + 1 < (s.scriptOf p r.script).length → ∃ t, exec (.signalTally p) s = .next t ∧
      TallyGains s t (bitsOf w 32 12) (bitsOf w 0 16) ∧ t.mem = s.mem ∧
      t.port p = { s.port p with run := some { r with step := r.step + 1, phase := .next } } ∧
      OnlyRegs s t [R.SPT_PORTn_STATUS.at p, R.TLY_TALLYt.at (bitsOf w 32 12), R.TLY_COUNTS.at 0, R.LOG_NEXT.at 0,
        R.LOG_STATUS.at 0]) ∧
  (∀ (s : State) (p : Fin 8) (r : ScriptRun) (w : Nat), s.atStep p 7 .next r w → bitsOf w 52 4 = 0 → s.coreOn = false →
    (s.port p).held = none → r.step + 1 < (s.scriptOf p r.script).length → ∃ t, exec (.signalTally p) s = .next t ∧
      ChangesPort s t p ∧ t.port p = { s.port p with held := some (bitsOf w 32 12, bitsOf w 0 16)
                                                     run := some { r with step := r.step + 1, phase := .next } }) ∧
  (∀ (s : State) (p : Fin 8) (r : ScriptRun) (w : Nat), s.atStep p 7 .next r w → bitsOf w 52 4 = 0 → s.coreOn = false →
    (s.port p).held ≠ none → ∃ t, exec (.signalTally p) s = .next t ∧ ChangesPort s t p ∧
      t.port p = { s.port p with run := some { r with phase := .behind } }) ∧
  (∀ (s : State) (p : Fin 8) (x v : Nat), (s.port p).held = some (x, v) → x < 4096 → s.coreOn = true → s.TallyQuiet x →
    (∀ r, (s.port p).run = some r → r.phase ≠ .behind) → ∃ t, exec (.heldSignalApply p) s = .next t ∧ TallyGains s t x v ∧
      t.port p = { s.port p with held := none } ∧ t.mem = s.mem) ∧
  (∀ (s : State) (p : Fin 8) (x v w : Nat) (r : ScriptRun), (s.port p).held = some (x, v) → x < 4096 → s.coreOn = true → s.TallyQuiet x →
    s.atStep p 7 .behind r w → ∃ t, exec (.heldSignalApply p) s = .next t ∧ TallyGains s t x v ∧
      t.port p = { s.port p with held := none, run := some { r with phase := .next } } ∧ t.mem = s.mem) ∧
  (∀ (s : State) (p : Fin 8) (r : ScriptRun) (w : Nat), s.atStep p 7 .next r w → bitsOf w 52 4 = 1 → s.portMode p ≠ 2 →
    r.step + 1 < (s.scriptOf p r.script).length → ∃ t, exec (.signalLine p) s = .next t ∧ ChangesPort s t p ∧
      t.port p = { s.port p with line := bitsOf w 0 2, run := some { r with step := r.step + 1, phase := .next } }) ∧
  ∀ (s : State) (p : Fin 8) (r : ScriptRun) (w : Nat), s.atStep p 7 .next r w → bitsOf w 52 4 = 1 → s.portMode p = 2 →
    r.entry = none → r.init = false → s.noWait (.port p) → ∃ t, exec (.signalLine p) s = .next t ∧ ScriptEnds s t p 5 ∧
      (t.port p).line = (s.port p).line

/-- PROBE, PROBE_PERIOD, PROBE_DONE, RAIL_GOOD, RAIL_FAULT, RAIL_BACKOFF_END, FAIL_COUNT_CLEAR, FAULT_CLR and FAULT_RESET_TIMER. -/
def Obligations.PortProbes : Prop :=
  (∀ (s : State) (p : Fin 8), s.portsOn = true → s.portState p = 0 → ∃ t, exec (.probe p) s = .next t ∧ t.portState p = 1 ∧
    ChangesRegs s t [R.SPT_PORTn_STATUS.at p]) ∧
  (∀ (s : State) (p : Fin 8), s.portsOn = true → s.portState p = 0 → (s.port p).probing = false →
    s.getAt F.SPT_PORTn_STATUS_CLASS p ∈ [1, 3, 4] → ∃ t, exec (.probePeriod p) s = .next t ∧ t.portState p = 1 ∧
      ChangesRegs s t [R.SPT_PORTn_STATUS.at p]) ∧
  (∀ (s : State) (p : Fin 8), s.portsOn = true → 4 ≤ s.portState p → (s.port p).probing = false →
    s.getAt F.SPT_PORTn_STATUS_CLASS p ∈ [1, 3, 4] → ∃ t, exec (.probePeriod p) s = .next t ∧
      t.port p = { s.port p with probing := true } ∧ t.regs = s.regs ∧ ChangesPort s t p) ∧
  (∀ (s : State) (p : Fin 8) (l : List ProbeSample), s.portsOn = true → s.portState p = 1 → l.length = 5 →
    (∀ x ∈ l, probeBand x.a = probeBand x.b) →
    let c := probeClass (l.map fun x => probeBand x.a)
    ∃ t, exec (.probeDone p l) s = .next t ∧ t.getAt F.SPT_PORTn_STATUS_CLASS p = c ∧
      t.portState p = (if s.senseHold = true then 6 else if s.portEnabled p = true ∧ c = 2 ∧ s.isUp = true then 2 else 0) ∧
      t.log = (if s.getAt F.SPT_PORTn_STATUS_CLASS p = c then s.log else (s.ev2 0x0602 p c).log) ∧
      t.port p = { s.port p with probes := 0, probing := false } ∧ t.mem = s.mem ∧
      OnlyRegs s t [R.SPT_PORTn_STATUS.at p, R.LOG_NEXT.at 0, R.LOG_STATUS.at 0]) ∧
  (∀ (s : State) (p : Fin 8) (l : List ProbeSample), s.portsOn = true → 4 ≤ s.portState p → (s.port p).probing = true →
    (∀ x ∈ l, probeBand x.a = probeBand x.b) → ∃ t, exec (.probeDone p l) s = .next t ∧
      t.getAt F.SPT_PORTn_STATUS_CLASS p = probeClass (l.map fun x => probeBand x.a) ∧ t.portState p = s.portState p ∧
      t.port p = { s.port p with probes := 0, probing := false } ∧ t.mem = s.mem) ∧
  (∀ (s : State) (p : Fin 8) (l : List ProbeSample) (x : ProbeSample), s.portsOn = true → s.portState p = 1 → x ∈ l →
    probeBand x.a ≠ probeBand x.b → (s.port p).probes + 1 < 20 → ∃ t, exec (.probeDone p l) s = .next t ∧
      t.port p = { s.port p with probes := (s.port p).probes + 1 } ∧ t.regs = s.regs ∧ ChangesPort s t p) ∧
  (∀ (s : State) (p : Fin 8) (l : List ProbeSample) (x : ProbeSample), s.portsOn = true → s.portState p = 1 → x ∈ l →
    probeBand x.a ≠ probeBand x.b → 20 ≤ (s.port p).probes + 1 → ∃ t, exec (.probeDone p l) s = .next t ∧
      t.getAt F.SPT_PORTn_STATUS_CLASS p = 1 ∧ t.portState p = (if s.senseHold = true then 6 else 0) ∧ (t.port p).probes = 0 ∧
      t.log = (if s.getAt F.SPT_PORTn_STATUS_CLASS p = 1 then s.ev 0x0603 p else (s.ev2 0x0602 p 1).ev 0x0603 p).log) ∧
  (∀ (s : State) (p : Fin 8) (f : Bool) (l : List I3cTarget), s.portState p = 2 → s.portIdle p = true →
    (s.getAt F.SPT_PORTn_CFG_INT_TEST_EN p = 0 ∨ s.portMode p = 2) → s.getAt F.SPT_PORTn_CFG_INIT_EN p = 0 →
    ∃ t, exec (.railGood p f l) s = .next t ∧ t.portState p = 3 ∧
      (s.portMode p = 1 → t.getAt F.SPT_PORTn_I3C_TARGETS p = min 4 l.length ∧ t.log = (s.ev2 0x060B p (min 4 l.length)).log) ∧
      (s.portMode p ≠ 1 → ChangesRegs s t [R.SPT_PORTn_STATUS.at p]) ∧ t.mem = s.mem ∧ t.head = s.head) ∧
  (∀ (s : State) (p : Fin 8) (f : Bool) (l : List I3cTarget), s.portState p = 2 → s.portIdle p = true → s.portMode p ≠ 1 →
    (s.getAt F.SPT_PORTn_CFG_INT_TEST_EN p = 0 ∨ s.portMode p = 2) → s.getAt F.SPT_PORTn_CFG_INIT_EN p = 1 →
    s.scriptOf p (s.getAt F.SPT_PORTn_CFG_INIT_SCRIPT p) ≠ [] → ∃ t, exec (.railGood p f l) s = .next t ∧
      (t.port p).run = some { script := s.getAt F.SPT_PORTn_CFG_INIT_SCRIPT p, init := true } ∧ t.portState p = 2 ∧
      t.getAt F.SPT_PORTn_STATUS_BUSY p = 1 ∧ t.getAt F.SPT_PORTn_STATUS_SCRIPT p = s.getAt F.SPT_PORTn_CFG_INIT_SCRIPT p ∧
      ChangesPort s t p) ∧
  (∀ (s : State) (p : Fin 8) (k : RailFaultKind), s.railOn p = true → s.portIdle p = true →
    s.getAt F.SPT_PORTn_STATUS_FAILS p < 7 → ∃ t, exec (.railFault p k) s = .next t ∧ t.portState p = 4 ∧
      t.getAt F.SPT_PORTn_STATUS_FAILS p = s.getAt F.SPT_PORTn_STATUS_FAILS p + 1 ∧
      t.getAt F.SPT_PORTn_COUNTS_RAIL_FAULTS p = min (s.getAt F.SPT_PORTn_COUNTS_RAIL_FAULTS p + 1) 255 ∧
      t.log = (s.ev2 0x0604 p (if k = .short then 0 else 1)).log ∧
      ChangesLogged s t [R.SPT_PORTn_STATUS.at p, R.SPT_PORTn_COUNTS.at p]) ∧
  (∀ (s : State) (p : Fin 8) (k : RailFaultKind), s.railOn p = true → s.portIdle p = true →
    s.getAt F.SPT_PORTn_STATUS_FAILS p = 7 → ∃ t, exec (.railFault p k) s = .next t ∧ t.portState p = 5 ∧
      t.getAt F.SPT_PORTn_STATUS_FAILS p = 8 ∧
      t.log = ((s.ev2 0x0604 p (if k = .short then 0 else 1)).ev 0x0605 p).log) ∧
  (∀ (s : State) (p : Fin 8), s.portState p = 4 → ∃ t, exec (.railBackoffEnd p) s = .next t ∧
    t.portState p = (if s.portsOn = false then 0 else if s.senseHold = true then 6 else 1) ∧
    t.getAt F.SPT_PORTn_STATUS_FAILS p = s.getAt F.SPT_PORTn_STATUS_FAILS p ∧ ChangesRegs s t [R.SPT_PORTn_STATUS.at p]) ∧
  (∀ (s : State) (p : Fin 8), s.railOn p = true → ∃ t, exec (.failCountClear p) s = .next t ∧
    t.getAt F.SPT_PORTn_STATUS_FAILS p = 0 ∧ t.portState p = s.portState p ∧ ChangesRegs s t [R.SPT_PORTn_STATUS.at p]) ∧
  (∀ (s : State) (v : Word), s.reaches .steward = true → s.level 20 ≠ 2 → F.SPT_FAULT_CLR_KEY.of v = 0x5043 →
    ∃ t, exec (.faultClr .steward v) s = .next t ∧ (∀ p < 8, t.port p = { s.port p with clearDue := (s.port p).clearDue || v.getLsbD p }) ∧
      t = { s with head := { s.head with ports := t.head.ports } }) ∧
  (∀ (s : State) (v : Word), s.reaches .steward = true → s.level 20 = 2 → F.SPT_FAULT_CLR_KEY.of v = 0x5043 →
    ∃ t, exec (.faultClr .steward v) s = .next t ∧
    (∀ p < 8, v.getLsbD p = true → s.portState p = 5 → t.portState p = s.probeState ∧ t.getAt F.SPT_PORTn_STATUS_FAILS p = 0) ∧
    (∀ p < 8, (v.getLsbD p = false ∨ s.portState p ≠ 5) → t.portState p = s.portState p ∧
      t.getAt F.SPT_PORTn_STATUS_FAILS p = s.getAt F.SPT_PORTn_STATUS_FAILS p) ∧ t.mem = s.mem ∧ t.head = s.head) ∧
  (∀ (s : State) (v : Word), s.coreOn = true → F.SPT_FAULT_CLR_KEY.of v ≠ 0x5043 → exec (.faultClr .steward v) s = .next s) ∧
  (∀ (s : State) (p : Fin 8), s.portPolicy p = 1 → s.portState p = 5 → ∃ t, exec (.faultResetTimer p) s = .next t ∧
    t.portState p = s.probeState ∧ t.getAt F.SPT_PORTn_STATUS_FAILS p = 0 ∧ t.log = (s.ev2 0x0606 p 1).log ∧
    ChangesLogged s t [R.SPT_PORTn_STATUS.at p]) ∧
  ∀ (s : State) (p : Fin 8), s.portPolicy p ≠ 1 → exec (.faultResetTimer p) s = .next s

/-- INT_ACTIVE, IBI, BUS_STUCK and INT_TEST (R261, R262, R285, R286). -/
def Obligations.PortLines : Prop :=
  (∀ (s : State) (p : Fin 8) (l : Bool), (s.portReady p = true ∨ s.portState p = 2) → s.portIdle p = true →
    ∃ t, exec (.intActive p l) s = .next t ∧ t.port p = { s.port p with intLevel := some l } ∧
      (t.portInt p = true ↔ ((s.portMode p ≠ 2 ∧ l = (s.getAt F.SPT_PORTn_CFG_INT_POL p == 1)) ∨ (s.port p).ibi = true)) ∧
      (t.portInt p = true → ∀ i < 16, (s.slot i).phase = .waiting 1 p → (t.slot i).met = true) ∧
      (t.portInt p = true → s.portInt p = false → s.yardRuns = true → ∀ i < 16, s.getAt F.YRD_SLOTn_TRIG_TRIGGER i = 2 →
        s.getAt F.YRD_SLOTn_TRIG_TRIG_INDEX i = p.val → bitOf (s.get F.YRD_CFG_SLOT_EN) i = true → (s.slot i).phase = .idle →
        (t.slot i).phase = .running) ∧
      ((t.portInt p = false ∨ s.portInt p = true) → t.log = s.log ∧ OnlyRegs s t [R.SPT_PORTn_STATUS.at p]) ∧ t.mem = s.mem) ∧
  (∀ (s : State) (p : Fin 8) (l : Bool) (r : ScriptRun) (w : Nat), (s.portReady p = true ∨ s.portState p = 2) →
    s.portMode p ≠ 2 → l = (s.getAt F.SPT_PORTn_CFG_INT_POL p == 1) → s.atStep p 3 .waitInt r w →
    r.step + 1 < (s.scriptOf p r.script).length → ∃ t, exec (.intActive p l) s = .next t ∧
      (t.port p).run = some { r with step := r.step + 1, phase := .next } ∧ t.mem = s.mem) ∧
  (∀ (s : State) (p : Fin 8) (a : BitVec 7), s.portMode p = 1 → (s.portReady p = true ∨ s.portState p = 2) →
    s.portIdle p = true → s.getAt F.SPT_PORTn_CFG_I3C_BASE p ≤ a.toNat →
    a.toNat < s.getAt F.SPT_PORTn_CFG_I3C_BASE p + s.getAt F.SPT_PORTn_I3C_TARGETS p → ∃ t, exec (.ibi p a) s = .next t ∧
      t.port p = { s.port p with ibi := true } ∧ t.portInt p = true ∧
      t.getAt F.SPT_PORTn_I3C_IBIS p = min (s.getAt F.SPT_PORTn_I3C_IBIS p + 1) 65535 ∧
      (∀ i < 16, (s.slot i).phase = .waiting 1 p → (t.slot i).met = true) ∧ t.mem = s.mem) ∧
  (∀ (s : State) (p : Fin 8) (l : Fin 2), s.railOn p = true → s.portMode p ≠ 2 → s.portIdle p = true →
    ∃ t, exec (.busStuck p l true) s = .next t ∧ t.portState p = s.portState p ∧
      t.getAt F.SPT_PORTn_COUNTS_BUS_STUCK p = min (s.getAt F.SPT_PORTn_COUNTS_BUS_STUCK p + 1) 255 ∧
      t.log = ((s.ev2 0x0607 p l).ev2 0x0608 p 0).log ∧ ChangesLogged s t [R.SPT_PORTn_COUNTS.at p]) ∧
  (∀ (s : State) (p : Fin 8) (l : Fin 2), s.railOn p = true → s.portMode p ≠ 2 → s.portIdle p = true →
    s.getAt F.SPT_PORTn_STATUS_FAILS p < 7 → ∃ t, exec (.busStuck p l false) s = .next t ∧ t.portState p = 4 ∧
      t.getAt F.SPT_PORTn_STATUS_FAILS p = s.getAt F.SPT_PORTn_STATUS_FAILS p + 1 ∧
      t.log = (((s.ev2 0x0607 p l).ev2 0x0608 p 1).ev2 0x0604 p 0).log) ∧
  (∀ (s : State) (p : Fin 8) (l : Fin 2) (r : ScriptRun), s.railOn p = true → s.portMode p ≠ 2 → (s.port p).run = some r →
    r.entry = none → r.init = false → ∃ t, exec (.busStuck p l true) s = .next t ∧ (t.port p).run = none ∧
      t.getAt F.SPT_PORTn_STATUS_RESULT p = 4 ∧ t.getAt F.SPT_PORTn_STATUS_BUSY p = 0 ∧ t.mem = s.mem) ∧
  (∀ (s : State) (p : Fin 8), s.portReady p = true → s.portInt p = false → s.portMode p ≠ 2 → s.portIdle p = true →
    s.getAt F.SPT_PORTn_CFG_INT_TEST_EN p = 1 → ∃ t, exec (.intTest p true) s = .next t ∧
      t.getAt F.SPT_PORTn_STATUS_INT_FLOAT p = 1 ∧ t.log = (s.ev 0x0609 p).log ∧
      t.getAt F.SPT_PORTn_COUNTS_INT_FLOATS p = min (s.getAt F.SPT_PORTn_COUNTS_INT_FLOATS p + 1) 255 ∧
      ChangesLogged s t [R.SPT_PORTn_STATUS.at p, R.SPT_PORTn_COUNTS.at p]) ∧
  ∀ (s : State) (p : Fin 8), s.portReady p = true → s.portInt p = false → s.portMode p ≠ 2 →
    s.getAt F.SPT_PORTn_CFG_INT_TEST_EN p = 1 → ∃ t, exec (.intTest p false) s = .next t ∧
      t.getAt F.SPT_PORTn_STATUS_INT_FLOAT p = 0 ∧ ChangesRegs s t [R.SPT_PORTn_STATUS.at p]

/-- NOP, MATMUL, CIM_MATMUL, the VECTOR functions, BACKWARD, UPDATE and EMIT, and the checks before them (R294 to R299). -/
def Obligations.TileOperations : Prop :=
  (∀ (s : State) (st : Fin 96) (j : TileJob) (d : Desc), s.atDesc st 0 0 j d → s.passes st j d →
    ∃ t k, exec (.nop st) s = .next t ∧ TileBehind s t st j k d ∧ k.writes = j.writes ∧ k.taint = j.taint ∧ t.log = s.log) ∧
  (∀ (s : State) (st : Fin 96) (j : TileJob) (d : Desc), s.atDesc st 1 0 j d → s.passes st j d → s.penOn st d →
    let m := s.tileMem j
    let wgt := (d.wgt' st).bytes m
    let scl := (d.scl' st).bytes m
    let acts := fun v => actOps d (outlierChans d scl) v
    let outl := fun n => outlierActs m st (fieldAt scl d.partD 4) n d.outliers
    let taint := (d.src' st).taint m ||| (d.wgt' st).taint m ||| (d.scl' st).taint m ||| (outlierSrc d st scl).taint m
    (∀ r ∈ [d.src' st, d.wgt' st, d.dst' st, d.scl' st, outlierSrc d st scl], s.regionOn r) →
    ∃ t k, exec (.matmul st) s = .next t ∧ TileBehind s t st j k d ∧
      Writes j k d st taint ((d.vectors m st).zipIdx.map fun p => (List.range d.m).map
        (matmulOut d (d.outCfg ((s.latch j d).2.scaleOf d)) wgt scl (acts p.1) (outl p.2)))) ∧
  (∀ (s : State) (st : Fin 96) (j : TileJob) (d : Desc), s.atDesc st 2 0 j d → s.passes st j d → s.penOn st d →
    (∀ r ∈ [d.src' st, d.dst' st, d.scl' st, ⟨descLoc st d.emul, if j.emul then 0x4000 else 0⟩], s.regionOn r) →
    ∃ t k vs, exec (.cimMatmul st) s = .next t ∧ TileBehind s t st j k d ∧
      Writes j k d st ((s.setCarriers st j d).foldl (fun a x => a ||| s.setTaint x) ((d.src' st).taint (s.tileMem j)
        ||| (d.scl' st).taint (s.tileMem j)
        ||| (if j.emul then (s.tileMem j).taint .loft (bitsOf d.emul 0 24) 0x4000 else 0))) vs ∧
      k.adapted = (j.adapted || (s.setCarriers st j d).any fun x => s.getAt F.CIM_STALLs_STATE_ADAPTED x == 1) ∧
      vs.length = d.n ∧ (∀ v ∈ vs, v.length = d.m ∧ ∀ o ∈ v, satOut d.uint o.code = o.code) ∧
      (s.cimExact st j = true →
        let m := s.tileMem j
        let z := lineCode d.uint (BitVec.ofNat 8 d.zpIn)
        vs = (d.vectors m st).map fun v => (List.range d.m).map (cimOut d (d.outCfg ((s.latch j d).2.scaleOf d))
          ((List.range d.j).map (s.cimRows st m j d))
          (inRuns 64 (v.map (lineCode d.uint) ++ List.replicate (64 * d.j - (v.map (lineCode d.uint)).length) z)) z
          ((d.scl' st).bytes m)))) ∧
  (∀ (s : State) (st : Fin 96) (j : TileJob) (d : Desc),
    ∀ q ∈ ([(.vecRequant st, 0), (.vecAdd st, 1), (.vecMul st, 2), (.vecMax st, 3), (.vecMaxpool st, 4), (.vecAvgpool st, 5),
        (.vecLut st, 6), (.vecSoftmax st, 7)] : List (Instr × Nat)),
    s.atDesc st 4 q.2 j d → s.passes st j d → s.penOn st d →
    (∀ r ∈ [d.src' st, d.wgt' st, d.dst' st, d.scl' st], s.regionOn r) →
    let m := s.tileMem j
    let taint := (d.src' st).taint m ||| (if d.wgtLen = 0 then 0 else (d.wgt' st).taint m)
      ||| (if d.sclLen = 0 then 0 else (d.scl' st).taint m)
    let x := (s.vecArgs st j d).elem d 0
    let y := (s.vecArgs st j d).elem d 1
    ∃ t k vs, exec q.1 s = .next t ∧ TileBehind s t st j k d ∧ Writes j k d st taint vs ∧ vs.length = d.n ∧
      (∀ v ∈ vs, v.length = d.m ∧ ∀ o ∈ v, satOut d.uint o.code = o.code) ∧
      (q.2 ≤ 3 → ∀ n < d.n, ∀ c < min d.m d.k, (vs.getD n [])[c]? = some (outFrom (d.outCfg ((s.latch j d).2.scaleOf d))
        (if q.2 = 0 then x n c else if q.2 = 1 then add32 (x n c) (y n c) else if q.2 = 2 then mul32 (x n c) (y n c)
          else max (x n c) (y n c)))) ∧
      (q.2 = 6 → ∃ f : Nat → OutVal, ∀ n < d.n, ∀ c < min d.m d.k,
        (vs.getD n [])[c]? = some (f (byteAt ((d.src' st).bytes m) (n * d.srcStride + c))))) ∧
  (∀ (s : State) (st : Fin 96) (j : TileJob) (d : Desc), s.atDesc st 5 0 j d → s.passes st j d → s.penOn st d →
    (∀ r ∈ [d.src' st, d.wgt' st, d.dst' st, d.scl' st], s.regionOn r) →
    let m := s.tileMem j
    let errs := inRuns d.m (((d.wgt' st).bytes m).map fun b => b.toInt)
    let acts := (d.vectors m st).map (actOps d [])
    let q := requantRows 127 (groupOf d.mode) ((List.range d.m).map fun i => (List.range d.k).map
      (gradOf errs acts ((halves ((d.scl' st).bytes m)).map f16) i))
    ∃ t k, exec (.backward st) s = .next t ∧ TileBehind s t st j k d ∧
      k.writes = j.writes ++ vecWrites (d.dst' st).loc 0 ((d.src' st).taint m ||| (d.wgt' st).taint m ||| (d.scl' st).taint m)
        [placeParts [(0, codeBytes q), (d.gradA, scaleBytes q)]]) ∧
  (∀ (s : State) (st : Fin 96) (j : TileJob) (d : Desc), s.atDesc st 6 0 j d → s.passes st j d → s.penOn st d →
    (∀ r ∈ [d.src' st, d.wgt' st, d.dst' st], s.regionOn r) →
    let m := s.tileMem j
    let gb := (d.src' st).bytes m
    let sb := (d.wgt' st).bytes m
    let mom := ((partVals d sb d.stV d.stVA).zip (partVals d gb 0 d.gradA)).map fun p =>
      add32 (mul32 (f16 (s.get F.NUM_ADAPT_CFG_BETA)) p.1) p.2
    let w := ((partVals d sb 0 d.stA).zip mom).map fun p => add32 p.1 (-(mul32 (f16 d.outScale) p.2))
    let qw := requantRows 127 (groupOf d.mode) (inRuns d.k w)
    let qv := requantRows 127 (groupOf d.mode) (inRuns d.k mom)
    ∃ t k, exec (.update st) s = .next t ∧ TileBehind s t st j k d ∧
      k.writes = j.writes ++ vecWrites (d.dst' st).loc 0 ((d.src' st).taint m ||| (d.wgt' st).taint m)
        [placeParts [(0, codeBytes qw), (d.stA, scaleBytes qw), (d.stB, List.replicate d.m 0), (d.stV, codeBytes qv),
          (d.stVA, scaleBytes qv)]]) ∧
  (∀ (s : State) (st : Fin 96) (j : TileJob) (d : Desc), s.atDesc st 15 0 j d → s.passes st j d → s.penOn st d →
    let m := s.tileMem j
    let r : Region := ⟨(d.src' st).loc, recLen (byteAt (Region.bytes ⟨(d.src' st).loc, 1⟩ m) 0)⟩
    s.regionOn (d.src' st) →
    (r.fits = false → (s.stall st).cut = none → s.fab.reissues = [] → ∃ t, exec (.emit st) s = .next t ∧ TileRejected s t st 5) ∧
    (r.fits = true → s.recordSplit r = true → (s.stall st).cut = none → s.fab.reissues = [] →
      ∃ t, exec (.emit st) s = .next t ∧ TileRejected s t st 3) ∧
    (r.fits = true → s.recordSplit r = false → s.regionOn r → s.gateOpen = false → ∃ t, exec (.emit st) s = .next t ∧
      let k := (s.latch j d).2
      (t.stall st).tile = some { k with tileId := d.tileId, record := r.bytes m, recTaint := j.taint ||| r.taint m
                                        taint := j.taint ||| r.taint m } ∧ t.regs = s.regs ∧ t.mem = s.mem ∧ t.log = s.log) ∧
    (∀ h, r.fits = true → s.recordSplit r = false → s.regionOn r → s.gateOpen = true →
      let p : Presented := { bytes := r.bytes m, taint := j.taint ||| r.taint m, adapted := j.adapted, yard := false,
                             slot := j.slot.getD 0, remapped := s.remapped j.ring }
      s.headOf p = some h → s.gateStep p h = 7 → ∃ t k, exec (.emit st) s = .next t ∧ (t.stall st).tile = some k ∧
        k.ended = true ∧ k.record = [] ∧ k.tally = d.tally ∧ k.tallyAdd = d.tallyAdd ∧ t.outW = (s.outW + 1) % 256 ∧
        t.yardRead (0x5000 + 64 * (s.outW % 64)) 64 = s.stamp p h (s.getAt F.GATE_HEADi_SEQ_NEXT_SEQ h) ∧
        t.get F.GATE_PASSED_COUNT = (s.get F.GATE_PASSED_COUNT + 1) % 2 ^ 32)) ∧
  ∀ (s : State) (st : Fin 96) (j : TileJob),
    ∀ q ∈ ([(.nop st, 0, 0), (.matmul st, 1, 0), (.cimMatmul st, 2, 0), (.vecRequant st, 4, 0), (.vecAdd st, 4, 1),
        (.vecMul st, 4, 2), (.vecMax st, 4, 3), (.vecMaxpool st, 4, 4), (.vecAvgpool st, 4, 5), (.vecLut st, 4, 6),
        (.vecSoftmax st, 4, 7), (.backward st, 5, 0), (.update st, 6, 0), (.emit st, 15, 0)] : List (Instr × Nat × Nat)),
    (s.stall st).tile = some j → s.stallRuns st = true → j.gated = false → j.ended = false → j.record = [] →
    (j.slot = none → s.steadyAt (12 + (j.first + 64 * j.pos) / 0x400000) 2 = true) →
    (s.stall st).cut = none → s.fab.reissues = [] →
    let b := s.descBytes j j.pos
    let d := readDesc b
    let bad := fun (n : Nat) => ∃ t, exec q.1 s = .next t ∧ TileRejected s t st n
    (fieldAt b 60 4 ≠ crc32 (b.take 60) → bad 6) ∧
    (fieldAt b 60 4 = crc32 (b.take 60) → (headerOk d = true → d.op = q.2.1 ∧ (d.op = 4 → d.func = q.2.2 ∨ 7 < d.func)) →
      (s.descOk st j d = false → bad 5) ∧
      (s.descOk st j d = true → s.regionOn (d.scl' st) → ¬ s.tableFine st j d → bad 5) ∧
      (s.descOk st j d = true → s.regionOn (d.scl' st) → s.tableFine st j d → d.overlaps st = true → bad 7) ∧
      (s.descOk st j d = true → s.regionOn (d.scl' st) → s.tableFine st j d → d.overlaps st = false →
        s.penStatus j d st = 2 → bad 2) ∧
      (s.descOk st j d = true → s.regionOn (d.scl' st) → s.tableFine st j d → d.overlaps st = false →
        s.penStatus j d st = 3 → bad 3))

/-- TILE_COMPLETE, ECC_CORRECTED, ECC_UNCORRECTABLE, WINDOW_CLOSE, DESC_WATCHDOG, TILE_CUT, C0_TOKEN_REFILL and C0_RUN_OVER. -/
def Obligations.TileEnds : Prop :=
  (∀ (s : State) (st : Fin 96) (j : TileJob), s.isUp = true → (s.stall st).tile = some j → (s.stall st).cut = none →
    s.fab.reissues = [] → j.ended = true → j.status = 0 → j.data = true → j.ring < 2048 → j.releases = [] → j.nums = [] →
    j.tally < 4096 → s.TallyQuiet j.tally → (s.ring j.ring).finished = [] → j.idx = s.di j.ring →
    s.getAt F.RNG_RINGi_CFG_REPEAT j.ring = 0 → ∃ t, exec (.tileComplete st) s = .next t ∧ t.mem = s.mem.overlay j.writes ∧
      (if j.tallyAdd = 0 then ∀ x < 4096, t.tally x = s.tally x else TallyGains s t j.tally j.tallyAdd) ∧
      t.di j.ring = (j.idx + 1) % 131072 ∧ t.pi j.ring = s.pi j.ring ∧ (t.ring j.ring).tileOut = false ∧
      (t.stall st).tile = none ∧ t.getAt F.STL_STALLs_STATUS_LAST_STATUS st = 0) ∧
  (∀ (s : State) (st : Fin 96) (j : TileJob) (m : Mem) (off : Nat) (e : List Byte), s.isUp = true → (s.stall st).tile = some j →
    (s.stall st).cut = none → s.fab.reissues = [] → j.ended = true → j.status = 0 → j.data = false → j.releases = [] →
    j.nums = [] → s.oldest j.ring j.idx (s.mem.overlay j.writes) m off e →
    (j.tallyAdd = 0 ∨ (j.tally < 4096 ∧ s.TallyQuiet j.tally)) → ∃ t, exec (.tileComplete st) s = .next t ∧
      (t.stall st).tile = none ∧ t.getAt F.STL_STALLs_STATUS_LAST_STATUS st = 0 ∧
      EntryEnds s t j.ring j.idx (s.mem.overlay j.writes) m off e 0 fun x =>
        if j.tallyAdd ≠ 0 ∧ x = j.tally then min (s.tally x + j.tallyAdd) (2 ^ 32 - 1) else s.tally x) ∧
  (∀ (s : State) (st : Fin 96) (w : BitVec 14), 0 < s.level (st / 8) → ∃ t, exec (.eccCorrected st w) s = .next t ∧
    t.getAt F.STL_STALLs_ECC_CORRECTED st = min (s.getAt F.STL_STALLs_ECC_CORRECTED st + 1) 65535 ∧
    t.getAt F.STL_STALLs_ECC_LAST_WORD st = w.toNat ∧ t.log = (s.ev 0x0802 st).log ∧
    ChangesLogged s t [R.STL_STALLs_ECC.at st]) ∧
  (∀ (s : State) (st : Fin 96) (w : BitVec 14), 0 < s.level (st / 8) → s.fenced st = false →
    ∃ t, exec (.eccUncorrectable st w) s = .next t ∧ t.fenced st = true ∧
      t.getAt F.STL_STALLs_STATUS_FENCE_CAUSE st = 1 ∧ (t.stall st).tile = none ∧ (t.stall st).cut = none ∧ t.job st = none ∧
      (∀ k < 96, k ≠ st.val → t.fenced k = s.fenced k) ∧ (s.fab.reissues = [] → ∀ j, (s.stall st).tile = some j →
        (s.stall st).cut = none → s.stickyTile j = false → j.ended = false → j.anew false ∈ t.fab.reissues ∨
          t.get F.STL_COUNTS_REISSUES = min (s.get F.STL_COUNTS_REISSUES + 1) 65535 ∨
          t.get F.STL_COUNTS_TILE_FAILS = min (s.get F.STL_COUNTS_TILE_FAILS + 1) 255)) ∧
  (∀ (s : State) (st : Fin 96) (w : BitVec 14), s.fenced st = true → exec (.eccUncorrectable st w) s = .next s) ∧
  (∀ (s : State) (st : Fin 96) (g : Nat) (w : WinDone) (e : Envelope), g < 8 →
    (s.stall st).closed.find? (fun x => x.group == g) = some w → s.fab.envs[w.env]? = some e →
    let n := e.outside w.counts
    (n ≤ e.drift1 → n ≤ e.drift2 → ∃ t, exec (.windowClose st g) s = .next t ∧ t.regs = s.regs ∧ t.log = s.log ∧
      (t.stall st).closed = (s.stall st).closed.erase w ∧ elGet 0 (t.stall st).level2 g = 0) ∧
    (e.drift1 < n → w.cim = false → (n ≤ e.drift2 ∨ elGet 0 (s.stall st).level2 g < 2) →
      ∃ t, exec (.windowClose st g) s = .next t ∧ bitOf (t.getAt F.STL_STALLs_STATUS_DRIFT1 st) g = true ∧
        t.log = (s.ev2 0x0810 st g).log ∧
        elGet 0 (t.stall st).level2 g = (if e.drift2 < n then elGet 0 (s.stall st).level2 g + 1 else 0) ∧
        OnlyRegs s t [R.STL_STALLs_STATUS.at st, R.LOG_NEXT.at 0, R.LOG_STATUS.at 0]) ∧
    (e.drift1 < n → w.cim = true → n ≤ e.drift2 → s.getAt F.CIM_STALLs_STATE_VALID st = 1 →
      ∃ t, exec (.windowClose st g) s = .next t ∧ bitOf (t.getAt F.STL_STALLs_STATUS_DRIFT1 st) g = true ∧
        t.getAt F.CIM_STALLs_STATE_CAL_STATE st = 1) ∧
    (e.drift2 < n → 2 ≤ elGet 0 (s.stall st).level2 g → s.fenced st = false →
      ∃ t, exec (.windowClose st g) s = .next t ∧ t.fenced st = true ∧ t.getAt F.STL_STALLs_STATUS_FENCE_CAUSE st = 3)) ∧
  (∀ (s : State) (st : Fin 96) (j : TileJob), (s.stall st).tile = some j → s.stallRuns st = true → j.gated = false →
    j.ended = false → j.again = false → ∃ t, exec (.descWatchdog st) s = .next t ∧ t.fenced st = true ∧
      t.getAt F.STL_STALLs_STATUS_FENCE_CAUSE st = 4 ∧ (t.stall st).tile = none) ∧
  (∀ (s : State) (st : Fin 96) (j : TileJob), (s.stall st).tile = some j → s.stallRuns st = true → j.gated = false →
    j.ended = false → j.again = true → (s.stall st).cut = none → s.fab.reissues = [] →
    ∃ t, exec (.descWatchdog st) s = .next t ∧ t.fenced st = false ∧ t.getAt F.STL_STALLs_STATUS_LAST_STATUS st = 9 ∧
      t.get F.STL_COUNTS_TILE_FAILS = min (s.get F.STL_COUNTS_TILE_FAILS + 1) 255 ∧ (t.stall st).tile = none) ∧
  (∀ (s : State) (st : Fin 96) (j : TileJob), (s.stall st).tile = some j → s.stallRuns st = true → j.cls ≠ 0 → j.ended = false →
    (s.stall st).cut = none → s.c0Waits = true → s.c0Blocked = true → s.lowestClass j = true →
    ∃ t, exec (.tileCut st) s = .next t ∧
      t.stall st = { s.stall st with tile := none, cut := some j } ∧ (∀ k, k ≠ st.val → t.stall k = s.stall k) ∧
      t.get F.DSP_COUNTS_CUTS = min (s.get F.DSP_COUNTS_CUTS + 1) 65535 ∧
      t = { s with regs := t.regs, fab := { s.fab with stalls := t.fab.stalls } } ∧ OnlyRegs s t [R.DSP_COUNTS.at 0]) ∧
  (∀ s : State, s.isUp = true → s.coreOn = true → ∃ t, exec .c0TokenRefill s = .next t ∧
    t.get F.DSP_STATUS_C0_TOKENS = min (orOne (s.get F.DSP_C0_CFG_C0_BURST)) (s.get F.DSP_STATUS_C0_TOKENS + 1) ∧
    ChangesRegs s t [R.DSP_STATUS.at 0]) ∧
  ∀ (s : State) (st : Fin 96) (j : TileJob), (s.stall st).tile = some j → j.cls = 0 → ∃ t, exec (.c0RunOver st) s = .next t ∧
    t.stall st = s.stall st ∧ t.log = (s.ev 0x0C06 j.ring).log ∧
    t.get F.DSP_COUNTS_RUN_OVER = min (s.get F.DSP_COUNTS_RUN_OVER + 1) 255 ∧ t.fab = { s.fab with c0Over := true } ∧
    t.mem = s.mem ∧ OnlyRegs s t [R.DSP_COUNTS.at 0, R.LOG_NEXT.at 0, R.LOG_STATUS.at 0]

/-- PROGRAM_START, PROGRAMMED, PROGRAM_TIMEOUT, COMMIT_INTERVAL_END, COMMIT, COMMIT_DONE, COLUMN_CAL and CIM_CAL_PERIOD. -/
def Obligations.CimProgramming : Prop :=
  (∀ (s : State) (st : Fin 96), s.isUp = true → s.coreOn = true → s.alarmHold = false → s.flag F.SUP_STATUS_BRACE = false →
    s.programming.length < 24 → (List.range 96).find? (fun x => s.cim.queue.contains x && s.mayProgram x) = some st.val →
    s.steadyAt (st / 8) 2 = true → s.noWait (.prog st) → ∃ t, exec (.programStart st) s = .next t ∧
      t.getAt F.CIM_STALLs_STATE_VALID st = 0 ∧ t.recFlag st 0 = false ∧ t.recOrigin st = s.recOrigin st ∧
      t.recWset st = s.recWset st ∧ t.recFormat st = s.recFormat st ∧ t.recCommits st = s.recCommits st ∧ t.getAt F.CIM_STALLs_STATE_PROGRAMMING st = 1 ∧
      st.val ∉ t.cim.queue ∧ (∀ x, x ≠ st.val → (x ∈ t.cim.queue ↔ x ∈ s.cim.queue)) ∧
      (∀ x, x ≠ st.val → t.record x = s.record x) ∧
      t = { s with regs := t.regs, cim := { s.cim with queue := t.cim.queue, records := t.cim.records } } ∧
      OnlyRegs s t [R.CIM_STALLs_STATE.at st, R.CIM_STALLs_COMMIT.at st, R.CIM_STATUS.at 0]) ∧
  (∀ (s : State) (st : Fin 96), s.isUp = true → s.coreOn = true → s.alarmHold = false → s.flag F.SUP_STATUS_BRACE = true →
    s.programming.length < 24 → (List.range 96).find? (fun x => s.cim.queue.contains x && s.mayProgram x) = some st.val →
    ∃ t, exec (.programStart st) s = .next t ∧ Deferred.prog st ∈ t.sup.deferred ∧
      t = { s with sup := { s.sup with deferred := t.sup.deferred } }) ∧
  (∀ (s : State) (st : Fin 96) (j : ProgJob), s.job st = some j → s.isUp = true → s.isProgramming st = true →
    s.flag F.SUP_STATUS_BRACE = false → (∀ r ∈ j.rows, r < 256) → s.fab.reissues = [] →
    ∃ t, exec (.programmed st ⟨[], none⟩) s = .next t ∧ (∀ r ∈ j.rows, t.cimRow st r = s.targetRow st r) ∧
      (∀ x, ∀ r < 256, (x ≠ st.val ∨ r ∉ j.rows) → t.cimRow x r = s.cimRow x r) ∧
      t.getAt F.CIM_STALLs_STATE_VALID st = 1 ∧ t.getAt F.CIM_STALLs_STATE_WSET st = j.wset % 65536 ∧
      t.getAt F.CIM_STALLs_STATE_ADAPTED st = b2n j.adapted ∧ t.getAt F.CIM_STALLs_STATE_TAINT_P st = j.taint % 2 ∧
      t.getAt F.CIM_STALLs_STATE_TAINT_S st = j.taint / 2 % 2 ∧ t.getAt F.CIM_STALLs_COMMIT_COMMITS st = j.commits % 65536 ∧
      t.getAt F.CIM_STALLs_STATE_UNVERIFIED st = 0 ∧ t.getAt F.CIM_STALLs_STATE_PROGRAMMING st = 0 ∧
      t.getAt F.CIM_STALLs_STATE_CAL_STATE st = 1 ∧ t.job st = none ∧ t.marked st = [] ∧
      t.recOrigin st = j.origin % 2 ^ 64 ∧ t.recFormat st = j.format % 256 ∧ t.cim.wear = s.cim.wear ∧ t.mem = s.mem) ∧
  (∀ (s : State) (st : Fin 96) (j : ProgJob) (r : BitVec 8), s.job st = some j → s.isUp = true → s.isProgramming st = true →
    s.flag F.SUP_STATUS_BRACE = false → r.toNat ∈ j.rows → (∀ x ∈ j.rows, x < 256) → s.fenced st = false →
    ∃ t, exec (.programmed st ⟨[], some r⟩) s = .next t ∧ t.fenced st = true ∧
      t.getAt F.STL_STALLs_STATUS_FENCE_CAUSE st = 2 ∧ t.getAt F.CIM_STALLs_STATE_VALID st = s.getAt F.CIM_STALLs_STATE_VALID st ∧
      t.job st = none ∧ t.record st = s.record st ∧ (∀ x ∈ j.rows, x < r.toNat → t.cimRow st x = s.targetRow st x) ∧
      ∀ x, r.toNat < x → x < 256 → t.cimRow st x = s.cimRow st x) ∧
  (∀ (s : State) (st : Fin 96) (j : ProgJob), s.job st = some j → s.isUp = true → s.isProgramming st = true →
    s.flag F.SUP_STATUS_BRACE = false → s.fenced st = false → j.rows ≠ [] → (∀ x ∈ j.rows, x < 256) →
    ∃ t, exec (.programTimeout st) s = .next t ∧ t.fenced st = true ∧
      t.getAt F.STL_STALLs_STATUS_FENCE_CAUSE st = 2 ∧ t.job st = none ∧ t.record st = s.record st ∧
      ∀ x, ∀ r < 256, (x ≠ st.val ∨ r ∉ j.rows) → t.cimRow x r = s.cimRow x r) ∧
  (∀ (s : State) (st : Fin 96) (m : ProgMeas) (j : ProgJob), s.job st = some j → s.flag F.SUP_STATUS_BRACE = true →
    exec (.programmed st m) s = .next s ∧ exec (.programTimeout st) s = .next s) ∧
  (∀ (s : State) (x : BitVec 16), (∃ p ∈ s.cim.last, p.1 = x.toNat) → ∃ t, exec (.commitIntervalEnd x) s = .next t ∧
    x.toNat ∈ t.cim.ended ∧ t.intervalOver x.toNat = true ∧ t = { s with cim := { s.cim with ended := t.cim.ended } }) ∧
  (∀ (s : State) (x : BitVec 16) (w : WsetCfg), s.cim.sets.find? (fun w => w.wset == x.toNat) = some w → s.isUp = true →
    s.coreOn = true → s.alarmHold = false → s.cim.commit = none → x.toNat ∈ s.cim.waiting → s.intervalOver x.toNat = true →
    (∀ y ∈ s.cim.waiting, x.toNat ≤ y ∨ s.intervalOver y = false) → (∀ st ∈ w.list, s.job st = none) → s.noWait .commit →
    (∀ st, w.list.find? s.reserved = some st → ∃ t, exec (.commit x) s = .next t ∧ x.toNat ∉ t.cim.waiting ∧
      t.cim.commit = none ∧ t.log = (s.ev2 0x0A05 st 3).log ∧
      t.get F.CIM_COUNTS_REFUSED = min (s.get F.CIM_COUNTS_REFUSED + 1) 255 ∧ t.cim.wear = s.cim.wear ∧ t.mem = s.mem) ∧
    (w.list.find? s.reserved = none →
      let g := s.blockShape w
      let off := bitsOf w.stateAddr 0 24
      let d := blockDesc g.1 g.2.1 g.2.2
      let cim4 := w.format == 4
      let codes := (requantRows (if cim4 then 7 else 1) 64 (inRuns g.2.1 (partVals d (s.mem.read .loft off d.stLen) 0 d.stA))).map
        fun r => (r.map fun y => y.codes).flatten
      let changed := fun (st : Nat) => (List.range 256).filter fun r => adaptRow cim4 g.1 g.2.1 r codes (s.cimRow st r) != s.cimRow st r
      ((bitsOf g.2.2 0 2 ≠ 1 ∨ 256 < g.2.1) → ∃ t, exec (.commit x) s = .next t ∧ x.toNat ∉ t.cim.waiting ∧ t.cim.commit = none ∧
        t.log = (s.ev2 0x0A05 (w.list.headD 0) 5).log ∧ t.cim.wear = s.cim.wear ∧ t.mem = s.mem) ∧
      (bitsOf g.2.2 0 2 = 1 → g.2.1 ≤ 256 → s.steadyAt (12 + off / 0x400000) 2 = true →
      s.steadyAt (12 + (off + d.stLen - 1) / 0x400000) 2 = true →
      (∀ st, (w.list.filter fun st => !s.barred st).find? (fun st => s.wearOver st (changed st)) = some st →
        ∃ t, exec (.commit x) s = .next t ∧ x.toNat ∉ t.cim.waiting ∧ t.cim.commit = none ∧
          t.log = (s.ev2 0x0A05 st 1).log ∧ t.cim.wear = s.cim.wear ∧ t.mem = s.mem) ∧
      ((w.list.filter fun st => !s.barred st).find? (fun st => s.wearOver st (changed st)) = none →
        ∃ t c, exec (.commit x) s = .next t ∧ t.cim.commit = some c ∧ c.wset = x.toNat ∧ x.toNat ∉ t.cim.waiting ∧
          t.boot.wearDue = true ∧ t.mem = s.mem ∧ t.cim.cells = s.cim.cells ∧
          ∀ st < 96, st ∈ w.list → s.barred st = false → (∃ j, t.job st = some j ∧ j.rows = changed st ∧ j.adapted = true ∧
              j.wset = x.toNat ∧ j.commits = min (s.recCommits st + 1) 65535 ∧ j.origin = s.recOrigin st ∧
              (∀ r ∈ changed st, t.targetRow st r = adaptRow cim4 g.1 g.2.1 r codes (s.cimRow st r))) ∧
            st ∈ t.cim.queue ∧ st ∈ t.cim.recording ∧
            t.getAt F.CIM_STALLs_CYCLES_CYCLES st = min (s.getAt F.CIM_STALLs_CYCLES_CYCLES st + 1) (2 ^ 32 - 1) ∧
            ∀ r < 256, t.rowWear st r = s.rowWear st r + (if r ∈ changed st then 1 else 0))))) ∧
  (∀ (s : State) (x : BitVec 16) (w : WsetCfg) (c : CommitSt), s.cim.commit = some c → c.wset = x.toNat →
    s.cim.sets.find? (fun w => w.wset == x.toNat) = some w → s.isUp = true → s.coreOn = true → s.cim.recording = [] →
    (∀ st ∈ w.list, s.job st = none) → s.noWait .commit → s.steadyAt (12 + bitsOf w.scaleDst 0 24 / 0x400000) 2 = true →
    s.steadyAt (12 + (bitsOf w.scaleDst 0 24 + c.scales.length - 1) / 0x400000) 2 = true →
    (w.emulAddr = 0 ∨ (s.steadyAt (12 + bitsOf w.emulAddr 0 24 / 0x400000) 2 = true ∧
      s.steadyAt (12 + (bitsOf w.emulAddr 0 24 + 16383) / 0x400000) 2 = true)) → s.fab.reissues = [] →
    ∃ t, exec (.commitDone x) s = .next t ∧ t.cim.commit = none ∧
      t.mem = (let m := s.mem.write .loft (bitsOf w.scaleDst 0 24) c.scales c.taint
        if w.emulAddr = 0 then m else m.write .loft (bitsOf w.emulAddr 0 24) c.levels c.taint) ∧
      elGet 0 t.cim.last x.toNat = s.span.count.toNat + 1 ∧ x.toNat ∉ t.cim.ended ∧
      t.get F.CIM_COUNTS_COMMITS = min (s.get F.CIM_COUNTS_COMMITS + 1) 255 ∧ t.get F.CIM_STATUS_COMMIT = 0 ∧
      t.cim.cells = s.cim.cells) ∧
  (∀ (s : State) (st : Fin 96) (m : ColMeas), s.isUp = true → s.coreOn = true → s.steadyAt (st / 8) 2 = true →
    s.flag F.SUP_STATUS_BRACE = false → s.getAt F.CIM_STALLs_STATE_CAL_STATE st = 1 →
    s.getAt F.CIM_STALLs_STATE_PROGRAMMING st = 0 → (s.stall st).tile = none → (s.reserved st = false ∨ s.c0Waits = false) →
    m.sums.length = 256 →
    let bad := m.quiet = false ∨ 64 * orOne (s.get F.CIM_CFG_SPREAD_MAX) < sumSpread m.sums
    let far := ∃ x ∈ m.sums, 24 < (rneDivInt x 64).natAbs
    (bad → ∃ t, exec (.columnCal st m) s = .next t ∧ t.getAt F.CIM_STALLs_STATE_CAL_STATE st = 4 ∧
      t.cim = s.cim ∧ t.calLevel (.column st) = min 7 (s.calLevel (.column st) + 1) ∧
      t.get F.CIM_COUNTS_CAL_REJECTS = min (s.get F.CIM_COUNTS_CAL_REJECTS + 1) 255 ∧
      LogsFirst s t 0x0A10 st 1) ∧
    (¬ bad → far → ∃ t, exec (.columnCal st m) s = .next t ∧ t.getAt F.CIM_STALLs_STATE_CAL_STATE st = 4 ∧
      t.cim = s.cim ∧ t.calLevel (.column st) = min 7 (s.calLevel (.column st) + 1) ∧
      LogsFirst s t 0x0A10 st 3) ∧
    (¬ bad → ¬ far → ∃ t, exec (.columnCal st m) s = .next t ∧ t.getAt F.CIM_STALLs_STATE_CAL_STATE st = 3 ∧
      t.getAt F.CIM_STALLs_STATE_OFFSET_SOURCE st = 1 ∧ t.calLevel (.column st) = 0 ∧
      (∀ (c : Nat) (v : Int), m.sums[c]? = some v →
        tblGet (fun _ => (0 : BitVec 16)) t.cim.offsets (256 * st + c) = BitVec.ofInt 16 (rneDivInt v 64)) ∧
      (∀ k, (k < 256 * st.val ∨ 256 * st.val + 256 ≤ k) → tblGet (fun _ => (0 : BitVec 16)) t.cim.offsets k
        = tblGet (fun _ => (0 : BitVec 16)) s.cim.offsets k) ∧
      (t.boot.calDue = true ∨ t.boot.calChanged = true) ∧ t.mem = s.mem)) ∧
  ∀ (s : State) (st : Fin 96), s.isUp = true → s.steadyAt (st / 8) 2 = true → s.getAt F.CIM_STALLs_STATE_VALID st = 1 →
    ∃ t, exec (.cimCalPeriod st) s = .next t ∧ t.getAt F.CIM_STALLs_STATE_CAL_STATE st = 1 ∧ t.mem = s.mem

/-- BARN_MATMUL, BARN_LOAD, MAP_LOAD_DONE, BARN_HINT, HINT_EXPIRY and BAY_WATCHDOG (R376 to R378, R391). -/
def Obligations.BarnTiles : Prop :=
  (∀ (s : State) (b : Fin 4) (j : TileJob) (d : Desc), s.barnSettled →
    ∀ q ∈ ([(.barnLoad b, 0x11), (.barnMatmul b, 0x10)] : List (Instr × Nat)), s.atBay b q.2 j d →
    (q.2 = 0x10 → s.bayMap b ≠ d.wset) → ∃ t, exec q.1 s = .next t ∧
      t.bay b = { s.bay b with loading := some d.wset } ∧ (∀ k, k ≠ b.val → t.bay k = s.bay k) ∧
      t.getAt F.BRN_BAYb_STATUS_STATE b = 3 ∧ t.bayMap b = s.bayMap b ∧
      t = { s with regs := t.regs, barn := { s.barn with bays := t.barn.bays } }) ∧
  (∀ (s : State) (b : Fin 4) (j : TileJob) (d : Desc), s.atBay b 0x10 j d → s.bayMap b = d.wset →
    s.regionOn (d.src' 0) → s.regionOn (d.dst' 0) →
    let map := elGet [] s.barn.maps d.wset
    let z : Int := lineCode d.uint (BitVec.ofNat 8 d.zpIn)
    ∃ (t : State) (codes : Nat → Nat → List Byte), exec (.barnMatmul b) s = .next t ∧
      (∀ n c, (codes n c).length = barnSymbols d.integ) ∧
      let y := fun n c => barnY (elGet 0 s.barn.gain (32 * b + c)) (elGet 0 s.barn.dark (32 * b + c)) (codes n c)
      let vs := (List.range d.n).map fun n => (List.range d.m).map fun c => outStage (d.outCfg ((s.latch j d).2.scaleOf d))
        (f16 d.outScale) (barnAcc (mapScale map c) (y n c) (z * (mapRow map c d.k).sum))
      let ws := j.writes ++ vecWrites (d.dst' 0).loc d.dstStride ((d.src' 0).taint (s.tileMem j))
        (vs.map fun v => v.map fun o => BitVec.ofInt 8 o.code)
      (d.last = false → t.mem = s.mem ∧ t.disp = s.disp ∧ t.pwr = s.pwr ∧ (∀ k, k ≠ b.val → t.bay k = s.bay k) ∧
        OnlyRegs s t [R.NUM_COUNTS.at 0, R.LOG_NEXT.at 0, R.LOG_STATUS.at 0] ∧
        ∃ k, (t.bay b).tile = some k ∧ k.pos = j.pos + 1 ∧ k.writes = ws ∧ k.taint = j.taint ||| (d.src' 0).taint (s.tileMem j)) ∧
      (d.last = true → ∀ (m : Mem) (off : Nat) (e : List Byte), s.oldest j.ring j.idx (s.mem.overlay ws) m off e → j.data = false →
        j.releases = [] → (∀ n ∈ j.nums, n.slot < 64) → s.barnSettled → (d.tallyAdd = 0 ∨ s.TallyQuiet d.tally) →
        (t.bay b).tile = (s.bay b).cut ∧
        t.getAt F.BRN_BAYb_COUNTS_TILES b = satAdd F.BRN_BAYb_COUNTS_TILES.width (s.getAt F.BRN_BAYb_COUNTS_TILES b) 1 ∧
        EntryEnds s t j.ring j.idx (s.mem.overlay ws) m off e 0 fun x =>
          if x = d.tally then min (s.tally x + d.tallyAdd) (2 ^ 32 - 1) else s.tally x)) ∧
  (∀ (s : State) (b : Fin 4) (x : Byte) (m : Nat), s.barnReady = true → s.locks x = true → (s.bay b).loading = some m → m < 64 →
    s.barnSettled → (∀ j, (s.bay b).tile = some j → (readDesc (s.descBytes j j.pos)).op = 0x11 → s.endsTile j j.pos = false) →
    ∃ t, exec (.mapLoadDone b x) s = .next t ∧ t.bayMap b = m ∧ (t.bay b).loading = none ∧
      (t.bay b).tile = ((s.bay b).tile.map fun j =>
        if (readDesc (s.descBytes j j.pos)).op = 0x11 then { j with pos := j.pos + 1 } else j) ∧
      (∀ k, k ≠ b.val → t.bay k = s.bay k) ∧ t = { s with regs := t.regs, barn := { s.barn with bays := t.barn.bays } }) ∧
  (∀ (s : State) (b : Fin 4) (x : Byte), (s.flag F.SUP_STATUS_BRACE = true ∨ s.lockTol < x.toNat) →
    exec (.mapLoadDone b x) s = .next s) ∧
  (∀ (s : State) (b : Fin 4) (x : Byte) (n : Nat) (j : TileJob) (m : Mem) (off : Nat) (e : List Byte), s.barnReady = true →
    s.locks x = true → (s.bay b).loading = some n → s.barnSettled → s.noWait (.bay b) → (s.bay b).tile = some j →
    (readDesc (s.descBytes j j.pos)).op = 0x11 → s.endsTile j j.pos = true → j.data = false → j.releases = [] →
    (∀ n ∈ j.nums, n.slot < 64) →
    let d := readDesc (s.descBytes j j.pos)
    (d.tallyAdd = 0 ∨ s.TallyQuiet d.tally) → d.tally < 4096 → s.oldest j.ring j.idx (s.mem.overlay j.writes) m off e →
    ∃ t, exec (.mapLoadDone b x) s = .next t ∧ (t.bay b).tile = (s.bay b).cut ∧
      EntryEnds s t j.ring j.idx (s.mem.overlay j.writes) m off e 0 fun x =>
        if x = d.tally then min (s.tally x + d.tallyAdd) (2 ^ 32 - 1) else s.tally x) ∧
  (∀ (s : State) (b : Fin 4) (j : TileJob) (st : Nat) (m : Mem) (off : Nat) (e : List Byte), (s.bay b).tile = some j →
    s.barnReady = true → s.span.barnLock = true → (s.bay b).loading = none → s.stepping b = false → s.bayOut b = false →
    (s.bay b).lostLine = none → s.noWait (.bay b) →
    s.steadyAt (12 + (j.first + 64 * j.pos) / 0x400000) 2 = true → s.barnSettled → j.data = false → (∀ n ∈ j.nums, n.slot < 64) →
    (if s.barnCheck (s.descBytes j j.pos) = 0 ∧ (readDesc (s.descBytes j j.pos)).op = 0x12 then 5
      else s.barnCheck (s.descBytes j j.pos)) = st → st ≠ 0 → s.oldest j.ring j.idx s.mem m off e →
    ∃ t, exec (.barnMatmul b) s = .next t ∧ (t.bay b).tile = (s.bay b).cut ∧ LogsFirst s t 0x0804 0xFF st ∧
      EntryEnds s t j.ring j.idx s.mem m off e st s.tally) ∧
  (∀ (s : State) (r : BitVec 11) (e : List Byte) (m : Mem) (off : Nat),
    let j := s.ringTile r.toNat
    let d := readDesc (s.descBytes j 0)
    s.atEntryOf r.toNat 1 e m off → s.entryOpen r.toNat e → s.oldest r.toNat (s.ring r.toNat).ii s.mem m off e →
    byteAt (entryBody e) 6 = 1 → d.op = 0x12 →
    s.issuesTiles (s.cls r.toNat) = true → s.steadyAt (12 + j.first / 0x400000) 2 = true → s.barnCheck (s.descBytes j 0) = 0 →
    d.last = true → (d.tallyAdd = 0 ∨ s.TallyQuiet d.tally) →
    ∃ t, exec (.barnHint r) s = .next t ∧ t.barn.hint = true ∧ t.voteSlot 17 3 = 2 ∧
      (t.ring r.toNat).ii = ((s.ring r.toNat).ii + 1) % 131072 ∧ EntryEnds s t r.toNat (s.ring r.toNat).ii s.mem m off e 0 fun x =>
        if x = d.tally then min (s.tally x + d.tallyAdd) (2 ^ 32 - 1) else s.tally x) ∧
  (∀ s : State, s.barn.hint = true → ∃ t, exec .hintExpiry s = .next t ∧ t.barn.hint = false ∧ t.mem = s.mem ∧ t.disp = s.disp ∧
    ((s.barn.waiting = [] ∧ ∀ b < 4, (s.bay b).tile = none ∧ (s.bay b).cut = none) → t.voteSlot 17 3 = 0)) ∧
  (∀ (s : State) (b : Fin 4) (j : TileJob), (s.bay b).tile = some j → s.barnReady = true → s.stepping b = false →
    (s.bay b).cut = none → s.barnSettled → s.noWait (.bay b) → j.again = false → j.cls < 4 → s.barnDead = false →
    let j2 := { j.anew true with notBay := some b.val }
    (∀ k : Fin 4, s.bayOf j2 = .on k → ∃ t, exec (.bayWatchdog b) s = .next t ∧
      t.bay b = { s.bay b with tile := none, loading := none } ∧
      t.bay k = { s.bay k with tile := some j2, cut := if (s.bay k).tile.isSome then (s.bay k).tile else (s.bay k).cut } ∧
      (∀ i < 4, i ≠ b.val → i ≠ k.val → t.bay i = s.bay i) ∧
      t.log = (s.ev 0x0B31 b).log ∧ t.mem = s.mem ∧ t.disp = s.disp ∧ t.pwr = s.pwr) ∧
    (s.bayOf j2 = .later → ∃ t, exec (.bayWatchdog b) s = .next t ∧ t.bay b = { s.bay b with tile := none, loading := none } ∧
      t.barn.waiting = [j2] ∧ (∀ i < 4, i ≠ b.val → t.bay i = s.bay i) ∧ t.log = (s.ev 0x0B31 b).log ∧ t.mem = s.mem ∧
      t.disp = s.disp ∧ t.pwr = s.pwr)) ∧
  ∀ (s : State) (b : Fin 4) (j : TileJob) (m : Mem) (off : Nat) (e : List Byte), (s.bay b).tile = some j → s.barnReady = true →
    s.stepping b = false → s.barnSettled → j.again = true → j.data = false → (∀ n ∈ j.nums, n.slot < 64) →
    s.noWait (.bay b) → s.oldest j.ring j.idx s.mem m off e → ∃ t, exec (.bayWatchdog b) s = .next t ∧
      (t.bay b).tile = (s.bay b).cut ∧ (t.bay b).loading = none ∧ EntryEnds s t j.ring j.idx s.mem m off e 9 s.tally

/-- COMB_LOCKED, RELOCK_DONE, SWEEP_DONE, COMB_LOCK_LOSS, RING_UNLOCK, ROTATION_STEP, DARK_LEVEL_DONE, LINE_SWEEP_DONE, PILOT_DONE,
LINE_MOVE_DONE and MAP_FETCH. -/
def Obligations.BarnWakeAndRotation : Prop :=
  (∀ s : State, s.isUp = true → s.rises 16 = true → s.barn.failed = false → s.get F.BRN_STATUS_COMB_LOCKED = 0 →
    ((s.rises 17 = false ∨ (s.get F.BRN_STATUS_STATE ≠ 1 ∧ s.get F.BRN_STATUS_STATE ≠ 5)) → ∃ t, exec .combLocked s = .next t ∧
      t.get F.BRN_STATUS_STATE = s.get F.BRN_STATUS_STATE ∧ t.get F.BRN_STATUS_COMB_LOCKED = 1 ∧ t.log = (s.ev 0x0B01 0).log ∧
      t = { s with regs := t.regs, log := t.log, barn := { s.barn with attempts := 0 } }) ∧
    (s.rises 17 = true → s.get F.BRN_STATUS_STATE = 5 → ∃ t, exec .combLocked s = .next t ∧ t.get F.BRN_STATUS_STATE = 2 ∧
      t.get F.BRN_STATUS_COMB_LOCKED = 1 ∧ t.log = (s.ev 0x0B01 0).log ∧
      t = { s with regs := t.regs, log := t.log, barn := { s.barn with attempts := 0 } }) ∧
    (s.rises 17 = true → s.get F.BRN_STATUS_STATE = 1 → s.get F.BRN_STATUS_SETPOINTS = 1 → ∃ t, exec .combLocked s = .next t ∧
      t.get F.BRN_STATUS_STATE = 2 ∧ t.get F.BRN_STATUS_COMB_LOCKED = 1 ∧ t.log = (s.ev 0x0B01 0).log ∧
      t.barn = { s.barn with attempts := 0, setp := s.barn.copy, dark := s.barn.copyDark }) ∧
    (∀ k, s.rises 17 = true → s.get F.BRN_STATUS_STATE = 1 → s.get F.BRN_STATUS_SETPOINTS = 0 → s.boot.newest = some k →
      ∃ t, exec .combLocked s = .next t ∧ t.get F.BRN_STATUS_STATE = 2 ∧ t.get F.BRN_STATUS_SETPOINTS = 1 ∧
      t.barn.setp = halfTab (s.bankHalves k 0x25000 4224) ∧ t.barn.dark = halfTab (s.bankHalves k 0x28000 128)) ∧
    (s.rises 17 = true → s.get F.BRN_STATUS_STATE = 1 → s.get F.BRN_STATUS_SETPOINTS = 0 → s.boot.newest = none →
      ∃ t, exec .combLocked s = .next t ∧ t.get F.BRN_STATUS_STATE = 3 ∧ t.get F.BRN_STATUS_COMB_LOCKED = 1 ∧
      t.log = ((s.ev 0x0B01 0).ev 0x0B06 0).log ∧
      t.barn = { s.barn with attempts := 0, setp := [], dark := s.defaultDark, sweeping := true })) ∧
  (∀ (s : State) (g : List (BitVec 16)), s.isUp = true → s.rises 17 = true → s.get F.BRN_STATUS_STATE = 2 → s.barnSettled →
    s.barn.found = none → s.flag F.SUP_STATUS_BRACE = false → g.length = 128 →
    (s.mapsRead = false → ∃ t, exec (.relockDone [] g) s = .next t ∧ t.get F.BRN_STATUS_STATE = 2 ∧ t.barn.found = some [] ∧
      t.log = (s.ev 0x0B05 0).log ∧ ChangesLogged { s with barn := t.barn } t []) ∧
    (s.mapsRead = true → ∃ t, exec (.relockDone [] g) s = .next t ∧ t.get F.BRN_STATUS_STATE = 4 ∧ t.span.barnLock = true ∧
      t.log = (s.ev 0x0B05 0).log ∧ (∀ k < 128, tblGet (fun _ => (0 : BitVec 16)) t.barn.gain k = g.getD k 0) ∧
      t.barn.setp = s.barn.setp ∧ t.barn.bays = s.barn.bays ∧ t.mem = s.mem ∧ t.pwr = s.pwr) ∧
    ∀ (r : BitVec 13) (b m : Nat), s.mapsRead = true → r.toNat < 4224 → b = r.toNat / 1056 → 32 ≤ r.toNat % 1056 →
      m = (r.toNat % 1056 - 32) / 32 → s.colMasked b m = false → s.stepping b = false →
      ∃ t, exec (.relockDone [r] g) s = .next t ∧ t.get F.BRN_STATUS_STATE = 4 ∧
        t.log = ((s.ev 0x0B05 1).ev 0x0B24 r.toNat).log ∧ t.colMasked b m = true ∧
        ∀ i < 4, ∀ k < 32, (i ≠ b ∨ k ≠ m) → t.colMasked i k = s.colMasked i k) ∧
  (∀ (s : State) (q : SweepMeas), s.isUp = true → s.rises 17 = true → s.get F.BRN_STATUS_STATE = 3 → s.barn.sweeping = true →
    s.barnSettled →
    ((q.combLocked = false ∨ s.get F.BRN_STATUS_COMB_LOCKED = 0) → ∃ t, exec (.sweepDone q) s = .next t ∧
      t.barn = { s.barn with sweeping := false } ∧ t.log = (s.ev 0x0B11 0xFF).log ∧
      t.calLevel .sweep = min 7 (s.calLevel .sweep + 1) ∧ t.get F.BRN_STATUS_STATE = 3) ∧
    (q.combLocked = true → s.get F.BRN_STATUS_COMB_LOCKED = 1 → s.mapsRead = true → q.gains.length = 128 →
      (∀ r < 4224, ∃ g ∈ q.rings, g.ring = r ∧ ringFine g = true) →
      ∃ t, exec (.sweepDone q) s = .next t ∧ t.get F.BRN_STATUS_STATE = 4 ∧ t.log = (s.ev 0x0B04 0).log ∧ t.calLevel .sweep = 0 ∧
        (∀ k < 128, tblGet (fun _ => (0 : BitVec 16)) t.barn.gain k = q.gains.getD k 0) ∧
        (∀ g ∈ q.rings, g.ring < 4224 → ringFine g = true → (∀ h ∈ q.rings, h.ring = g.ring → h = g) →
          elGet 0 t.barn.setp g.ring = 0x8000 ||| g.centre.setWidth 16 ∧
          elGet (0, 0) t.barn.curves g.ring = (g.width, g.extinction)) ∧ (t.boot.calDue = true ∨ t.boot.calChanged = true))) ∧
  (∀ s : State, s.isUp = true → s.rises 16 = true → s.barn.failed = false → s.barnSettled →
    (s.get F.BRN_STATUS_COMB_LOCKED = 1 → s.rises 17 = true → 2 ≤ s.get F.BRN_STATUS_STATE → s.get F.BRN_STATUS_STATE ≤ 5 →
      (∀ b < 4, s.stepping b = false) → (∀ b : Fin 4, s.noWait (.bay b)) → ∃ t, exec .combLockLoss s = .next t ∧
      t.get F.BRN_STATUS_COMB_LOCKED = 0 ∧ t.get F.BRN_STATUS_STATE = (if s.get F.BRN_STATUS_STATE = 3 then 1 else 5) ∧
      t.log = s.log ∧ t.mem = s.mem ∧ t.disp = s.disp ∧
      ∀ b < 4, (t.bay b).tile = none ∧ (t.bay b).cut = none ∧ (t.bay b).loading = none ∧
        ∀ j, ((s.bay b).tile = some j ∨ (s.bay b).cut = some j) → j.anew false ∈ t.barn.waiting) ∧
    (s.get F.BRN_STATUS_COMB_LOCKED = 0 → s.barn.attempts < 2 → ∃ t, exec .combLockLoss s = .next t ∧
      t.barn = { s.barn with attempts := s.barn.attempts + 1 } ∧ t.log = (s.ev 0x0B02 (s.barn.attempts + 1)).log ∧ ChangesLogged
        { s with barn := t.barn } t []) ∧
    (s.get F.BRN_STATUS_COMB_LOCKED = 0 → s.barn.attempts = 2 → ∃ t, exec .combLockLoss s = .next t ∧ t.barn.failed = true ∧
      t.get F.BRN_STATUS_STATE = 6 ∧ t.log = ((s.ev 0x0B02 3).ev 0x0B03 0).log ∧ t.mem = s.mem)) ∧
  (∀ (s : State) (r : BitVec 13) (x : Byte), (s.flag F.SUP_STATUS_BRACE = true ∨ x.toNat ≤ s.unlockTol) →
    exec (.ringUnlock r x) s = .next s) ∧
  (∀ (s : State) (r : BitVec 13) (x : Byte) (b k : Nat), s.barnReady = true → s.barnSettled →
    s.flag F.SUP_STATUS_BRACE = false → s.unlockTol < x.toNat → r.toNat < 4224 → b = r.toNat / 1056 →
    k = r.toNat % 1056 → s.stepping b = false → s.bayOut b = false →
    (32 ≤ k → s.colMasked b ((k - 32) / 32) = false → ∃ t, exec (.ringUnlock r x) s = .next t ∧
      t.colMasked b ((k - 32) / 32) = true ∧ t.log = (s.ev 0x0B24 r.toNat).log ∧ t.barn = s.barn ∧
      t.get F.BRN_COUNTS_UNLOCKS = satAdd F.BRN_COUNTS_UNLOCKS.width (s.get F.BRN_COUNTS_UNLOCKS) 1 ∧
      (s.get F.BRN_LOSS_VALID = 0 → t.get F.BRN_LOSS_VALID = 1 ∧ t.get F.BRN_LOSS_STAGE = 5 ∧ t.get F.BRN_LOSS_BAY = b ∧
        t.get F.BRN_LOSS_ELEMENT = r.toNat)) ∧
    (k < 32 → s.outLine b = k → s.outFixed b = false → (s.bay b).losses = 0 → (s.bay b).tile = none → (s.bay b).cut = none →
      (s.bay b).lostLine = none → s.noWait (.bay b) → ∃ t, exec (.ringUnlock r x) s = .next t ∧ t.rotFixed b = true ∧
        t.outFixed b = true ∧ t.outLine b = k ∧
        t.log = ((s.ev 0x0B24 r.toNat).ev2 0x0B26 b k).log ∧ (t.bay b).losses = 1 ∧ t.bayOut b = false) ∧
    (k < 32 → s.outLine b ≠ k → (s.bay b).losses = 0 → (s.bay b).lostLine = none → (s.bay b).tile = none → (s.bay b).cut = none →
      s.noWait (.bay b) → s.otherSteps b = false → s.barnStays → s.pwr.state = 0 → ∃ t, exec (.ringUnlock r x) s = .next t ∧
        (t.bay b).part = .dark ∧ (t.bay b).lostLine = some k ∧ LogsFirst s t 0x0B24 r.toNat 0 ∧ t.voteSlot 16 10 = 2 ∧
        t.voteSlot 17 10 = 2) ∧
    (k < 32 → s.outLine b ≠ k → (s.bay b).losses = 0 → (s.bay b).lostLine = none → (s.bay b).tile = none → (s.bay b).cut = none →
      s.noWait (.bay b) → s.otherSteps b = true → ∃ t, exec (.ringUnlock r x) s = .next t ∧
        (t.bay b).part = .none ∧ (t.bay b).lostLine = some k ∧ t.log = (s.ev 0x0B24 r.toNat).log) ∧
    (k < 32 → (s.outLine b ≠ k ∨ s.outFixed b = false) → 1 ≤ (s.bay b).losses → (s.bay b).lostLine = none →
      (s.bay b).tile = none → (s.bay b).cut = none → s.noWait (.bay b) → ∃ t, exec (.ringUnlock r x) s = .next t ∧
        t.bayOut b = true ∧ t.getAt F.BRN_BAYb_STATUS_STATE b = 5 ∧ t.log = ((s.ev 0x0B24 r.toNat).ev 0x0B25 b).log)) ∧
  (∀ (s : State) (b : Fin 4), (s.calLevel (.dark b) ≠ 0 ∨ s.calLevel (.line b) ≠ 0) → exec (.rotationStep b) s = .next s) ∧
  (∀ (s : State) (b : Fin 4), s.calLevel (.dark b) = 0 → s.calLevel (.line b) = 0 → s.barnReady = true → s.barnSettled →
    s.flag F.BRN_CFG_ROT_EN = true → s.bayOut b = false → s.rotFixed b = false → s.stepping b = false →
    (s.flag F.SUP_STATUS_BRACE = false → (s.bay b).loading = none → (∀ k < 4, s.stepping k = false) → s.barnStays →
      s.pwr.state = 0 → ∃ t, exec (.rotationStep b) s = .next t ∧ t.bay b = { s.bay b with part := .dark, lostLine := none } ∧
      (∀ k, k ≠ b.val → t.bay k = s.bay k) ∧ t.getAt F.BRN_BAYb_STATUS_STATE b = 4 ∧
      bitOf (t.get F.BRN_STATUS_STEPPING) b = true ∧ t.voteSlot 16 10 = 2 ∧ t.voteSlot 17 10 = 2 ∧ t.mem = s.mem) ∧
    ((s.flag F.SUP_STATUS_BRACE = true ∨ (s.bay b).loading.isSome = true ∨ ∃ k < 4, s.stepping k = true) →
      ∃ t, exec (.rotationStep b) s = .next t ∧ b.val ∈ t.barn.due ∧ t = { s with barn := { s.barn with due := t.barn.due } })) ∧
  (∀ (s : State) (b : Fin 4) (q : DarkMeas), s.barnReady = true → (s.bay b).part = .dark → q.dark.length = 32 → s.barnSettled →
    s.barnStays → s.pwr.state = 0 →
    let blanked := ∀ n < 32, 10 * s.get F.BRN_CFG_BLANK_DB ≤ q.depth.getD n 0
    let fine := ∀ d ∈ q.dark, 112 * 256 ≤ d.toNat ∧ d.toNat ≤ 144 * 256
    (blanked → fine → ∃ t, exec (.darkLevelDone b q) s = .next t ∧ t.bay b = { s.bay b with part := .sweep } ∧
      (∀ m < 32, tblGet (fun _ => (0 : BitVec 16)) t.barn.dark (32 * b + m) = q.dark.getD m 0) ∧
      (∀ k, (k < 32 * b.val ∨ 32 * b.val + 32 ≤ k) → tblGet (fun _ => (0 : BitVec 16)) t.barn.dark k
        = tblGet (fun _ => (0 : BitVec 16)) s.barn.dark k) ∧ t.calLevel (.dark b) = 0 ∧ t.log = s.log ∧
      (t.boot.calDue = true ∨ t.boot.calChanged = true)) ∧
    (∀ step, (¬ blanked ∧ step = 1 ∨ blanked ∧ ¬ fine ∧ step = 3) → (s.bay b).lostLine = none →
      ∃ t, exec (.darkLevelDone b q) s = .next t ∧ (t.bay b).part = .none ∧ t.barn.dark = s.barn.dark ∧
      t.getAt F.BRN_BAYb_STATUS_LAST_STEP b = 2 ∧ LogsFirst s t 0x0B10 b step ∧
      t.calLevel (.dark b) = min 7 (s.calLevel (.dark b) + 1) ∧
      t.getAt F.BRN_BAYb_COUNTS_DARK_REJECTS b = satAdd F.BRN_BAYb_COUNTS_DARK_REJECTS.width (s.getAt F.BRN_BAYb_COUNTS_DARK_REJECTS b) 1)) ∧
  (∀ (s : State) (b : Fin 4) (q : SweepMeas), s.barnReady = true → (s.bay b).part = .sweep → s.barnSettled → s.barnStays →
    s.pwr.state = 0 →
    let fine := q.combLocked = true ∧ s.get F.BRN_STATUS_COMB_LOCKED = 1 ∧
      ∀ n ∈ lineRings b (s.outLine b), ∃ g ∈ q.rings, g.ring = n ∧ ringFine g = true
    (fine → q.gains.length = 32 → ∃ t, exec (.lineSweepDone b q) s = .next t ∧
      t.bay b = { s.bay b with part := if (s.bay b).lostLine.isSome then .move else .pilot } ∧
      (∀ m < 32, tblGet (fun _ => (0 : BitVec 16)) t.barn.gain (32 * b + m) = q.gains.getD m 0) ∧
      (∀ g ∈ q.rings, g.ring ∈ lineRings b (s.outLine b) → (∀ h ∈ q.rings, h.ring = g.ring → h = g) →
        elGet 0 t.barn.setp g.ring = 0x8000 ||| g.centre.setWidth 16 ∧
        elGet (0, 0) t.barn.curves g.ring = (g.width, g.extinction)) ∧
      (∀ n, n ∉ lineRings b (s.outLine b) → elGet 0 t.barn.setp n = elGet 0 s.barn.setp n) ∧
      t.calLevel (.line b) = 0 ∧ t.log = s.log) ∧
    (¬ fine → (s.bay b).lostLine = none → ∃ t, exec (.lineSweepDone b q) s = .next t ∧ (t.bay b).part = .none ∧
      t.barn.setp = s.barn.setp ∧ t.barn.gain = s.barn.gain ∧ t.getAt F.BRN_BAYb_STATUS_LAST_STEP b = 3 ∧
      LogsFirst s t 0x0B11 b (s.outLine b) ∧ t.calLevel (.line b) = min 7 (s.calLevel (.line b) + 1))) ∧
  (∀ (s : State) (b : Fin 4), s.barnReady = true → (s.bay b).part = .pilot →
    (∀ l : List Loss, (∀ x ∈ l, x.drop ≤ s.lossDb) → ∃ t, exec (.pilotDone b l) s = .next t ∧
      t.bay b = { s.bay b with part := .move } ∧ (∀ k, k ≠ b.val → t.bay k = s.bay k) ∧
      t = { s with barn := { s.barn with bays := t.barn.bays } }) ∧
    ∀ (m : Fin 32) (x : Nat), s.barnSettled → s.barnStays → s.pwr.state = 0 → (s.bay b).lostLine = none →
      s.colMasked b m = false → s.lossDb < x →
      ∃ t, exec (.pilotDone b [⟨2, b, m, x⟩]) s = .next t ∧ t.colMasked b m = true ∧ (t.bay b).part = .none ∧
      t.outLine b = s.outLine b ∧ (s.pendQuiet → t.log = (s.ev2 0x0B22 b m).log)) ∧
  (∀ (s : State) (b : Fin 4) (x : Byte), s.barnReady = true → (s.bay b).part = .move → s.locks x = true → s.barnSettled →
    s.barnStays → s.pwr.state = 0 →
    ((s.bay b).lostLine = none → ∃ t, exec (.lineMoveDone b x) s = .next t ∧ (t.bay b).part = .none ∧
      t.outLine b = (s.outLine b + 1) % 32 ∧ t.outFixed b = false ∧ t.getAt F.BRN_BAYb_STATUS_LAST_STEP b = 1 ∧
      t.get F.BRN_COUNTS_STEPS = satAdd F.BRN_COUNTS_STEPS.width (s.get F.BRN_COUNTS_STEPS) 1 ∧
      (s.pendQuiet → t.log = s.log) ∧ t.mem = s.mem ∧
      (∀ k < 4, k ≠ b.val → t.outByte k = s.outByte k ∧ ∀ c < 31, t.chanLine k c = s.chanLine k c) ∧
      ∀ c < 31, (∀ d < 31, s.chanLine b d = s.chanLine b c → d = c) →
        t.chanLine b c = if s.chanLine b c = (s.outLine b + 1) % 32 then s.outLine b else s.chanLine b c) ∧
    ∀ n < 32, (s.bay b).lostLine = some n → ∃ t, exec (.lineMoveDone b x) s = .next t ∧ (t.bay b).part = .none ∧ t.outLine b = n ∧
      t.outFixed b = true ∧ t.rotFixed b = true ∧ LogsFirst s t 0x0B26 b n ∧ (t.bay b).lostLine = none ∧
      ∀ c < 31, (∀ d < 31, s.chanLine b d = s.chanLine b c → d = c) →
        t.chanLine b c = if s.chanLine b c = n then s.outLine b else s.chanLine b c) ∧
  (∀ (s : State) (b : Fin 4) (x : Byte), (s.flag F.SUP_STATUS_BRACE = true ∨ s.lockTol < x.toNat) →
    exec (.lineMoveDone b x) s = .next s) ∧
  ∀ s : State, s.isUp = true → s.coreOn = true → s.mapsRead = false → s.barn.failed = false → 0 < s.voteLevel 16 →
    s.flag F.STW_NVM_GRANTED = false → s.bankOk 1 = true → s.flag F.SUP_STATUS_BRACE = false → s.boot.writing = none →
    let slot := s.get F.IMG_BOOT_ACTIVE_SLOT
    let h := s.imgHead slot
    (s.secGood slot h 11 = true → barnValid (s.section slot h 11) = true → s.barn.found = none → ∃ t, exec .mapFetch s = .next t ∧
      t.get F.BRN_STATUS_MAPS_VALID = 1 ∧ ChangesRegs { s with barn := t.barn } t [R.BRN_STATUS.at 0] ∧
      t.barn = { s.barn with maps := t.barn.maps, fetched := true } ∧ ∀ e ∈ barnEntries (s.section slot h 11),
        (∀ f ∈ barnEntries (s.section slot h 11), f.1 = e.1 → f = e) → elGet [] t.barn.maps e.1 = e.2) ∧
    (s.secGood slot h 11 = true → barnValid (s.section slot h 11) = true → s.barn.found = some [] → s.barnSettled →
      ∃ t, exec .mapFetch s = .next t ∧ t.get F.BRN_STATUS_STATE = 4 ∧ t.span.barnLock = true ∧ t.barn.found = none) ∧
    (s.secGood slot h 11 = true → barnValid (s.section slot h 11) = false → (s.section slot h 11).isEmpty = false →
      s.barn.found = none → ∃ t, exec .mapFetch s = .next t ∧ t.barn = { s.barn with fetched := true } ∧
      t.log = (s.ev 0x0B00 0).log) ∧
    (s.secGood slot h 11 = false → s.barn.waiting = [] → ∃ t, exec .mapFetch s = .next t ∧ t.barn.failed = true ∧
      t.barn.barred = true ∧ t.get F.BRN_STATUS_STATE = 6 ∧ bitOf (t.get F.SEC_ALARM_STATUS_SEEN) 8 = true)

/-- ENTRY_NOP, the TALLY entries, DOORBELL, WAIT_NOTIFY, PORT, TILE, HEAD and DATA_ENTRY (R397 to R405, R419). -/
def Obligations.RingEntries : Prop :=
  (∀ (s : State) (r : BitVec 11) (e : List Byte) (m : Mem) (off : Nat), s.atEntryOf r.toNat 0 e m off →
    s.oldest r.toNat (s.ring r.toNat).ii s.mem m off e →
    (s.entryOpen r.toNat e → ∃ t, exec (.entryNop r) s = .next t ∧ (t.ring r.toNat).ii = ((s.ring r.toNat).ii + 1) % 131072 ∧
      EntryEnds s t r.toNat (s.ring r.toNat).ii s.mem m off e 0 s.tally) ∧
    (¬ s.entryOpen r.toNat e → fieldAt e 8 4 ≤ s.tally (fieldAt e 4 2) → ∃ t, exec (.entryNop r) s = .next t ∧
      (t.ring r.toNat).ii = ((s.ring r.toNat).ii + 1) % 131072 ∧
      EntryEnds s t r.toNat (s.ring r.toNat).ii s.mem m off e 0 fun x =>
        if x = fieldAt e 4 2 ∧ bitOf (byteAt e 1) 0 then s.tally x - fieldAt e 8 4 else s.tally x) ∧
    (¬ s.entryOpen r.toNat e → s.tally (fieldAt e 4 2) < fieldAt e 8 4 → s.disp.waiters.length < 8192 →
      ∃ t, exec (.entryNop r) s = .next t ∧ gateWaiter r.toNat e .gate ∈ t.disp.waiters ∧ t.disp.rings = s.disp.rings ∧
      t = { s with regs := t.regs, disp := { s.disp with waiters := t.disp.waiters } } ∧ OnlyRegs s t [R.TLY_STATUS.at 0])) ∧
  (∀ (s : State) (r : BitVec 11) (e : List Byte) (m : Mem) (off : Nat), s.dispatches = true → s.armed r.toNat = true →
    s.getAt F.RNG_RINGi_CFG_KIND r.toNat = 0 → s.pi r.toNat ≠ (s.ring r.toNat).ii → (∀ d ∈ memDomain m off, s.steadyAt d 2 = true) →
    s.noWait (.ring r.toNat) → s.oldest r.toNat (s.ring r.toNat).ii s.mem m off e → (byteAt e 0 = 0 ∨ 8 ≤ byteAt e 0) → s.entryOk r.toNat e = false →
    ∃ t, exec (.entryNop r) s = .next t ∧ EntryEnds s t r.toNat (s.ring r.toNat).ii s.mem m off e 16 s.tally ∧
      t.get F.RNG_COUNTS_INVALID = min (s.get F.RNG_COUNTS_INVALID + 1) 255 ∧
      (s.tally (fieldAt e 6 2) + fieldAt e 12 2 < 2 ^ 32 → t.log = (s.ev2 0x0C03 r.toNat (byteAt e 0)).log)) ∧
  (∀ (s : State) (r : BitVec 11) (e : List Byte) (m : Mem) (off : Nat),
    ∀ q ∈ ([(.entryTallyAdd r, 0, fun v n => min (v + n) (2 ^ 32 - 1)), (.entryTallySub r, 1, fun v n => v - n),
      (.entryTallySet r, 2, fun _ n => n)] : List (Instr × Nat × (Nat → Nat → Nat))),
    s.atEntryOf r.toNat 4 e m off → s.entryOpen r.toNat e → s.oldest r.toNat (s.ring r.toNat).ii s.mem m off e →
    byteAt (entryBody e) 0 = q.2.1 → s.TallyQuiet (fieldAt (entryBody e) 2 2) → ∃ t, exec q.1 s = .next t ∧
      EntryEnds s t r.toNat (s.ring r.toNat).ii s.mem m off e 0 fun x =>
        if x = fieldAt (entryBody e) 2 2 then q.2.2 (s.tally x) (fieldAt (entryBody e) 4 4) else s.tally x) ∧
  (∀ (s : State) (r : BitVec 11) (e : List Byte) (m : Mem) (off : Nat), s.atEntryOf r.toNat 7 e m off → s.entryOpen r.toNat e →
    s.oldest r.toNat (s.ring r.toNat).ii s.mem m off e →
    let k := fieldAt (entryBody e) 0 2
    let n := fieldAt (entryBody e) 2 2
    let room := s.getAt F.RNG_RINGi_CFG_OWNER k = 0 ∧ ringDiff (s.pi k) (s.di k) + n ≤ s.ringSize k
    (room → k ≠ r.toNat → ∃ t, exec (.doorbell r) s = .next t ∧ t.pi k = (s.pi k + n) % 131072 ∧
      EntryEnds s t r.toNat (s.ring r.toNat).ii s.mem m off e 0 s.tally) ∧
    (room → k = r.toNat → s.getAt F.RNG_RINGi_CFG_REPEAT k = 0 → ∃ t, exec (.doorbell r) s = .next t ∧
      t.pi k = (s.pi k + n) % 131072 ∧ t.di k = ((s.ring k).ii + 1) % 131072) ∧
    (¬ room → ∃ t, exec (.doorbell r) s = .next t ∧ EntryEnds s t r.toNat (s.ring r.toNat).ii s.mem m off e 0 s.tally ∧
      (k ≠ r.toNat → t.pi k = s.pi k) ∧ t.get F.RNG_COUNTS_REJECTS = min (s.get F.RNG_COUNTS_REJECTS + 1) 255)) ∧
  (∀ (s : State) (r : BitVec 11) (e : List Byte) (m : Mem) (off : Nat), s.atEntryOf r.toNat 6 e m off → s.entryOpen r.toNat e →
    s.oldest r.toNat (s.ring r.toNat).ii s.mem m off e →
    let x := fieldAt (entryBody e) 0 2
    let v := fieldAt (entryBody e) 4 4
    (v ≤ s.tally x → s.disp.notify.length < 64 → ∃ t, exec (.waitNotify r) s = .next t ∧
      t.disp.notify = s.disp.notify ++ [(r.toNat, fieldAt e 14 2)] ∧
      EntryEnds s t r.toNat (s.ring r.toNat).ii s.mem m off e 0 s.tally) ∧
    (s.tally x < v → s.disp.waiters.length < 8192 → ∃ t, exec (.waitNotify r) s = .next t ∧
      ⟨.notify (s.ring r.toNat).ii, r.toNat, x, v, false⟩ ∈ t.disp.waiters ∧
      (t.ring r.toNat).ii = ((s.ring r.toNat).ii + 1) % 131072 ∧ t.di r.toNat = s.di r.toNat ∧ t.mem = s.mem) ∧
    (s.tally x < v → 8192 ≤ s.disp.waiters.length → ∃ t, exec (.waitNotify r) s = .next t ∧
      EntryEnds s t r.toNat (s.ring r.toNat).ii s.mem m off e 18 s.tally ∧
      t.get F.TLY_COUNTS_BUSY = min (s.get F.TLY_COUNTS_BUSY + 1) 65535)) ∧
  (∀ (s : State) (r : BitVec 11) (e : List Byte) (m : Mem) (off : Nat) (p k : Nat), s.atEntryOf r.toNat 5 e m off →
    p = byteAt (entryBody e) 0 → k = byteAt (entryBody e) 1 →
    (s.portsOn = true → (s.portReady p = false ∨ s.portIdle p = false ∨ s.yardWaits p = true) → exec (.port r) s = .next s) ∧
    (s.portsOn = true → s.portReady p = true → s.portIdle p = true → s.yardWaits p = false → s.entryOpen r.toNat e →
      s.scriptOf p k ≠ [] →
      ∃ t, exec (.port r) s = .next t ∧
        t.port p = { s.port p with run := some { script := k, init := false, entry := some (r.toNat, (s.ring r.toNat).ii) } } ∧
        (∀ j, j ≠ p → t.port j = s.port j) ∧ t.getAt F.SPT_PORTn_STATUS_BUSY p = 1 ∧
        (t.ring r.toNat).ii = ((s.ring r.toNat).ii + 1) % 131072 ∧ t.di r.toNat = s.di r.toNat ∧ t.mem = s.mem) ∧
    (s.portsOn = false → ∃ t, exec (.port r) s = .next t ∧ t.voteSlot 20 3 = 2 ∧ t.head.ports = s.head.ports ∧
      t.disp = s.disp ∧ t.mem = s.mem)) ∧
  (∀ (s : State) (r : BitVec 11) (e : List Byte) (m : Mem) (off : Nat), ∀ q ∈ ([(.tile r, 1), (.head r, 2)] : List (Instr × Nat)),
    s.atEntryOf r.toNat q.2 e m off → s.fab.reissues = [] →
    let j := s.ringTile r.toNat
    (q.2 = 1 → byteAt (entryBody e) 6 = 0 ∧ s.steadyAt (12 + j.first / 0x400000) 2 = true) →
    ((s.issuesTiles (s.cls r.toNat) = false ∨ s.myTurn r.toNat s.placeable = false) → exec q.1 s = .next s) ∧
    (s.issuesTiles (s.cls r.toNat) = true → s.myTurn r.toNat s.placeable = true → s.entryOpen r.toNat e →
      (bitOf (byteAt e 1) 1 = false ∨ fieldAt e 4 2 = 0xFFFF) →
      (∀ st, s.placeOf (s.asEmul j) = .on st → ∃ t, exec q.1 s = .next t ∧ (t.stall st).tile = some (s.asEmul j) ∧
        (∀ k, k ≠ st → t.stall k = s.stall k) ∧ t.voteSlot (st / 8) 3 = 2 ∧
        (t.ring r.toNat).ii = ((s.ring r.toNat).ii + 1) % 131072 ∧ t.di r.toNat = s.di r.toNat ∧
        elGet 2047 t.disp.served (s.cls r.toNat) = r.toNat ∧ t.mem = s.mem ∧ ∀ x < 4096, t.tally x = s.tally x) ∧
      (s.placeOf (s.asEmul j) = .later → exec q.1 s = .next s) ∧
      (s.placeOf (s.asEmul j) = .nowhere → s.oldest r.toNat (s.ring r.toNat).ii s.mem m off e → ∃ t, exec q.1 s = .next t ∧
        LogsFirst s t 0x0803 0xFF 10 ∧ (t.ring r.toNat).ii = ((s.ring r.toNat).ii + 1) % 131072 ∧
        EntryEnds s t r.toNat (s.ring r.toNat).ii s.mem m off e 10 s.tally)) ∧
    (s.issuesTiles (s.cls r.toNat) = true → s.myTurn r.toNat s.placeable = true → bitOf (byteAt e 1) 1 = true →
      fieldAt e 4 2 ≠ 0xFFFF → s.tally (fieldAt e 4 2) < fieldAt e 8 4 → s.disp.waiters.length < 8192 →
      ∀ st, s.placeOf (s.asEmul { j with gated := true }) = .on st → ∃ t, exec q.1 s = .next t ∧
        (t.stall st).tile = some (s.asEmul { j with gated := true }) ∧ gateWaiter r.toNat e (.early st) ∈ t.disp.waiters ∧
        (t.ring r.toNat).ii = ((s.ring r.toNat).ii + 1) % 131072 ∧ t.mem = s.mem)) ∧
  (∀ (s : State) (r : BitVec 11) (e : List Byte) (m : Mem) (off : Nat) (b : Fin 4), s.atEntryOf r.toNat 1 e m off →
    let j := { s.ringTile r.toNat with wset := 0xFFFF }
    byteAt (entryBody e) 6 = 1 → s.isHint j = false → s.steadyAt (12 + j.first / 0x400000) 2 = true →
    s.issuesTiles (s.cls r.toNat) = true → s.myTurn r.toNat s.bayable = true → s.barnReady = true → s.barn.failed = false →
    s.barnDead = false → s.barnSettled → s.barnStays → s.entryOpen r.toNat e → s.bayOf j = .on b.val →
    ∃ t, exec (.tile r) s = .next t ∧
      t.bay b = { s.bay b with tile := some j, cut := if (s.bay b).tile.isSome then (s.bay b).tile else (s.bay b).cut } ∧
      (∀ k, k ≠ b.val → t.bay k = s.bay k) ∧ t.barn.hint = false ∧ t.voteSlot 17 3 = 2 ∧
      (t.ring r.toNat).ii = ((s.ring r.toNat).ii + 1) % 131072 ∧ t.di r.toNat = s.di r.toNat ∧ t.mem = s.mem) ∧
  ∀ (s : State) (r : BitVec 11) (m ma : Mem) (off oa st : Nat), s.issuesTiles (s.cls r.toNat) = true →
    s.myTurn r.toNat s.placeable = true → s.armed r.toNat = true → s.noWait (.ring r.toNat) →
    s.getAt F.RNG_RINGi_CFG_KIND r.toNat = 1 → s.pi r.toNat ≠ (s.ring r.toNat).ii → (s.ring r.toNat).tileOut = false →
    s.entryAt r.toNat (s.ring r.toNat).ii = some (m, off) → (∀ d ∈ memDomain m off, s.steadyAt d 2 = true) →
    fabAddr (s.ring r.toNat).arg = .mem ma oa → (∀ d ∈ memDomain ma oa, s.steadyAt d 2 = true) → s.fab.reissues = [] →
    let j := s.ringTile r.toNat
    j.data = true ∧ j.first = bitsOf (s.ring r.toNat).handler 0 24 ∧ (s.placeOf (s.asEmul j) = .on st →
      ∃ t, exec (.dataEntry r) s = .next t ∧ (t.stall st).tile = some (s.asEmul j) ∧
      t.mem = s.mem.write ma oa (s.mem.read m off 64) (s.mem.taint m off 64) ∧ (t.ring r.toNat).tileOut = true ∧
      (t.ring r.toNat).ii = ((s.ring r.toNat).ii + 1) % 131072 ∧ t.di r.toNat = s.di r.toNat ∧
      ∀ k, k ≠ st → t.stall k = s.stall k)

/-- MOVE, COPY, FILL, TRANSPOSE, MOVE_DONE, RING_DOORBELL, TLY_ADD, TLY_SUB and TLY_SET. -/
def Obligations.MoverAndTallies : Prop :=
  (∀ (s : State) (r : BitVec 11) (e : List Byte) (m : Mem) (off : Nat), s.atEntryOf r.toNat 3 e m off → s.entryOpen r.toNat e →
    s.moves < 64 → (s.cls r.toNat = 0 ∨ s.c0Move = false) → ∃ t, exec (.move r) s = .next t ∧
      t.chan (s.chanOf r.toNat) = s.chan (s.chanOf r.toNat) ++ [{ ring := r.toNat, idx := (s.ring r.toNat).ii, body := entryBody e }] ∧
      (∀ c, c ≠ s.chanOf r.toNat → t.chan c = s.chan c) ∧ (t.ring r.toNat).ii = ((s.ring r.toNat).ii + 1) % 131072 ∧
      t.di r.toNat = s.di r.toNat ∧ t.mem = s.mem) ∧
  (∀ (s : State) (c : Fin 16) (j : MoveJob) (rest : List MoveJob) (sm dm : Mem) (so dO : Nat), s.atMove c 0 j rest sm so dm dO →
    (spansMeet j.body = false ∨ sameStrides j.body = true) → ∃ t, exec (.copy c) s = .next t ∧ Moved s t c j rest dm dO ∧
      ∀ p ∈ ((srcSide j.body).rowOffs so).zip ((dstSide j.body).rowOffs dO),
        t.mem.read dm p.2 (srcSide j.body).len = s.mem.read sm p.1 (srcSide j.body).len) ∧
  (∀ (s : State) (c : Fin 16) (j : MoveJob) (rest : List MoveJob) (sm dm : Mem) (so dO : Nat), s.atMove c 1 j rest sm so dm dO →
    ∃ t, exec (.fill c) s = .next t ∧ Moved s t c j rest dm dO ∧
      ∀ p ∈ ((dstSide j.body).rowOffs dO).zipIdx, ∀ k < (dstSide j.body).len,
        t.mem.read dm (p.1 + k) 1 = [j.body.getD (36 + (p.2 * (dstSide j.body).len + k) % 4) 0]) ∧
  (∀ (s : State) (c : Fin 16) (j : MoveJob) (rest : List MoveJob) (sm dm : Mem) (so dO : Nat), s.atMove c 2 j rest sm so dm dO →
    spansMeet j.body = false →
    let x := srcSide j.body
    let y := dstSide j.body
    let n := mvElem j.body
    ∃ t, exec (.transpose c) s = .next t ∧ Moved s t c j rest dm dO ∧
      ∀ q < x.planes, ∀ r < x.rows, ∀ k < y.rows,
        t.mem.read dm (dO + q * y.s2 + k * y.s1 + r * n) n = s.mem.read sm (so + q * x.s2 + r * x.s1 + k * n) n) ∧
  (∀ (s : State) (c : Fin 16) (j : MoveJob) (rest : List MoveJob) (op : Nat), s.chan c = j :: rest → s.isUp = true → s.coreOn = true →
    s.alarmHold = false → s.disp.stopped = false → j.ran = false → mvOp j.body = op → (dstSide j.body).place.isSome = true →
    (op ≠ 1 → (srcSide j.body).place.isSome = true) →
    let inside := (op ≠ 1 → (srcSide j.body).inside = true) ∧ (dstSide j.body).inside = true
    ∀ q ∈ ([(.copy c, 0), (.fill c, 1), (.transpose c, 2)] : List (Instr × Nat)), q.2 = op →
    (¬ inside → ∃ t, exec q.1 s = .next t ∧ t.mem = s.mem ∧ t.chan c = { j with ran := true, status := 19 } :: rest ∧
      t.log = (s.ev 0x0C0A j.ring).log ∧ t.get F.MOV_COUNTS_FAULTS = satAdd F.MOV_COUNTS_FAULTS.width (s.get F.MOV_COUNTS_FAULTS) 1) ∧
    (inside → op ≠ 1 → spansMeet j.body = true → (op = 2 ∨ sameStrides j.body = false) → ∃ t, exec q.1 s = .next t ∧ t.mem = s.mem ∧
      t.chan c = { j with ran := true, status := 17 } :: rest ∧ t.log = (s.ev 0x0C04 j.ring).log ∧
      t.get F.MOV_COUNTS_ALIAS = satAdd F.MOV_COUNTS_ALIAS.width (s.get F.MOV_COUNTS_ALIAS) 1)) ∧
  (∀ (s : State) (c : Fin 16) (j : MoveJob) (rest : List MoveJob) (m : Mem) (off : Nat) (e : List Byte), s.chan c = j :: rest →
    j.ran = true → s.isUp = true → s.coreOn = true → j.status < 256 → s.oldest j.ring j.idx s.mem m off e →
    ∃ t, exec (.moveDone c) s = .next t ∧ t.chan c = rest ∧ (∀ k, k ≠ c.val → t.chan k = s.chan k) ∧
      t.get F.MOV_COUNTS_DONE = satAdd F.MOV_COUNTS_DONE.width (s.get F.MOV_COUNTS_DONE) 1 ∧
      EntryEnds s t j.ring j.idx s.mem m off e j.status s.tally) ∧
  (∀ (s : State) (v : Word), s.reaches .steward = true →
    let k := F.RNG_DOORBELL_RING.of v
    let n := F.RNG_DOORBELL_COUNT.of v
    let room := k < 2048 ∧ s.getAt F.RNG_RINGi_CFG_OWNER k = 2 ∧ ringDiff (s.pi k) (s.di k) + n ≤ s.ringSize k
    (n ≠ 0 → room → ∃ t, exec (.ringDoorbell .steward v) s = .next t ∧ t.pi k = (s.pi k + n) % 131072 ∧
      ChangesRegs s t [R.RNG_RINGi_PI.at k]) ∧
    (n ≠ 0 → ¬ room → ∃ t, exec (.ringDoorbell .steward v) s = .next t ∧ t.log = (s.ev2 0x0C02 k 2).log ∧
      t.get F.RNG_COUNTS_REJECTS = min (s.get F.RNG_COUNTS_REJECTS + 1) 255 ∧ ChangesLogged s t [R.RNG_COUNTS.at 0]) ∧
    (n = 0 → exec (.ringDoorbell .steward v) s = .next s)) ∧
  (∀ (s : State) (x : BitVec 12), s.reaches .steward = true →
    ∀ q ∈ ([(.tlyAdd .steward x, fun v n => min (v + n) (2 ^ 32 - 1)), (.tlySub .steward x, fun v n => v - n),
      (.tlySet .steward x, fun _ n => n)] : List (Instr × (Nat → Nat → Nat))), s.TallyQuiet x.toNat →
    ∃ t, exec q.1 s = .next t ∧ t.tally x.toNat = q.2 (s.tally x.toNat) (s.get F.TLY_VALUE_VALUE) ∧
      t.disp = s.disp ∧ ChangesLogged s t [R.TLY_TALLYt.at x.toNat, R.TLY_COUNTS.at 0]) ∧
  ∀ (s : State) (x : BitVec 12) (w : Waiter), s.reaches .steward = true → s.disp.ops = [] → s.disp.waiters = [w] → w.tally = x.toNat →
    w.what = .gate → (∀ c ∈ s.cim.sets, c.tally ≠ x.toNat) →
    let v := min (s.tally x.toNat + s.get F.TLY_VALUE_VALUE) (2 ^ 32 - 1)
    w.value ≤ v → ∃ t, exec (.tlyAdd .steward x) s = .next t ∧ t.disp.waiters = [] ∧ (t.ring w.ring).gateOk = true ∧
      t.tally x.toNat = (if w.consume then v - w.value else v) ∧ t.get F.TLY_STATUS_WAITERS = 0 ∧ t.mem = s.mem ∧
      ∀ y < 4096, y ≠ x.toNat → t.tally y = s.tally y

/-- MB_VOTE, MB_STATE, MB_PORT_CLEAR, MB_ATTACH, MB_DETACH, MB_WARM, MAILBOX_ERROR, HOST_DOORBELL, REC_ACK, NOTIFY, PCIE_UP,
PCIE_DOWN and D_STATE_CHANGE. -/
def Obligations.HostCommands : Prop :=
  (∀ (s : State) (q d l : Byte), s.reaches .host = true →
    (d.toNat < 24 → l.toNat < 3 → ∃ t, exec (.mbVote q d l) s = .next t ∧ t.voteSlot d.toNat 5 = l.toNat ∧ MbAnswered s t q 0 ∧
      t.mem = s.mem ∧ ∀ e k, e < 24 → k < 16 → k ≠ 8 → (k ≠ 10 ∨ e < 16 ∨ 17 < e) → (e ≠ d.toNat ∨ k ≠ 5) → t.voteSlot e k = s.voteSlot e k) ∧
    ((24 ≤ d.toNat ∨ 3 ≤ l.toNat) → ∃ t, exec (.mbVote q d l) s = .next t ∧ t.pwr = s.pwr ∧ MbAnswered s t q 2 ∧
      t.log = (s.ev2 0x0D02 1 2).log ∧ t.get F.PCI_COUNTS_MB_ERRORS = min (s.get F.PCI_COUNTS_MB_ERRORS + 1) 255)) ∧
  (∀ (s : State) (q g : Byte), s.reaches .host = true → s.isUp = true → s.ChipQuiet → s.flag F.SPN_STATUS_XT_STOPPED = false →
    (s.pwr.state < g.toNat → g.toNat < 4 → ∃ t, exec (.mbState q g) s = .next t ∧ MbAnswered s t q 0 ∧
      t.pwr = { s.pwr with req := some { target := g.toNat, cause := 0 } } ∧ t.mem = s.mem ∧ t.log = s.log) ∧
    (4 ≤ g.toNat → ∃ t, exec (.mbState q g) s = .next t ∧ MbAnswered s t q 2 ∧ t.pwr = s.pwr ∧ t.log = (s.ev2 0x0D02 2 2).log)) ∧
  (∀ (s : State) (q m : Byte), s.reaches .host = true → ∃ t, exec (.mbPortClear q m) s = .next t ∧ MbAnswered s t q 0 ∧
    (s.level 20 = 2 → ∀ p < 8, t.portState p = if bitOf m.toNat p = true ∧ s.portState p = 5 then s.probeState else s.portState p) ∧
    (s.level 20 ≠ 2 → ∀ p < 8, t.portState p = s.portState p ∧ (bitOf m.toNat p = true → (t.port p).clearDue = true))) ∧
  (∀ (s : State) (q : Byte), s.reaches .host = true →
    (s.attached 0 = false → bitOf (s.get F.GATE_CFG_OUTPUTS) 0 = true → ∃ t, exec (.mbAttach q) s = .next t ∧
      t.attached 0 = true ∧ t.outIdx 0 = s.host.freed % 256 ∧ MbAnswered s t q 0 ∧ t.log = s.log ∧ t.mem = s.mem) ∧
    (bitOf (s.get F.GATE_CFG_OUTPUTS) 0 = false → ∃ t, exec (.mbAttach q) s = .next t ∧ t.attached 0 = s.attached 0 ∧
      MbAnswered s t q 0 ∧ OnlyRegs s t []) ∧
    (∃ t, exec (.mbDetach q) s = .next t ∧ t.attached 0 = false ∧ (∀ o, 0 < o → o < 4 → t.attached o = s.attached o) ∧
      MbAnswered s t q 0 ∧ t.log = s.log ∧ t.mem = s.mem) ∧
    (s.isUp = true → s.alarmHold = false → ∃ t, exec (.mbWarm q) s = .next t ∧ t.boot.phase = .due ∧ t.boot.cause = 0xA ∧
      t.host.mbResp = BitVec.ofNat 32 (256 * q.toNat))) ∧
  (∀ (s : State) (c q : Byte), s.reaches .host = true →
    let st := if 1 ≤ c.toNat ∧ c.toNat ≤ 5 then 3 else 1
    ∃ t, exec (.mailboxError c q) s = .next t ∧ MbAnswered s t q st ∧ t.log = (s.ev2 0x0D02 c.toNat st).log ∧
      t.get F.PCI_COUNTS_MB_ERRORS = min (s.get F.PCI_COUNTS_MB_ERRORS + 1) 255 ∧ t.pwr = s.pwr ∧ t.mem = s.mem) ∧
  (∀ (s : State) (v : Word), s.reaches .host = true →
    let k := F.RNG_DOORBELL_RING.of v
    let n := F.RNG_DOORBELL_COUNT.of v
    let room := s.getAt F.RNG_RINGi_CFG_OWNER k = 1 ∧ ringDiff (s.pi k) (s.di k) + n ≤ s.ringSize k
    n ≠ 0 → (room → ∃ t, exec (.hostDoorbell v) s = .next t ∧ t.pi k = (s.pi k + n) % 131072 ∧
      ChangesRegs s t [R.RNG_RINGi_PI.at k]) ∧
    (¬ room → ∃ t, exec (.hostDoorbell v) s = .next t ∧ t.log = (s.ev2 0x0C02 k 1).log ∧ ChangesLogged s t [R.RNG_COUNTS.at 0])) ∧
  (∀ (s : State) (v : Word), s.reaches .host = true → s.attached 0 = true → s.alarmHold = false →
    let n := outDiff (v.toNat % 256) (s.outIdx 0)
    (0 < n → n ≤ s.waitingFor 0 → ∃ t, exec (.recAck v) s = .next t ∧ t.outIdx 0 = v.toNat % 256 ∧ t.host.vec0 = false ∧
      t.waitingFor 0 = s.waitingFor 0 - n ∧ t.mem = s.mem ∧ t.log = s.log) ∧
    ((n = 0 ∨ s.waitingFor 0 < n) → ∃ t, exec (.recAck v) s = .next t ∧ t = { s with host := { s.host with vec0 := false } })) ∧
  (∀ s : State, s.reaches .host = true →
    (s.disp.notify = [] → ∃ t, exec .notify s = .next t ∧ t = { s with resp := leBytes 4 0 }) ∧
    (∀ r g rest, s.disp.notify = (r, g) :: rest → s.disp.notifyHeld = [] → r < 2048 → g < 65536 → ∃ t, exec .notify s = .next t ∧
      t = { s with resp := leBytes 4 (2 ^ 31 + 65536 * r + g), disp := { s.disp with notify := rest } })) ∧
  (∀ (s : State) (g : BitVec 3) (w : BitVec 2), s.level 21 = 2 → s.flag F.PCI_STATUS_UP = false → s.bankOk 4 = true →
    1 ≤ g.toNat → g.toNat ≤ 4 → 1 ≤ w.toNat → w.toNat ≤ 2 → ∃ t, exec (.pcieUp g w) s = .next t ∧ t.flag F.PCI_STATUS_UP = true ∧
      t.get F.PCI_STATUS_GEN = g.toNat ∧ t.get F.PCI_STATUS_WIDTH = w.toNat ∧ t.log = (s.ev2 0x0D00 g.toNat w.toNat).log ∧
      ∀ v < 3, bitOf s.host.pba v = true → s.get F.PCI_STATUS_DSTATE = 0 → (s.msixWord (4 * v + 3)).getLsbD 0 = false →
        bitOf t.host.pba v = false ∧ elGet 0 t.host.sent v = elGet 0 s.host.sent v + 1) ∧
  (∀ s : State, (s.flag F.PCI_STATUS_UP = false → exec .pcieDown s = .next s) ∧
    (s.flag F.PCI_STATUS_UP = true → ∃ t, exec .pcieDown s = .next t ∧ t.flag F.PCI_STATUS_UP = false ∧ t.get F.PCI_STATUS_GEN = 0 ∧
      t.get F.PCI_STATUS_WIDTH = 0 ∧ t.attached 0 = false ∧ bitOf t.host.pba 2 = false ∧ t.disp.notify = s.disp.notify ∧
      t.log = (s.ev 0x0D01 0).log ∧ t.mem = s.mem)) ∧
  ∀ s : State, s.level 21 = 2 →
    (∃ t, exec (.dStateChange 3) s = .next t ∧ t.get F.PCI_STATUS_DSTATE = 3 ∧ t.attached 0 = false ∧ t.log = s.log ∧ t.mem = s.mem) ∧
    ∃ t, exec (.dStateChange 0) s = .next t ∧ t.get F.PCI_STATUS_DSTATE = 0 ∧ t.attached 0 = s.attached 0 ∧ t.log = s.log ∧ t.mem = s.mem

/-- HOST_WINDOW_WRITE, STATUS, READ_RECORD, READ_REG, OUTPUT_DETACHED, UART_RECORD and UART_CTS_N_LOW. -/
def Obligations.RecordOutputs : Prop :=
  (∀ (s : State) (off : Word) (d : List Byte), s.reaches .host = true → d ≠ [] → 0x10000 ≤ off.toNat → off.toNat + d.length ≤ 0x100000 →
    let a := 4096 * s.winBase + (off.toNat - 0x10000)
    s.steadyAt (12 + a / 0x400000) 2 = true → s.steadyAt (12 + (a + d.length - 1) / 0x400000) 2 = true →
    (∀ p ∈ plotsOf a d.length, s.mem.plot .loft p = 0) → ∃ t, exec (.hostWindowWrite off d) s = .next t ∧
      t.mem.read .loft a d.length = d ∧ (∀ k, (k < a ∨ a + d.length ≤ k) → t.mem.read .loft k 1 = s.mem.read .loft k 1) ∧
      (∀ p, t.mem.plot .loft p = s.mem.plot .loft p) ∧ t = { s with mem := t.mem }) ∧
  (∀ (s : State) (off : Word) (d : List Byte), s.reaches .host = true → d.length = 4 → off.toNat % 4 = 0 → 0x10000 ≤ off.toNat →
    off.toNat < 0x100000 → let a := 4096 * s.winBase + (off.toNat - 0x10000)
    s.steadyAt (12 + a / 0x400000) 2 = true → s.mem.plot .loft (a / 4096) ≠ 0 → s.coreOn = true → s.flag F.STW_ACCESS_INFO_VALID = false →
    ∃ t, exec (.hostWindowWrite off d) s = .next t ∧ t.mem = s.mem ∧ t.get F.STW_ACCESS_ADDR_ADDR = 0x10000000 + a ∧
      t.get F.STW_ACCESS_INFO_MASTER = 1 ∧ t.get F.STW_ACCESS_INFO_WRITE = 1 ∧ t.get F.STW_ACCESS_INFO_VALID = 1) ∧
  (∀ (s : State) (off : Word) (d : List Byte), off.toNat + d.length ≤ 0x10000 → exec (.hostWindowWrite off d) s = .next s) ∧
  (∀ (s : State) (o : SmallPort), s.bankOk 0 = true →
    let i := portOut o
    (s.span.running = true → s.attached i = true → ∃ t, exec (.status o) s = .next t ∧ t = { s with resp := t.resp } ∧
      t.resp = [BitVec.ofNat 8 (min 64 (if s.alarmHold then 0 else s.waitingFor i)),
        BitVec.ofNat 8 (b2n (s.level 21 != 2) + 2 * s.get F.IMG_BOOT_HOLD), BitVec.ofNat 8 (s.outIdx i), 0]) ∧
    (s.span.running = true → s.attached i = false → bitOf (s.get F.GATE_CFG_OUTPUTS) i = true → ∃ t, exec (.status o) s = .next t ∧
      t.attached i = true ∧ t.outIdx i = s.host.freed % 256 ∧ t.mem = s.mem ∧
      OnlyRegs s t [R.PCI_RECo_INDEX.at i, R.PCI_REC.at 0]) ∧
    (s.span.running = false → ∀ c, ∃ t, exec (.readRecord o c) s = .next t ∧
      t = { s with resp := if o = .spi then List.replicate 64 0xFF else [] }) ∧
    (s.span.running = true → s.attached i = true → ∀ c,
      ((s.alarmHold = true ∨ s.waitingFor i = 0) → ∃ t, exec (.readRecord o c) s = .next t ∧
        t = { s with resp := List.replicate 64 0 }) ∧
      (s.alarmHold = false → 0 < s.waitingFor i → ∃ t, exec (.readRecord o c) s = .next t ∧
        t.resp = s.yardRead (0x5000 + 64 * (s.outIdx i % 64)) 64 ∧ (c = false → t = { s with resp := t.resp }) ∧
        (c = true → Consumed s t i)))) ∧
  (∀ (s : State) (o : SmallPort) (a : Word), s.bankOk 0 = true → s.span.running = true → inRegs a.toNat = true → a.toNat % 4 = 0 →
    (∀ r i, isLogImg a.toNat = true → regAt a.toNat = some (r, i) → ∃ t, exec (.readReg o a) s = .next t ∧
      t.resp = leBytes 4 (s.shown r i).toNat ∧ t.reg r i = s.reg r i &&& ~~~ r.rc ∧ OnlyRegs s t [r.at i]) ∧
    (isLogImg a.toNat = false → s.coreOn = true → s.flag F.STW_ACCESS_INFO_VALID = false → ∃ t, exec (.readReg o a) s = .next t ∧
      t.resp = leBytes 4 0 ∧ t.get F.STW_ACCESS_ADDR_ADDR = a.toNat ∧ t.get F.STW_ACCESS_INFO_MASTER = masterCode (portMaster o) ∧
      t.get F.STW_ACCESS_INFO_UNMAPPED = 1 ∧ t.mem = s.mem)) ∧
  (∀ (s : State) (o : SmallPort), s.attached (portOut o) = true → 0 < s.waitingFor (portOut o) → s.span.running = true →
    s.coreOn = true → ∃ t, exec (.outputDetached o) s = .next t ∧ t.attached (portOut o) = false ∧
      (∀ k < 4, k ≠ portOut o → t.attached k = s.attached k) ∧ t.log = (s.ev 0x0D03 (portOut o)).log ∧
      t.get F.PCI_COUNTS_DETACHES = min (s.get F.PCI_COUNTS_DETACHES + 1) 255 ∧ t.mem = s.mem) ∧
  (∀ s : State, s.level 21 = 2 → s.attached 3 = true → s.alarmHold = false → 0 < s.waitingFor 3 → s.host.uart = [] →
    let e := s.yardRead (0x5000 + 64 * (s.outIdx 3 % 64)) 64
    let f := [0xA5, 0x5A, 64] ++ e ++ leBytes 2 (crc16 ((64 : Byte) :: e)).toNat
    (s.flag F.PCI_SMALL_CFG_UART_CTS_EN = false → ∃ t, exec .uartRecord s = .next t ∧ t.resp = f ∧ Consumed s t 3) ∧
    (s.flag F.PCI_SMALL_CFG_UART_CTS_EN = true → ∃ t, exec .uartRecord s = .next t ∧
      t = { s with host := { s.host with uart := f } })) ∧
  ∀ (s : State) (b : Byte) (rest : List Byte), s.bankOk 0 = true → s.host.uart = b :: rest →
    (rest ≠ [] → ∃ t, exec .uartCtsNLow s = .next t ∧ t = { s with resp := [b], host := { s.host with uart := rest } }) ∧
    (rest = [] → ∃ t, exec .uartCtsNLow s = .next t ∧ t.resp = [b] ∧ t.host.uart = [] ∧ Consumed s t 3)

/-- LANE_LOCKED, LANE_LOST, DATA_FRAME, DOORBELL_FRAME, REFUSE, ACK, NAK, CREDIT, RESEND_TIMEOUT and CHANNEL_SEND. -/
def Obligations.LinkFrames : Prop :=
  (∀ (s : State) (p : Fin 2) (l : Fin 4), s.portMay p = true →
    let w := setBitOf (s.getAt F.LNK_PORTp_STATUS_LOCKED p) l true
    (s.flag F.SEC_KEYS_GROUP = true → ∃ t, exec (.laneLocked p l) s = .next t ∧ t.portUp p = true ∧
      t.getAt F.LNK_PORTp_STATUS_LOCKED p = w ∧ t.getAt F.LNK_PORTp_STATUS_WIDTH p = widthOf w ∧
      t.log = (if s.portUp p then s.log else (s.ev2 0x0D10 p (widthOf w)).log) ∧ ChangesLogged s t [R.LNK_PORTp_STATUS.at p]) ∧
    (s.flag F.SEC_KEYS_GROUP = false → ∃ t, exec (.laneLocked p l) s = .next t ∧ t.log = (s.ev 0x0D13 0).log ∧
      ChangesLogged s t [])) ∧
  (∀ (s : State) (p : Fin 2) (l : Fin 4), bitOf (s.getAt F.LNK_PORTp_STATUS_LOCKED p) l = true → s.portUp p = true →
    let w := setBitOf (s.getAt F.LNK_PORTp_STATUS_LOCKED p) l false
    (w ≠ 0 → ∃ t, exec (.laneLost p l) s = .next t ∧ t.portUp p = true ∧ t.getAt F.LNK_PORTp_STATUS_LOCKED p = w ∧
      t.getAt F.LNK_PORTp_STATUS_WIDTH p = widthOf w ∧ t.log = (s.ev2 0x0D11 p l).log ∧
      ChangesLogged s t [R.LNK_PORTp_STATUS.at p]) ∧
    (w = 0 → ∃ t, exec (.laneLost p l) s = .next t ∧ t.portUp p = false ∧ t.getAt F.LNK_PORTp_STATUS_WIDTH p = 0 ∧
      t.log = ((s.ev2 0x0D11 p l).ev 0x0D12 p).log ∧ (s.portUp (1 - p.val) = true → t.portHeld p = [] ∧
        (t.portHeld (1 - p.val)).map (fun f => (f.type, f.src, f.dst, f.ctr, f.payload))
          = (s.portHeld (1 - p.val) ++ s.portHeld p).map fun f => (f.type, f.src, f.dst, f.ctr, f.payload)))) ∧
  (∀ (s : State) (p : Fin 2) (f : LinkFrame), ∀ q ∈ ([(.dataFrame p f, 1), (.doorbellFrame p f, 2), (.heartbeat p f, 3),
      (.membership p f, 4), (.release p f, 5), (.refuse p f, 6)] : List (Instr × Nat)),
    (∀ x, s.importPlot f = some x → s.steadyAt (12 + x / 1024) 2 = true) → s.portUp p = true →
    (f.crcOk = false → ∃ t, exec q.1 s = .next t ∧ t = { s with resp := ctlBlock 0x55 f.lseq.toNat }) ∧
    (f.crcOk = true → f.tagOk = false → ∃ t, exec q.1 s = .next t ∧ t.resp = ctlBlock 0x55 f.lseq.toNat ∧
      t.log = (s.ev 0x0D14 p).log ∧ t.get F.LNK_COUNTS_AUTH_FAILS = min (s.get F.LNK_COUNTS_AUTH_FAILS + 1) 255 ∧
      t.link = s.link ∧ t.mem = s.mem) ∧
    (∀ e, f.crcOk = true → f.tagOk = true → elGet 0 s.link.expect p = e + 1 → f.lseq.toNat ≠ e → ∃ t, exec q.1 s = .next t ∧
      t = { s with resp := if (f.lseq.toNat + 65536 - e) % 65536 < 32768 then ctlBlock 0x55 e else ctlBlock 0x4B f.lseq.toNat }) ∧
    (s.accepts p f → f.dst.toNat ≠ s.chipId → f.dst ≠ 0xFF → f.src.toNat ≠ s.chipId → 1 < f.hops.toNat →
      (q.2 = 1 → s.alarmHold = false) → ∃ t g, exec q.1 s = .next t ∧ Accepted t p f ∧
        t.portHeld (s.portTo f.dst.toNat) = s.portHeld (s.portTo f.dst.toNat) ++ [g] ∧ g.type = q.2 ∧ g.hops = f.hops.toNat - 1 ∧
        g.src = f.src.toNat ∧ g.dst = f.dst.toNat ∧ g.taint = f.taint.toNat ∧ g.ctr = f.ctr.toNat ∧ g.payload = f.payload ∧
        t.mem = s.mem ∧ t.fab = s.fab ∧ t.disp = s.disp ∧ t.log = s.log)) ∧
  (∀ (s : State) (p : Fin 2) (f : LinkFrame), s.accepts p f → f.dst.toNat = s.chipId →
    (∀ x, s.importPlot f = some x → s.trusts f.src.toNat f.taint.toNat = true → s.steadyAt (12 + x / 1024) 2 = true →
      s.failed (12 + x / 1024) = false → ∃ t, exec (.dataFrame p f) s = .next t ∧ Accepted t p f ∧
        t.mem = s.mem.write .loft (4096 * x) (slice f.payload 8 4096) f.taint.toNat ∧ t.voteSlot (12 + x / 1024) 6 = 0) ∧
    (∀ x, s.importPlot f = some x → s.trusts f.src.toNat f.taint.toNat = true → s.steadyAt (12 + x / 1024) 2 = false →
      s.failed (12 + x / 1024) = false → ∃ t, exec (.dataFrame p f) s = .next t ∧ t.voteSlot (12 + x / 1024) 6 = 2 ∧
        t.mem = s.mem ∧ t.link = s.link) ∧
    (s.importPlot f = none → namesPen f = true → ∃ t, exec (.dataFrame p f) s = .next t ∧
      t.resp = ctlBlock 0x4B f.lseq.toNat ∧ LogsFirst s t 0x0D16 f.src.toNat 0 ∧ bitOf (t.get F.SEC_ALARM_STATUS_SEEN) 6 = true) ∧
    (∀ c, (s.importPlot f = none ∧ namesPen f = false ∧ c = 1) ∨ (∃ x, s.importPlot f = some x ∧ s.trusts f.src.toNat f.taint.toNat = false ∧ c = 2) →
      ∃ t g, exec (.dataFrame p f) s = .next t ∧ Accepted t p f ∧ t.mem = s.mem ∧ t.log = (s.ev 0x0D16 f.src.toNat).log ∧
        t.portHeld (s.portTo f.src.toNat) = s.portHeld (s.portTo f.src.toNat) ++ [g] ∧ g.type = 6 ∧ g.dst = f.src.toNat ∧
        g.payload = [f.channel.setWidth 8, BitVec.ofNat 8 c] ++ List.replicate 6 0) ∧
    (let k := fieldAt f.payload 0 2
     let n := fieldAt f.payload 2 2
     k < 2048 → n ≠ 0 → s.getAt F.RNG_RINGi_CFG_OWNER k = 3 → ringDiff (s.pi k) (s.di k) + n ≤ s.ringSize k →
      ∃ t, exec (.doorbellFrame p f) s = .next t ∧ Accepted t p f ∧ t.pi k = (s.pi k + n) % 131072 ∧
        OnlyRegs s t [R.RNG_RINGi_PI.at k] ∧ t.mem = s.mem) ∧
    (byteAt f.payload 0 < 16 → s.link.sending.contains (byteAt f.payload 0) = true → ∃ t, exec (.refuse p f) s = .next t ∧
      Accepted t p f ∧ t.getAt F.LNK_CHn_STAT_LAST (byteAt f.payload 0) = 2 ∧ byteAt f.payload 0 ∉ t.link.sending ∧
      t.get F.LNK_COUNTS_REFUSED = min (s.get F.LNK_COUNTS_REFUSED + 1) 255 ∧ t.mem = s.mem ∧
      LogsFirst s t 0x0D15 (byteAt f.payload 0) (byteAt f.payload 1))) ∧
  (∀ (s : State) (p : Fin 2) (q : BitVec 16) (i : Nat), s.portUp p = true →
    ((s.portHeld p).take 256).findIdx? (fun f => f.lseq == q.toNat) = some i →
    ((∀ f ∈ (s.portHeld p).take (i + 1), f.type ≠ 2 ∨ f.src ≠ s.chipId) → ∃ t, exec (.ack p q) s = .next t ∧
      t.portHeld p = (s.portHeld p).drop (i + 1) ∧ elGet 0 t.link.resends p = 0 ∧ t.log = s.log ∧
      t = { s with regs := t.regs, link := { s.link with held := t.link.held, resends := t.link.resends } } ∧
      OnlyRegs s t [R.LNK_PORTp_STATUS.at p]) ∧
    (∀ f, i = 0 → (s.portHeld p).head? = some f → f.type = 2 → f.src = s.chipId → f.channel < 16 →
      s.link.sending.contains f.channel = true →
      let k := s.getAt F.LNK_CHn_RING_DONE_RING f.channel
      s.getAt F.RNG_RINGi_CFG_OWNER k = 0 → ringDiff (s.pi k) (s.di k) + 1 ≤ s.ringSize k → ∃ t, exec (.ack p q) s = .next t ∧
        t.pi k = (s.pi k + 1) % 131072 ∧ t.getAt F.LNK_CHn_STAT_LAST f.channel = 1 ∧ f.channel ∉ t.link.sending ∧
        t.getAt F.LNK_CHn_STAT_SENDS f.channel = min (s.getAt F.LNK_CHn_STAT_SENDS f.channel + 1) 65535 ∧ t.mem = s.mem) ∧
    (elGet 0 s.link.resends p < 7 → ∃ t, exec (.nak p q) s = .next t ∧ t.portUp p = true ∧
      elGet 0 t.link.resends p = elGet 0 s.link.resends p + 1 ∧ t.link.held = s.link.held ∧ t.get F.LNK_COUNTS_RESENDS
        = min (s.get F.LNK_COUNTS_RESENDS + (((s.portHeld p).take 256).length - i)) 65535 ∧ t.log = s.log) ∧
    (elGet 0 s.link.resends p = 7 → ∃ t, exec (.nak p q) s = .next t ∧ t.portUp p = false ∧ t.log = (s.ev 0x0D12 p).log)) ∧
  (∀ (s : State) (p : Fin 2) (n : Byte), s.portUp p = true →
    (∃ t, exec (.credit p n) s = .next t ∧ elGet 0 t.link.credits p = elGet 0 s.link.credits p + n.toNat ∧
      t = { s with link := { s.link with credits := t.link.credits } }) ∧
    (s.portHeld p ≠ [] → elGet 0 s.link.resends p < 7 → ∃ t, exec (.resendTimeout p) s = .next t ∧ t.portUp p = true ∧
      elGet 0 t.link.resends p = elGet 0 s.link.resends p + 1 ∧ t.link.held = s.link.held ∧
      t.get F.LNK_COUNTS_RESENDS = min (s.get F.LNK_COUNTS_RESENDS + 1) 65535 ∧ t.log = s.log) ∧
    (s.portHeld p ≠ [] → elGet 0 s.link.resends p = 7 → ∃ t, exec (.resendTimeout p) s = .next t ∧ t.portUp p = false ∧
      t.log = (s.ev 0x0D12 p).log)) ∧
  ∀ (s : State) (c : Fin 16), s.isUp = true → s.coreOn = true → s.alarmHold = false → s.link.ready.contains c.val = true →
    s.link.sending.contains c.val = false →
    let n := s.getAt F.LNK_CHn_CFG_PLOTS_M1 c + 1
    let src := s.getAt F.LNK_CHn_ADDR_SRC_PLOT c
    let dst := s.getAt F.LNK_CHn_ADDR_DST_PLOT c
    let chip := s.getAt F.LNK_CHn_CFG_DST_CHIP c
    let w := s.peer chip
    let inside := w.1 ≤ dst ∧ dst + n ≤ w.1 + w.2.1 ∧ src + n ≤ 4096
    (s.level 22 ≠ 2 → ∃ t, exec (.channelSend c) s = .next t ∧ t.voteSlot 22 6 = 2 ∧ t.link = s.link ∧ t.mem = s.mem) ∧
    (s.level 22 = 2 → s.portUp (s.portTo chip) = true → inside → s.steadyAt (12 + src / 1024) 2 = true →
      s.steadyAt (12 + (src + n - 1) / 1024) 2 = true →
      ((∀ j < n, s.trusts chip (s.mem.plot .loft (src + j)) = true) → ∃ t l g, exec (.channelSend c) s = .next t ∧
        t.portHeld (s.portTo chip) = s.portHeld (s.portTo chip) ++ l ++ [g] ∧ l.length = n ∧
        (∀ j f, l[j]? = some f → f.type = 1 ∧ f.dst = chip ∧ f.hops = 63 ∧ f.taint = s.mem.plot .loft (src + j) ∧
          f.payload = leBytes 4 (0x40000000 + 4096 * (dst + j)) ++ leBytes 4 0 ++ s.mem.read .loft (4096 * (src + j)) 4096) ∧
        g.type = 2 ∧ g.dst = chip ∧ g.payload = leBytes 2 (s.getAt F.LNK_CHn_RING_REMOTE_RING c) ++ leBytes 2 1 ++ leBytes 4 0 ∧
        c.val ∈ t.link.sending ∧ c.val ∉ t.link.ready ∧ t.getAt F.LNK_CHn_STAT_STATE c = 2 ∧ t.voteSlot 22 6 = 2 ∧ t.mem = s.mem) ∧
      (s.trusts chip (s.mem.plot .loft src) = false → ∃ t, exec (.channelSend c) s = .next t ∧
        t.getAt F.LNK_CHn_STAT_LAST c = 2 ∧ c.val ∉ t.link.sending ∧ ∀ p < 2, t.portHeld p = s.portHeld p)) ∧
    (s.level 22 = 2 → s.portUp (s.portTo chip) = true → ¬ inside → ∃ t, exec (.channelSend c) s = .next t ∧
      t.getAt F.LNK_CHn_STAT_LAST c = 2 ∧ c.val ∉ t.link.sending ∧ (∀ p < 2, t.portHeld p = s.portHeld p) ∧
      t.get F.LNK_COUNTS_REFUSED = min (s.get F.LNK_COUNTS_REFUSED + 1) 255)

/-- HEARTBEAT, MEMBERSHIP, HEARTBEAT_LOSS, JOB_DRAINED and RELEASE. -/
def Obligations.LinkGroup : Prop :=
  (∀ (s : State) (p : Fin 2) (f : LinkFrame), s.accepts p f → (f.dst.toNat = s.chipId ∨ (f.dst = 0xFF ∧ f.src.toNat ≠ s.chipId)) →
    let b := f.payload
    let c := f.src.toNat
    ∃ t, exec (.heartbeat p f) s = .next t ∧ Accepted t p f ∧ t.peer c = (fieldAt b 24 2, fieldAt b 26 2, fieldAt b 20 2) ∧
      (∀ k, k ≠ c → t.peer k = s.peer k) ∧ t.mem = s.mem ∧
      (s.leads = false → t.fab = s.fab ∧ t.live = s.live ∧ t.log = s.log) ∧
      (s.leads = true → fieldAt b 8 8 = s.fab.digest → s.fab.digest ≠ 0 → bitOf (byteAt b 23) 0 = true → bitOf s.live c = false →
        t.live = setBitOf s.live c true ∧ t.fab.epoch = s.fab.epoch + 1) ∧
      (s.leads = true → fieldAt b 8 8 = s.fab.digest → (bitOf (byteAt b 23) 0 = false ∨ bitOf s.live c = true ∨ s.fab.digest = 0) →
        t.fab = s.fab ∧ t.live = s.live ∧ t.log = s.log) ∧
      (s.leads = true → fieldAt b 8 8 ≠ s.fab.digest → bitOf s.live c = false →
        t.fab = s.fab ∧ t.live = s.live ∧ t.log = (s.ev 0x0832 c).log) ∧
      (s.leads = true → fieldAt b 8 8 ≠ s.fab.digest → bitOf s.live c = true → t.live = setBitOf s.live c false ∧
        t.fab.epoch = s.fab.epoch + 1 ∧ LogsFirst s t 0x0832 c 0)) ∧
  (∀ (s : State) (p : Fin 2) (f : LinkFrame), s.accepts p f → (f.dst.toNat = s.chipId ∨ (f.dst = 0xFF ∧ f.src.toNat ≠ s.chipId)) →
    let b := f.payload
    ∃ t, exec (.membership p f) s = .next t ∧ Accepted t p f ∧ t.mem = s.mem ∧
      (s.fab.epoch < fieldAt b 8 4 → t.live = fieldAt b 0 8 ∧ t.fab.epoch = fieldAt b 8 4 ∧
        t.fab.joined = (s.fab.joined || bitOf (fieldAt b 0 8) s.chipId)) ∧
      (fieldAt b 8 4 ≤ s.fab.epoch → t.live = s.live ∧ t.fab = s.fab ∧ t.log = s.log)) ∧
  (∀ (s : State) (x : BitVec 6), s.isUp = true → s.coreOn = true → bitOf s.live x.toNat = true → x.toNat ≠ s.chipId →
    let new := setBitOf s.live x.toNat false
    ∃ t, exec (.heartbeatLoss x) s = .next t ∧ t.live = new ∧ t.mem = s.mem ∧ LogsFirst s t 0x0830 x.toNat 0 ∧
      t.fab.epoch = (if leaderOf new = s.chipId then s.fab.epoch + 1 else s.fab.epoch) ∧
      (∀ j, s.fab.jobs = [j] → j.primary = x.toNat → j.owner new = some s.chipId → s.quorumOf s.live = true → s.quorumOf new = true →
        j.job ∉ s.fab.owned → j.job ∉ s.fab.draining → s.drainer j.job = none →
        j.job ∈ t.fab.owned ∧ ∀ i ∈ j.list, i < 2048 → s.reg R.RNG_RINGi_BASE i ≠ 0 →
          t.armed i = true ∧ t.pi i = min (s.ringSize i) (ringDiff (s.pi i) (s.di i)) ∧ t.di i = 0 ∧ (t.ring i).ii = 0)) ∧
  (∀ (s : State) (x : BitVec 8) (j : JobCfg) (c : Nat), s.isUp = true → s.coreOn = true → s.jobCfg x.toNat = some j →
    j.job ∈ s.fab.draining → s.jobEmpty j = true → j.owner s.live = some c → (∀ i ∈ j.list, i < 2048) →
    ∃ t g, exec (.jobDrained x) s = .next t ∧ j.job ∉ t.fab.draining ∧ (∀ i ∈ j.list, t.armed i = false) ∧
      t.portHeld (s.portTo c) = s.portHeld (s.portTo c) ++ [g] ∧ g.type = 5 ∧ g.dst = c ∧
      g.payload = leBytes 2 j.job ++ leBytes 4 s.fab.epoch ++ leBytes 2 0 ∧ t.mem = s.mem ∧ t.log = s.log) ∧
  ∀ (s : State) (p : Fin 2) (f : LinkFrame) (j : JobCfg), s.accepts p f → f.dst.toNat = s.chipId →
    s.jobCfg (fieldAt f.payload 0 2) = some j → (∀ i ∈ j.list, i < 2048) →
    ((s.drainer j.job).isSome = true → fieldAt f.payload 2 4 = s.fab.epoch → s.quorumOf s.live = true →
      ∃ t, exec (.release p f) s = .next t ∧ Accepted t p f ∧ j.job ∈ t.fab.owned ∧ t.drainer j.job = none ∧ t.mem = s.mem ∧
      (∀ i ∈ j.list, s.reg R.RNG_RINGi_BASE i ≠ 0 → t.armed i = true ∧
        t.pi i = min (s.ringSize i) ((s.ring i).preload + ringDiff (s.pi i) (s.di i)) % 131072 ∧ t.di i = 0) ∧
      ∀ i < 2048, i ∉ j.list → t.armed i = s.armed i ∧ t.pi i = s.pi i ∧ t.di i = s.di i) ∧
    ((s.drainer j.job).isSome = true → fieldAt f.payload 2 4 = s.fab.epoch → s.quorumOf s.live = false →
      ∃ t, exec (.release p f) s = .next t ∧ Accepted t p f ∧ t.drainer j.job = some s.chipId ∧ t.fab.owned = s.fab.owned ∧
        t.regs = s.regs) ∧
    ((fieldAt f.payload 2 4 ≠ s.fab.epoch ∨ (s.drainer j.job).isSome = false) → ∃ t, exec (.release p f) s = .next t ∧ Accepted t p f ∧ t.fab = s.fab ∧ t.regs = s.regs)
end

