-- ==== Sys2Proof/Laws/State.lean ====
section
/-! SUPPORT. One lemma per field of the state and named update of it, by rfl: what an update leaves as it was, and what the plain
ones write. -/

namespace Sys2Proof.Machine

variable (s : State)

@[simp] theorem State.setReg_regs (r : RegDef) (i : Nat) (w : Word) : (s.setReg r i w).regs = tblPut (fun _ => r.resetAt i) s.regs (r.at i) w := (rfl)
@[simp] theorem State.setReg_mem (r : RegDef) (i : Nat) (w : Word) : (s.setReg r i w).mem = s.mem := (rfl)
@[simp] theorem State.setReg_span (r : RegDef) (i : Nat) (w : Word) : (s.setReg r i w).span = s.span := (rfl)
@[simp] theorem State.setReg_pwr (r : RegDef) (i : Nat) (w : Word) : (s.setReg r i w).pwr = s.pwr := (rfl)
@[simp] theorem State.setReg_sup (r : RegDef) (i : Nat) (w : Word) : (s.setReg r i w).sup = s.sup := (rfl)
@[simp] theorem State.setReg_yard (r : RegDef) (i : Nat) (w : Word) : (s.setReg r i w).yard = s.yard := (rfl)
@[simp] theorem State.setReg_log (r : RegDef) (i : Nat) (w : Word) : (s.setReg r i w).log = s.log := (rfl)
@[simp] theorem State.setReg_pen (r : RegDef) (i : Nat) (w : Word) : (s.setReg r i w).pen = s.pen := (rfl)
@[simp] theorem State.setReg_boot (r : RegDef) (i : Nat) (w : Word) : (s.setReg r i w).boot = s.boot := (rfl)
@[simp] theorem State.setReg_disp (r : RegDef) (i : Nat) (w : Word) : (s.setReg r i w).disp = s.disp := (rfl)
@[simp] theorem State.setReg_head (r : RegDef) (i : Nat) (w : Word) : (s.setReg r i w).head = s.head := (rfl)
@[simp] theorem State.setReg_cim (r : RegDef) (i : Nat) (w : Word) : (s.setReg r i w).cim = s.cim := (rfl)
@[simp] theorem State.setReg_fab (r : RegDef) (i : Nat) (w : Word) : (s.setReg r i w).fab = s.fab := (rfl)
@[simp] theorem State.setReg_host (r : RegDef) (i : Nat) (w : Word) : (s.setReg r i w).host = s.host := (rfl)
@[simp] theorem State.setReg_link (r : RegDef) (i : Nat) (w : Word) : (s.setReg r i w).link = s.link := (rfl)
@[simp] theorem State.setReg_jtag (r : RegDef) (i : Nat) (w : Word) : (s.setReg r i w).jtag = s.jtag := (rfl)
@[simp] theorem State.setReg_ear (r : RegDef) (i : Nat) (w : Word) : (s.setReg r i w).ear = s.ear := (rfl)
@[simp] theorem State.setReg_barn (r : RegDef) (i : Nat) (w : Word) : (s.setReg r i w).barn = s.barn := (rfl)
@[simp] theorem State.setReg_keys (r : RegDef) (i : Nat) (w : Word) : (s.setReg r i w).keys = s.keys := (rfl)
@[simp] theorem State.setReg_gate (r : RegDef) (i : Nat) (w : Word) : (s.setReg r i w).gate = s.gate := (rfl)
@[simp] theorem State.setReg_cal (r : RegDef) (i : Nat) (w : Word) : (s.setReg r i w).cal = s.cal := (rfl)
@[simp] theorem State.setReg_therm (r : RegDef) (i : Nat) (w : Word) : (s.setReg r i w).therm = s.therm := (rfl)
@[simp] theorem State.setReg_resp (r : RegDef) (i : Nat) (w : Word) : (s.setReg r i w).resp = s.resp := (rfl)
@[simp] theorem State.setReg_free (r : RegDef) (i : Nat) (w : Word) : (s.setReg r i w).free = s.free := (rfl)
@[simp] theorem State.setReg_pending (r : RegDef) (i : Nat) (w : Word) : (s.setReg r i w).pending = s.pending := (rfl)

@[simp] theorem State.setAt_mem (f : Fld) (i v : Nat) : (s.setAt f i v).mem = s.mem := (rfl)
@[simp] theorem State.setAt_span (f : Fld) (i v : Nat) : (s.setAt f i v).span = s.span := (rfl)
@[simp] theorem State.setAt_pwr (f : Fld) (i v : Nat) : (s.setAt f i v).pwr = s.pwr := (rfl)
@[simp] theorem State.setAt_sup (f : Fld) (i v : Nat) : (s.setAt f i v).sup = s.sup := (rfl)
@[simp] theorem State.setAt_yard (f : Fld) (i v : Nat) : (s.setAt f i v).yard = s.yard := (rfl)
@[simp] theorem State.setAt_log (f : Fld) (i v : Nat) : (s.setAt f i v).log = s.log := (rfl)
@[simp] theorem State.setAt_pen (f : Fld) (i v : Nat) : (s.setAt f i v).pen = s.pen := (rfl)
@[simp] theorem State.setAt_boot (f : Fld) (i v : Nat) : (s.setAt f i v).boot = s.boot := (rfl)
@[simp] theorem State.setAt_disp (f : Fld) (i v : Nat) : (s.setAt f i v).disp = s.disp := (rfl)
@[simp] theorem State.setAt_head (f : Fld) (i v : Nat) : (s.setAt f i v).head = s.head := (rfl)
@[simp] theorem State.setAt_cim (f : Fld) (i v : Nat) : (s.setAt f i v).cim = s.cim := (rfl)
@[simp] theorem State.setAt_fab (f : Fld) (i v : Nat) : (s.setAt f i v).fab = s.fab := (rfl)
@[simp] theorem State.setAt_host (f : Fld) (i v : Nat) : (s.setAt f i v).host = s.host := (rfl)
@[simp] theorem State.setAt_link (f : Fld) (i v : Nat) : (s.setAt f i v).link = s.link := (rfl)
@[simp] theorem State.setAt_jtag (f : Fld) (i v : Nat) : (s.setAt f i v).jtag = s.jtag := (rfl)
@[simp] theorem State.setAt_ear (f : Fld) (i v : Nat) : (s.setAt f i v).ear = s.ear := (rfl)
@[simp] theorem State.setAt_barn (f : Fld) (i v : Nat) : (s.setAt f i v).barn = s.barn := (rfl)
@[simp] theorem State.setAt_keys (f : Fld) (i v : Nat) : (s.setAt f i v).keys = s.keys := (rfl)
@[simp] theorem State.setAt_gate (f : Fld) (i v : Nat) : (s.setAt f i v).gate = s.gate := (rfl)
@[simp] theorem State.setAt_cal (f : Fld) (i v : Nat) : (s.setAt f i v).cal = s.cal := (rfl)
@[simp] theorem State.setAt_therm (f : Fld) (i v : Nat) : (s.setAt f i v).therm = s.therm := (rfl)
@[simp] theorem State.setAt_resp (f : Fld) (i v : Nat) : (s.setAt f i v).resp = s.resp := (rfl)
@[simp] theorem State.setAt_free (f : Fld) (i v : Nat) : (s.setAt f i v).free = s.free := (rfl)
@[simp] theorem State.setAt_pending (f : Fld) (i v : Nat) : (s.setAt f i v).pending = s.pending := (rfl)

@[simp] theorem State.set_mem (f : Fld) (v : Nat) : (s.set f v).mem = s.mem := (rfl)
@[simp] theorem State.set_span (f : Fld) (v : Nat) : (s.set f v).span = s.span := (rfl)
@[simp] theorem State.set_pwr (f : Fld) (v : Nat) : (s.set f v).pwr = s.pwr := (rfl)
@[simp] theorem State.set_sup (f : Fld) (v : Nat) : (s.set f v).sup = s.sup := (rfl)
@[simp] theorem State.set_yard (f : Fld) (v : Nat) : (s.set f v).yard = s.yard := (rfl)
@[simp] theorem State.set_log (f : Fld) (v : Nat) : (s.set f v).log = s.log := (rfl)
@[simp] theorem State.set_pen (f : Fld) (v : Nat) : (s.set f v).pen = s.pen := (rfl)
@[simp] theorem State.set_boot (f : Fld) (v : Nat) : (s.set f v).boot = s.boot := (rfl)
@[simp] theorem State.set_disp (f : Fld) (v : Nat) : (s.set f v).disp = s.disp := (rfl)
@[simp] theorem State.set_head (f : Fld) (v : Nat) : (s.set f v).head = s.head := (rfl)
@[simp] theorem State.set_cim (f : Fld) (v : Nat) : (s.set f v).cim = s.cim := (rfl)
@[simp] theorem State.set_fab (f : Fld) (v : Nat) : (s.set f v).fab = s.fab := (rfl)
@[simp] theorem State.set_host (f : Fld) (v : Nat) : (s.set f v).host = s.host := (rfl)
@[simp] theorem State.set_link (f : Fld) (v : Nat) : (s.set f v).link = s.link := (rfl)
@[simp] theorem State.set_jtag (f : Fld) (v : Nat) : (s.set f v).jtag = s.jtag := (rfl)
@[simp] theorem State.set_ear (f : Fld) (v : Nat) : (s.set f v).ear = s.ear := (rfl)
@[simp] theorem State.set_barn (f : Fld) (v : Nat) : (s.set f v).barn = s.barn := (rfl)
@[simp] theorem State.set_keys (f : Fld) (v : Nat) : (s.set f v).keys = s.keys := (rfl)
@[simp] theorem State.set_gate (f : Fld) (v : Nat) : (s.set f v).gate = s.gate := (rfl)
@[simp] theorem State.set_cal (f : Fld) (v : Nat) : (s.set f v).cal = s.cal := (rfl)
@[simp] theorem State.set_therm (f : Fld) (v : Nat) : (s.set f v).therm = s.therm := (rfl)
@[simp] theorem State.set_resp (f : Fld) (v : Nat) : (s.set f v).resp = s.resp := (rfl)
@[simp] theorem State.set_free (f : Fld) (v : Nat) : (s.set f v).free = s.free := (rfl)
@[simp] theorem State.set_pending (f : Fld) (v : Nat) : (s.set f v).pending = s.pending := (rfl)

@[simp] theorem State.addAt_mem (f : Fld) (i n : Nat) : (s.addAt f i n).mem = s.mem := (rfl)
@[simp] theorem State.addAt_span (f : Fld) (i n : Nat) : (s.addAt f i n).span = s.span := (rfl)
@[simp] theorem State.addAt_pwr (f : Fld) (i n : Nat) : (s.addAt f i n).pwr = s.pwr := (rfl)
@[simp] theorem State.addAt_sup (f : Fld) (i n : Nat) : (s.addAt f i n).sup = s.sup := (rfl)
@[simp] theorem State.addAt_yard (f : Fld) (i n : Nat) : (s.addAt f i n).yard = s.yard := (rfl)
@[simp] theorem State.addAt_log (f : Fld) (i n : Nat) : (s.addAt f i n).log = s.log := (rfl)
@[simp] theorem State.addAt_pen (f : Fld) (i n : Nat) : (s.addAt f i n).pen = s.pen := (rfl)
@[simp] theorem State.addAt_boot (f : Fld) (i n : Nat) : (s.addAt f i n).boot = s.boot := (rfl)
@[simp] theorem State.addAt_disp (f : Fld) (i n : Nat) : (s.addAt f i n).disp = s.disp := (rfl)
@[simp] theorem State.addAt_head (f : Fld) (i n : Nat) : (s.addAt f i n).head = s.head := (rfl)
@[simp] theorem State.addAt_cim (f : Fld) (i n : Nat) : (s.addAt f i n).cim = s.cim := (rfl)
@[simp] theorem State.addAt_fab (f : Fld) (i n : Nat) : (s.addAt f i n).fab = s.fab := (rfl)
@[simp] theorem State.addAt_host (f : Fld) (i n : Nat) : (s.addAt f i n).host = s.host := (rfl)
@[simp] theorem State.addAt_link (f : Fld) (i n : Nat) : (s.addAt f i n).link = s.link := (rfl)
@[simp] theorem State.addAt_jtag (f : Fld) (i n : Nat) : (s.addAt f i n).jtag = s.jtag := (rfl)
@[simp] theorem State.addAt_ear (f : Fld) (i n : Nat) : (s.addAt f i n).ear = s.ear := (rfl)
@[simp] theorem State.addAt_barn (f : Fld) (i n : Nat) : (s.addAt f i n).barn = s.barn := (rfl)
@[simp] theorem State.addAt_keys (f : Fld) (i n : Nat) : (s.addAt f i n).keys = s.keys := (rfl)
@[simp] theorem State.addAt_gate (f : Fld) (i n : Nat) : (s.addAt f i n).gate = s.gate := (rfl)
@[simp] theorem State.addAt_cal (f : Fld) (i n : Nat) : (s.addAt f i n).cal = s.cal := (rfl)
@[simp] theorem State.addAt_therm (f : Fld) (i n : Nat) : (s.addAt f i n).therm = s.therm := (rfl)
@[simp] theorem State.addAt_resp (f : Fld) (i n : Nat) : (s.addAt f i n).resp = s.resp := (rfl)
@[simp] theorem State.addAt_free (f : Fld) (i n : Nat) : (s.addAt f i n).free = s.free := (rfl)
@[simp] theorem State.addAt_pending (f : Fld) (i n : Nat) : (s.addAt f i n).pending = s.pending := (rfl)

@[simp] theorem State.inc_mem (f : Fld) : (s.inc f).mem = s.mem := (rfl)
@[simp] theorem State.inc_span (f : Fld) : (s.inc f).span = s.span := (rfl)
@[simp] theorem State.inc_pwr (f : Fld) : (s.inc f).pwr = s.pwr := (rfl)
@[simp] theorem State.inc_sup (f : Fld) : (s.inc f).sup = s.sup := (rfl)
@[simp] theorem State.inc_yard (f : Fld) : (s.inc f).yard = s.yard := (rfl)
@[simp] theorem State.inc_log (f : Fld) : (s.inc f).log = s.log := (rfl)
@[simp] theorem State.inc_pen (f : Fld) : (s.inc f).pen = s.pen := (rfl)
@[simp] theorem State.inc_boot (f : Fld) : (s.inc f).boot = s.boot := (rfl)
@[simp] theorem State.inc_disp (f : Fld) : (s.inc f).disp = s.disp := (rfl)
@[simp] theorem State.inc_head (f : Fld) : (s.inc f).head = s.head := (rfl)
@[simp] theorem State.inc_cim (f : Fld) : (s.inc f).cim = s.cim := (rfl)
@[simp] theorem State.inc_fab (f : Fld) : (s.inc f).fab = s.fab := (rfl)
@[simp] theorem State.inc_host (f : Fld) : (s.inc f).host = s.host := (rfl)
@[simp] theorem State.inc_link (f : Fld) : (s.inc f).link = s.link := (rfl)
@[simp] theorem State.inc_jtag (f : Fld) : (s.inc f).jtag = s.jtag := (rfl)
@[simp] theorem State.inc_ear (f : Fld) : (s.inc f).ear = s.ear := (rfl)
@[simp] theorem State.inc_barn (f : Fld) : (s.inc f).barn = s.barn := (rfl)
@[simp] theorem State.inc_keys (f : Fld) : (s.inc f).keys = s.keys := (rfl)
@[simp] theorem State.inc_gate (f : Fld) : (s.inc f).gate = s.gate := (rfl)
@[simp] theorem State.inc_cal (f : Fld) : (s.inc f).cal = s.cal := (rfl)
@[simp] theorem State.inc_therm (f : Fld) : (s.inc f).therm = s.therm := (rfl)
@[simp] theorem State.inc_resp (f : Fld) : (s.inc f).resp = s.resp := (rfl)
@[simp] theorem State.inc_free (f : Fld) : (s.inc f).free = s.free := (rfl)
@[simp] theorem State.inc_pending (f : Fld) : (s.inc f).pending = s.pending := (rfl)

@[simp] theorem State.incAt_mem (f : Fld) (i : Nat) : (s.incAt f i).mem = s.mem := (rfl)
@[simp] theorem State.incAt_span (f : Fld) (i : Nat) : (s.incAt f i).span = s.span := (rfl)
@[simp] theorem State.incAt_pwr (f : Fld) (i : Nat) : (s.incAt f i).pwr = s.pwr := (rfl)
@[simp] theorem State.incAt_sup (f : Fld) (i : Nat) : (s.incAt f i).sup = s.sup := (rfl)
@[simp] theorem State.incAt_yard (f : Fld) (i : Nat) : (s.incAt f i).yard = s.yard := (rfl)
@[simp] theorem State.incAt_log (f : Fld) (i : Nat) : (s.incAt f i).log = s.log := (rfl)
@[simp] theorem State.incAt_pen (f : Fld) (i : Nat) : (s.incAt f i).pen = s.pen := (rfl)
@[simp] theorem State.incAt_boot (f : Fld) (i : Nat) : (s.incAt f i).boot = s.boot := (rfl)
@[simp] theorem State.incAt_disp (f : Fld) (i : Nat) : (s.incAt f i).disp = s.disp := (rfl)
@[simp] theorem State.incAt_head (f : Fld) (i : Nat) : (s.incAt f i).head = s.head := (rfl)
@[simp] theorem State.incAt_cim (f : Fld) (i : Nat) : (s.incAt f i).cim = s.cim := (rfl)
@[simp] theorem State.incAt_fab (f : Fld) (i : Nat) : (s.incAt f i).fab = s.fab := (rfl)
@[simp] theorem State.incAt_host (f : Fld) (i : Nat) : (s.incAt f i).host = s.host := (rfl)
@[simp] theorem State.incAt_link (f : Fld) (i : Nat) : (s.incAt f i).link = s.link := (rfl)
@[simp] theorem State.incAt_jtag (f : Fld) (i : Nat) : (s.incAt f i).jtag = s.jtag := (rfl)
@[simp] theorem State.incAt_ear (f : Fld) (i : Nat) : (s.incAt f i).ear = s.ear := (rfl)
@[simp] theorem State.incAt_barn (f : Fld) (i : Nat) : (s.incAt f i).barn = s.barn := (rfl)
@[simp] theorem State.incAt_keys (f : Fld) (i : Nat) : (s.incAt f i).keys = s.keys := (rfl)
@[simp] theorem State.incAt_gate (f : Fld) (i : Nat) : (s.incAt f i).gate = s.gate := (rfl)
@[simp] theorem State.incAt_cal (f : Fld) (i : Nat) : (s.incAt f i).cal = s.cal := (rfl)
@[simp] theorem State.incAt_therm (f : Fld) (i : Nat) : (s.incAt f i).therm = s.therm := (rfl)
@[simp] theorem State.incAt_resp (f : Fld) (i : Nat) : (s.incAt f i).resp = s.resp := (rfl)
@[simp] theorem State.incAt_free (f : Fld) (i : Nat) : (s.incAt f i).free = s.free := (rfl)
@[simp] theorem State.incAt_pending (f : Fld) (i : Nat) : (s.incAt f i).pending = s.pending := (rfl)

@[simp] theorem State.setMaskBit_mem (r : RegDef) (n : Nat) (b : Bool) : (s.setMaskBit r n b).mem = s.mem := (rfl)
@[simp] theorem State.setMaskBit_span (r : RegDef) (n : Nat) (b : Bool) : (s.setMaskBit r n b).span = s.span := (rfl)
@[simp] theorem State.setMaskBit_pwr (r : RegDef) (n : Nat) (b : Bool) : (s.setMaskBit r n b).pwr = s.pwr := (rfl)
@[simp] theorem State.setMaskBit_sup (r : RegDef) (n : Nat) (b : Bool) : (s.setMaskBit r n b).sup = s.sup := (rfl)
@[simp] theorem State.setMaskBit_yard (r : RegDef) (n : Nat) (b : Bool) : (s.setMaskBit r n b).yard = s.yard := (rfl)
@[simp] theorem State.setMaskBit_log (r : RegDef) (n : Nat) (b : Bool) : (s.setMaskBit r n b).log = s.log := (rfl)
@[simp] theorem State.setMaskBit_pen (r : RegDef) (n : Nat) (b : Bool) : (s.setMaskBit r n b).pen = s.pen := (rfl)
@[simp] theorem State.setMaskBit_boot (r : RegDef) (n : Nat) (b : Bool) : (s.setMaskBit r n b).boot = s.boot := (rfl)
@[simp] theorem State.setMaskBit_disp (r : RegDef) (n : Nat) (b : Bool) : (s.setMaskBit r n b).disp = s.disp := (rfl)
@[simp] theorem State.setMaskBit_head (r : RegDef) (n : Nat) (b : Bool) : (s.setMaskBit r n b).head = s.head := (rfl)
@[simp] theorem State.setMaskBit_cim (r : RegDef) (n : Nat) (b : Bool) : (s.setMaskBit r n b).cim = s.cim := (rfl)
@[simp] theorem State.setMaskBit_fab (r : RegDef) (n : Nat) (b : Bool) : (s.setMaskBit r n b).fab = s.fab := (rfl)
@[simp] theorem State.setMaskBit_host (r : RegDef) (n : Nat) (b : Bool) : (s.setMaskBit r n b).host = s.host := (rfl)
@[simp] theorem State.setMaskBit_link (r : RegDef) (n : Nat) (b : Bool) : (s.setMaskBit r n b).link = s.link := (rfl)
@[simp] theorem State.setMaskBit_jtag (r : RegDef) (n : Nat) (b : Bool) : (s.setMaskBit r n b).jtag = s.jtag := (rfl)
@[simp] theorem State.setMaskBit_ear (r : RegDef) (n : Nat) (b : Bool) : (s.setMaskBit r n b).ear = s.ear := (rfl)
@[simp] theorem State.setMaskBit_barn (r : RegDef) (n : Nat) (b : Bool) : (s.setMaskBit r n b).barn = s.barn := (rfl)
@[simp] theorem State.setMaskBit_keys (r : RegDef) (n : Nat) (b : Bool) : (s.setMaskBit r n b).keys = s.keys := (rfl)
@[simp] theorem State.setMaskBit_gate (r : RegDef) (n : Nat) (b : Bool) : (s.setMaskBit r n b).gate = s.gate := (rfl)
@[simp] theorem State.setMaskBit_cal (r : RegDef) (n : Nat) (b : Bool) : (s.setMaskBit r n b).cal = s.cal := (rfl)
@[simp] theorem State.setMaskBit_therm (r : RegDef) (n : Nat) (b : Bool) : (s.setMaskBit r n b).therm = s.therm := (rfl)
@[simp] theorem State.setMaskBit_resp (r : RegDef) (n : Nat) (b : Bool) : (s.setMaskBit r n b).resp = s.resp := (rfl)
@[simp] theorem State.setMaskBit_free (r : RegDef) (n : Nat) (b : Bool) : (s.setMaskBit r n b).free = s.free := (rfl)
@[simp] theorem State.setMaskBit_pending (r : RegDef) (n : Nat) (b : Bool) : (s.setMaskBit r n b).pending = s.pending := (rfl)

@[simp] theorem State.draw_regs : (s.draw).regs = s.regs := (rfl)
@[simp] theorem State.draw_mem : (s.draw).mem = s.mem := (rfl)
@[simp] theorem State.draw_span : (s.draw).span = s.span := (rfl)
@[simp] theorem State.draw_pwr : (s.draw).pwr = s.pwr := (rfl)
@[simp] theorem State.draw_sup : (s.draw).sup = s.sup := (rfl)
@[simp] theorem State.draw_yard : (s.draw).yard = s.yard := (rfl)
@[simp] theorem State.draw_log : (s.draw).log = s.log := (rfl)
@[simp] theorem State.draw_pen : (s.draw).pen = s.pen := (rfl)
@[simp] theorem State.draw_boot : (s.draw).boot = s.boot := (rfl)
@[simp] theorem State.draw_disp : (s.draw).disp = s.disp := (rfl)
@[simp] theorem State.draw_head : (s.draw).head = s.head := (rfl)
@[simp] theorem State.draw_cim : (s.draw).cim = s.cim := (rfl)
@[simp] theorem State.draw_fab : (s.draw).fab = s.fab := (rfl)
@[simp] theorem State.draw_host : (s.draw).host = s.host := (rfl)
@[simp] theorem State.draw_link : (s.draw).link = s.link := (rfl)
@[simp] theorem State.draw_jtag : (s.draw).jtag = s.jtag := (rfl)
@[simp] theorem State.draw_ear : (s.draw).ear = s.ear := (rfl)
@[simp] theorem State.draw_barn : (s.draw).barn = s.barn := (rfl)
@[simp] theorem State.draw_keys : (s.draw).keys = s.keys := (rfl)
@[simp] theorem State.draw_gate : (s.draw).gate = s.gate := (rfl)
@[simp] theorem State.draw_cal : (s.draw).cal = s.cal := (rfl)
@[simp] theorem State.draw_therm : (s.draw).therm = s.therm := (rfl)
@[simp] theorem State.draw_resp : (s.draw).resp = s.resp := (rfl)
@[simp] theorem State.draw_free : (s.draw).free = s.free + 1 := (rfl)
@[simp] theorem State.draw_pending : (s.draw).pending = s.pending := (rfl)

@[simp] theorem State.answer_regs (bs : List Byte) : (s.answer bs).regs = s.regs := (rfl)
@[simp] theorem State.answer_mem (bs : List Byte) : (s.answer bs).mem = s.mem := (rfl)
@[simp] theorem State.answer_span (bs : List Byte) : (s.answer bs).span = s.span := (rfl)
@[simp] theorem State.answer_pwr (bs : List Byte) : (s.answer bs).pwr = s.pwr := (rfl)
@[simp] theorem State.answer_sup (bs : List Byte) : (s.answer bs).sup = s.sup := (rfl)
@[simp] theorem State.answer_yard (bs : List Byte) : (s.answer bs).yard = s.yard := (rfl)
@[simp] theorem State.answer_log (bs : List Byte) : (s.answer bs).log = s.log := (rfl)
@[simp] theorem State.answer_pen (bs : List Byte) : (s.answer bs).pen = s.pen := (rfl)
@[simp] theorem State.answer_boot (bs : List Byte) : (s.answer bs).boot = s.boot := (rfl)
@[simp] theorem State.answer_disp (bs : List Byte) : (s.answer bs).disp = s.disp := (rfl)
@[simp] theorem State.answer_head (bs : List Byte) : (s.answer bs).head = s.head := (rfl)
@[simp] theorem State.answer_cim (bs : List Byte) : (s.answer bs).cim = s.cim := (rfl)
@[simp] theorem State.answer_fab (bs : List Byte) : (s.answer bs).fab = s.fab := (rfl)
@[simp] theorem State.answer_host (bs : List Byte) : (s.answer bs).host = s.host := (rfl)
@[simp] theorem State.answer_link (bs : List Byte) : (s.answer bs).link = s.link := (rfl)
@[simp] theorem State.answer_jtag (bs : List Byte) : (s.answer bs).jtag = s.jtag := (rfl)
@[simp] theorem State.answer_ear (bs : List Byte) : (s.answer bs).ear = s.ear := (rfl)
@[simp] theorem State.answer_barn (bs : List Byte) : (s.answer bs).barn = s.barn := (rfl)
@[simp] theorem State.answer_keys (bs : List Byte) : (s.answer bs).keys = s.keys := (rfl)
@[simp] theorem State.answer_gate (bs : List Byte) : (s.answer bs).gate = s.gate := (rfl)
@[simp] theorem State.answer_cal (bs : List Byte) : (s.answer bs).cal = s.cal := (rfl)
@[simp] theorem State.answer_therm (bs : List Byte) : (s.answer bs).therm = s.therm := (rfl)
@[simp] theorem State.answer_resp (bs : List Byte) : (s.answer bs).resp = bs := (rfl)
@[simp] theorem State.answer_free (bs : List Byte) : (s.answer bs).free = s.free := (rfl)
@[simp] theorem State.answer_pending (bs : List Byte) : (s.answer bs).pending = s.pending := (rfl)

@[simp] theorem State.yardWrite_regs (off : Nat) (bs : List Byte) (t : Nat) : (s.yardWrite off bs t).regs = s.regs := (rfl)
@[simp] theorem State.yardWrite_mem (off : Nat) (bs : List Byte) (t : Nat) : (s.yardWrite off bs t).mem = s.mem.write .yard off bs t := (rfl)
@[simp] theorem State.yardWrite_span (off : Nat) (bs : List Byte) (t : Nat) : (s.yardWrite off bs t).span = s.span := (rfl)
@[simp] theorem State.yardWrite_pwr (off : Nat) (bs : List Byte) (t : Nat) : (s.yardWrite off bs t).pwr = s.pwr := (rfl)
@[simp] theorem State.yardWrite_sup (off : Nat) (bs : List Byte) (t : Nat) : (s.yardWrite off bs t).sup = s.sup := (rfl)
@[simp] theorem State.yardWrite_yard (off : Nat) (bs : List Byte) (t : Nat) : (s.yardWrite off bs t).yard = s.yard := (rfl)
@[simp] theorem State.yardWrite_log (off : Nat) (bs : List Byte) (t : Nat) : (s.yardWrite off bs t).log = s.log := (rfl)
@[simp] theorem State.yardWrite_pen (off : Nat) (bs : List Byte) (t : Nat) : (s.yardWrite off bs t).pen = s.pen := (rfl)
@[simp] theorem State.yardWrite_boot (off : Nat) (bs : List Byte) (t : Nat) : (s.yardWrite off bs t).boot = s.boot := (rfl)
@[simp] theorem State.yardWrite_disp (off : Nat) (bs : List Byte) (t : Nat) : (s.yardWrite off bs t).disp = s.disp := (rfl)
@[simp] theorem State.yardWrite_head (off : Nat) (bs : List Byte) (t : Nat) : (s.yardWrite off bs t).head = s.head := (rfl)
@[simp] theorem State.yardWrite_cim (off : Nat) (bs : List Byte) (t : Nat) : (s.yardWrite off bs t).cim = s.cim := (rfl)
@[simp] theorem State.yardWrite_fab (off : Nat) (bs : List Byte) (t : Nat) : (s.yardWrite off bs t).fab = s.fab := (rfl)
@[simp] theorem State.yardWrite_host (off : Nat) (bs : List Byte) (t : Nat) : (s.yardWrite off bs t).host = s.host := (rfl)
@[simp] theorem State.yardWrite_link (off : Nat) (bs : List Byte) (t : Nat) : (s.yardWrite off bs t).link = s.link := (rfl)
@[simp] theorem State.yardWrite_jtag (off : Nat) (bs : List Byte) (t : Nat) : (s.yardWrite off bs t).jtag = s.jtag := (rfl)
@[simp] theorem State.yardWrite_ear (off : Nat) (bs : List Byte) (t : Nat) : (s.yardWrite off bs t).ear = s.ear := (rfl)
@[simp] theorem State.yardWrite_barn (off : Nat) (bs : List Byte) (t : Nat) : (s.yardWrite off bs t).barn = s.barn := (rfl)
@[simp] theorem State.yardWrite_keys (off : Nat) (bs : List Byte) (t : Nat) : (s.yardWrite off bs t).keys = s.keys := (rfl)
@[simp] theorem State.yardWrite_gate (off : Nat) (bs : List Byte) (t : Nat) : (s.yardWrite off bs t).gate = s.gate := (rfl)
@[simp] theorem State.yardWrite_cal (off : Nat) (bs : List Byte) (t : Nat) : (s.yardWrite off bs t).cal = s.cal := (rfl)
@[simp] theorem State.yardWrite_therm (off : Nat) (bs : List Byte) (t : Nat) : (s.yardWrite off bs t).therm = s.therm := (rfl)
@[simp] theorem State.yardWrite_resp (off : Nat) (bs : List Byte) (t : Nat) : (s.yardWrite off bs t).resp = s.resp := (rfl)
@[simp] theorem State.yardWrite_free (off : Nat) (bs : List Byte) (t : Nat) : (s.yardWrite off bs t).free = s.free := (rfl)
@[simp] theorem State.yardWrite_pending (off : Nat) (bs : List Byte) (t : Nat) : (s.yardWrite off bs t).pending = s.pending := (rfl)

@[simp] theorem State.zeroYard_regs : (s.zeroYard).regs = s.regs := (rfl)
@[simp] theorem State.zeroYard_span : (s.zeroYard).span = s.span := (rfl)
@[simp] theorem State.zeroYard_pwr : (s.zeroYard).pwr = s.pwr := (rfl)
@[simp] theorem State.zeroYard_sup : (s.zeroYard).sup = s.sup := (rfl)
@[simp] theorem State.zeroYard_yard : (s.zeroYard).yard = s.yard := (rfl)
@[simp] theorem State.zeroYard_log : (s.zeroYard).log = s.log := (rfl)
@[simp] theorem State.zeroYard_pen : (s.zeroYard).pen = s.pen := (rfl)
@[simp] theorem State.zeroYard_boot : (s.zeroYard).boot = s.boot := (rfl)
@[simp] theorem State.zeroYard_disp : (s.zeroYard).disp = s.disp := (rfl)
@[simp] theorem State.zeroYard_head : (s.zeroYard).head = s.head := (rfl)
@[simp] theorem State.zeroYard_cim : (s.zeroYard).cim = s.cim := (rfl)
@[simp] theorem State.zeroYard_fab : (s.zeroYard).fab = s.fab := (rfl)
@[simp] theorem State.zeroYard_host : (s.zeroYard).host = s.host := (rfl)
@[simp] theorem State.zeroYard_link : (s.zeroYard).link = s.link := (rfl)
@[simp] theorem State.zeroYard_jtag : (s.zeroYard).jtag = s.jtag := (rfl)
@[simp] theorem State.zeroYard_ear : (s.zeroYard).ear = s.ear := (rfl)
@[simp] theorem State.zeroYard_barn : (s.zeroYard).barn = s.barn := (rfl)
@[simp] theorem State.zeroYard_keys : (s.zeroYard).keys = s.keys := (rfl)
@[simp] theorem State.zeroYard_gate : (s.zeroYard).gate = s.gate := (rfl)
@[simp] theorem State.zeroYard_cal : (s.zeroYard).cal = s.cal := (rfl)
@[simp] theorem State.zeroYard_therm : (s.zeroYard).therm = s.therm := (rfl)
@[simp] theorem State.zeroYard_resp : (s.zeroYard).resp = s.resp := (rfl)
@[simp] theorem State.zeroYard_free : (s.zeroYard).free = s.free := (rfl)
@[simp] theorem State.zeroYard_pending : (s.zeroYard).pending = s.pending := (rfl)

@[simp] theorem State.setFlight_regs (d : Nat) (lvl : Option Nat) : (s.setFlight d lvl).regs = s.regs := (rfl)
@[simp] theorem State.setFlight_mem (d : Nat) (lvl : Option Nat) : (s.setFlight d lvl).mem = s.mem := (rfl)
@[simp] theorem State.setFlight_span (d : Nat) (lvl : Option Nat) : (s.setFlight d lvl).span = s.span := (rfl)
@[simp] theorem State.setFlight_sup (d : Nat) (lvl : Option Nat) : (s.setFlight d lvl).sup = s.sup := (rfl)
@[simp] theorem State.setFlight_yard (d : Nat) (lvl : Option Nat) : (s.setFlight d lvl).yard = s.yard := (rfl)
@[simp] theorem State.setFlight_log (d : Nat) (lvl : Option Nat) : (s.setFlight d lvl).log = s.log := (rfl)
@[simp] theorem State.setFlight_pen (d : Nat) (lvl : Option Nat) : (s.setFlight d lvl).pen = s.pen := (rfl)
@[simp] theorem State.setFlight_boot (d : Nat) (lvl : Option Nat) : (s.setFlight d lvl).boot = s.boot := (rfl)
@[simp] theorem State.setFlight_disp (d : Nat) (lvl : Option Nat) : (s.setFlight d lvl).disp = s.disp := (rfl)
@[simp] theorem State.setFlight_head (d : Nat) (lvl : Option Nat) : (s.setFlight d lvl).head = s.head := (rfl)
@[simp] theorem State.setFlight_cim (d : Nat) (lvl : Option Nat) : (s.setFlight d lvl).cim = s.cim := (rfl)
@[simp] theorem State.setFlight_fab (d : Nat) (lvl : Option Nat) : (s.setFlight d lvl).fab = s.fab := (rfl)
@[simp] theorem State.setFlight_host (d : Nat) (lvl : Option Nat) : (s.setFlight d lvl).host = s.host := (rfl)
@[simp] theorem State.setFlight_link (d : Nat) (lvl : Option Nat) : (s.setFlight d lvl).link = s.link := (rfl)
@[simp] theorem State.setFlight_jtag (d : Nat) (lvl : Option Nat) : (s.setFlight d lvl).jtag = s.jtag := (rfl)
@[simp] theorem State.setFlight_ear (d : Nat) (lvl : Option Nat) : (s.setFlight d lvl).ear = s.ear := (rfl)
@[simp] theorem State.setFlight_barn (d : Nat) (lvl : Option Nat) : (s.setFlight d lvl).barn = s.barn := (rfl)
@[simp] theorem State.setFlight_keys (d : Nat) (lvl : Option Nat) : (s.setFlight d lvl).keys = s.keys := (rfl)
@[simp] theorem State.setFlight_gate (d : Nat) (lvl : Option Nat) : (s.setFlight d lvl).gate = s.gate := (rfl)
@[simp] theorem State.setFlight_cal (d : Nat) (lvl : Option Nat) : (s.setFlight d lvl).cal = s.cal := (rfl)
@[simp] theorem State.setFlight_therm (d : Nat) (lvl : Option Nat) : (s.setFlight d lvl).therm = s.therm := (rfl)
@[simp] theorem State.setFlight_resp (d : Nat) (lvl : Option Nat) : (s.setFlight d lvl).resp = s.resp := (rfl)
@[simp] theorem State.setFlight_free (d : Nat) (lvl : Option Nat) : (s.setFlight d lvl).free = s.free := (rfl)
@[simp] theorem State.setFlight_pending (d : Nat) (lvl : Option Nat) : (s.setFlight d lvl).pending = s.pending := (rfl)

@[simp] theorem State.setPend_regs (d : Nat) (lvl : Option Nat) : (s.setPend d lvl).regs = s.regs := (rfl)
@[simp] theorem State.setPend_mem (d : Nat) (lvl : Option Nat) : (s.setPend d lvl).mem = s.mem := (rfl)
@[simp] theorem State.setPend_span (d : Nat) (lvl : Option Nat) : (s.setPend d lvl).span = s.span := (rfl)
@[simp] theorem State.setPend_sup (d : Nat) (lvl : Option Nat) : (s.setPend d lvl).sup = s.sup := (rfl)
@[simp] theorem State.setPend_yard (d : Nat) (lvl : Option Nat) : (s.setPend d lvl).yard = s.yard := (rfl)
@[simp] theorem State.setPend_log (d : Nat) (lvl : Option Nat) : (s.setPend d lvl).log = s.log := (rfl)
@[simp] theorem State.setPend_pen (d : Nat) (lvl : Option Nat) : (s.setPend d lvl).pen = s.pen := (rfl)
@[simp] theorem State.setPend_boot (d : Nat) (lvl : Option Nat) : (s.setPend d lvl).boot = s.boot := (rfl)
@[simp] theorem State.setPend_disp (d : Nat) (lvl : Option Nat) : (s.setPend d lvl).disp = s.disp := (rfl)
@[simp] theorem State.setPend_head (d : Nat) (lvl : Option Nat) : (s.setPend d lvl).head = s.head := (rfl)
@[simp] theorem State.setPend_cim (d : Nat) (lvl : Option Nat) : (s.setPend d lvl).cim = s.cim := (rfl)
@[simp] theorem State.setPend_fab (d : Nat) (lvl : Option Nat) : (s.setPend d lvl).fab = s.fab := (rfl)
@[simp] theorem State.setPend_host (d : Nat) (lvl : Option Nat) : (s.setPend d lvl).host = s.host := (rfl)
@[simp] theorem State.setPend_link (d : Nat) (lvl : Option Nat) : (s.setPend d lvl).link = s.link := (rfl)
@[simp] theorem State.setPend_jtag (d : Nat) (lvl : Option Nat) : (s.setPend d lvl).jtag = s.jtag := (rfl)
@[simp] theorem State.setPend_ear (d : Nat) (lvl : Option Nat) : (s.setPend d lvl).ear = s.ear := (rfl)
@[simp] theorem State.setPend_barn (d : Nat) (lvl : Option Nat) : (s.setPend d lvl).barn = s.barn := (rfl)
@[simp] theorem State.setPend_keys (d : Nat) (lvl : Option Nat) : (s.setPend d lvl).keys = s.keys := (rfl)
@[simp] theorem State.setPend_gate (d : Nat) (lvl : Option Nat) : (s.setPend d lvl).gate = s.gate := (rfl)
@[simp] theorem State.setPend_cal (d : Nat) (lvl : Option Nat) : (s.setPend d lvl).cal = s.cal := (rfl)
@[simp] theorem State.setPend_therm (d : Nat) (lvl : Option Nat) : (s.setPend d lvl).therm = s.therm := (rfl)
@[simp] theorem State.setPend_resp (d : Nat) (lvl : Option Nat) : (s.setPend d lvl).resp = s.resp := (rfl)
@[simp] theorem State.setPend_free (d : Nat) (lvl : Option Nat) : (s.setPend d lvl).free = s.free := (rfl)
@[simp] theorem State.setPend_pending (d : Nat) (lvl : Option Nat) : (s.setPend d lvl).pending = s.pending := (rfl)

@[simp] theorem State.depVotes_regs : (s.depVotes).regs = s.regs := by unfold State.depVotes; rfl
@[simp] theorem State.depVotes_mem : (s.depVotes).mem = s.mem := by unfold State.depVotes; rfl
@[simp] theorem State.depVotes_span : (s.depVotes).span = s.span := by unfold State.depVotes; rfl
@[simp] theorem State.depVotes_sup : (s.depVotes).sup = s.sup := by unfold State.depVotes; rfl
@[simp] theorem State.depVotes_yard : (s.depVotes).yard = s.yard := by unfold State.depVotes; rfl
@[simp] theorem State.depVotes_log : (s.depVotes).log = s.log := by unfold State.depVotes; rfl
@[simp] theorem State.depVotes_pen : (s.depVotes).pen = s.pen := by unfold State.depVotes; rfl
@[simp] theorem State.depVotes_boot : (s.depVotes).boot = s.boot := by unfold State.depVotes; rfl
@[simp] theorem State.depVotes_disp : (s.depVotes).disp = s.disp := by unfold State.depVotes; rfl
@[simp] theorem State.depVotes_head : (s.depVotes).head = s.head := by unfold State.depVotes; rfl
@[simp] theorem State.depVotes_cim : (s.depVotes).cim = s.cim := by unfold State.depVotes; rfl
@[simp] theorem State.depVotes_fab : (s.depVotes).fab = s.fab := by unfold State.depVotes; rfl
@[simp] theorem State.depVotes_host : (s.depVotes).host = s.host := by unfold State.depVotes; rfl
@[simp] theorem State.depVotes_link : (s.depVotes).link = s.link := by unfold State.depVotes; rfl
@[simp] theorem State.depVotes_jtag : (s.depVotes).jtag = s.jtag := by unfold State.depVotes; rfl
@[simp] theorem State.depVotes_ear : (s.depVotes).ear = s.ear := by unfold State.depVotes; rfl
@[simp] theorem State.depVotes_barn : (s.depVotes).barn = s.barn := by unfold State.depVotes; rfl
@[simp] theorem State.depVotes_keys : (s.depVotes).keys = s.keys := by unfold State.depVotes; rfl
@[simp] theorem State.depVotes_gate : (s.depVotes).gate = s.gate := by unfold State.depVotes; rfl
@[simp] theorem State.depVotes_cal : (s.depVotes).cal = s.cal := by unfold State.depVotes; rfl
@[simp] theorem State.depVotes_therm : (s.depVotes).therm = s.therm := by unfold State.depVotes; rfl
@[simp] theorem State.depVotes_resp : (s.depVotes).resp = s.resp := by unfold State.depVotes; rfl
@[simp] theorem State.depVotes_free : (s.depVotes).free = s.free := by unfold State.depVotes; rfl
@[simp] theorem State.depVotes_pending : (s.depVotes).pending = s.pending := by unfold State.depVotes; rfl

@[simp] theorem State.calReject_regs (e : CalElem) : (s.calReject e).regs = s.regs := (rfl)
@[simp] theorem State.calReject_mem (e : CalElem) : (s.calReject e).mem = s.mem := (rfl)
@[simp] theorem State.calReject_span (e : CalElem) : (s.calReject e).span = s.span := (rfl)
@[simp] theorem State.calReject_pwr (e : CalElem) : (s.calReject e).pwr = s.pwr := (rfl)
@[simp] theorem State.calReject_sup (e : CalElem) : (s.calReject e).sup = s.sup := (rfl)
@[simp] theorem State.calReject_yard (e : CalElem) : (s.calReject e).yard = s.yard := (rfl)
@[simp] theorem State.calReject_log (e : CalElem) : (s.calReject e).log = s.log := (rfl)
@[simp] theorem State.calReject_pen (e : CalElem) : (s.calReject e).pen = s.pen := (rfl)
@[simp] theorem State.calReject_boot (e : CalElem) : (s.calReject e).boot = s.boot := (rfl)
@[simp] theorem State.calReject_disp (e : CalElem) : (s.calReject e).disp = s.disp := (rfl)
@[simp] theorem State.calReject_head (e : CalElem) : (s.calReject e).head = s.head := (rfl)
@[simp] theorem State.calReject_cim (e : CalElem) : (s.calReject e).cim = s.cim := (rfl)
@[simp] theorem State.calReject_fab (e : CalElem) : (s.calReject e).fab = s.fab := (rfl)
@[simp] theorem State.calReject_host (e : CalElem) : (s.calReject e).host = s.host := (rfl)
@[simp] theorem State.calReject_link (e : CalElem) : (s.calReject e).link = s.link := (rfl)
@[simp] theorem State.calReject_jtag (e : CalElem) : (s.calReject e).jtag = s.jtag := (rfl)
@[simp] theorem State.calReject_ear (e : CalElem) : (s.calReject e).ear = s.ear := (rfl)
@[simp] theorem State.calReject_barn (e : CalElem) : (s.calReject e).barn = s.barn := (rfl)
@[simp] theorem State.calReject_keys (e : CalElem) : (s.calReject e).keys = s.keys := (rfl)
@[simp] theorem State.calReject_gate (e : CalElem) : (s.calReject e).gate = s.gate := (rfl)
@[simp] theorem State.calReject_therm (e : CalElem) : (s.calReject e).therm = s.therm := (rfl)
@[simp] theorem State.calReject_resp (e : CalElem) : (s.calReject e).resp = s.resp := (rfl)
@[simp] theorem State.calReject_free (e : CalElem) : (s.calReject e).free = s.free := (rfl)
@[simp] theorem State.calReject_pending (e : CalElem) : (s.calReject e).pending = s.pending := (rfl)

@[simp] theorem State.calPass_regs (e : CalElem) : (s.calPass e).regs = s.regs := (rfl)
@[simp] theorem State.calPass_mem (e : CalElem) : (s.calPass e).mem = s.mem := (rfl)
@[simp] theorem State.calPass_span (e : CalElem) : (s.calPass e).span = s.span := (rfl)
@[simp] theorem State.calPass_pwr (e : CalElem) : (s.calPass e).pwr = s.pwr := (rfl)
@[simp] theorem State.calPass_sup (e : CalElem) : (s.calPass e).sup = s.sup := (rfl)
@[simp] theorem State.calPass_yard (e : CalElem) : (s.calPass e).yard = s.yard := (rfl)
@[simp] theorem State.calPass_log (e : CalElem) : (s.calPass e).log = s.log := (rfl)
@[simp] theorem State.calPass_pen (e : CalElem) : (s.calPass e).pen = s.pen := (rfl)
@[simp] theorem State.calPass_boot (e : CalElem) : (s.calPass e).boot = s.boot := (rfl)
@[simp] theorem State.calPass_disp (e : CalElem) : (s.calPass e).disp = s.disp := (rfl)
@[simp] theorem State.calPass_head (e : CalElem) : (s.calPass e).head = s.head := (rfl)
@[simp] theorem State.calPass_cim (e : CalElem) : (s.calPass e).cim = s.cim := (rfl)
@[simp] theorem State.calPass_fab (e : CalElem) : (s.calPass e).fab = s.fab := (rfl)
@[simp] theorem State.calPass_host (e : CalElem) : (s.calPass e).host = s.host := (rfl)
@[simp] theorem State.calPass_link (e : CalElem) : (s.calPass e).link = s.link := (rfl)
@[simp] theorem State.calPass_jtag (e : CalElem) : (s.calPass e).jtag = s.jtag := (rfl)
@[simp] theorem State.calPass_ear (e : CalElem) : (s.calPass e).ear = s.ear := (rfl)
@[simp] theorem State.calPass_barn (e : CalElem) : (s.calPass e).barn = s.barn := (rfl)
@[simp] theorem State.calPass_keys (e : CalElem) : (s.calPass e).keys = s.keys := (rfl)
@[simp] theorem State.calPass_gate (e : CalElem) : (s.calPass e).gate = s.gate := (rfl)
@[simp] theorem State.calPass_therm (e : CalElem) : (s.calPass e).therm = s.therm := (rfl)
@[simp] theorem State.calPass_resp (e : CalElem) : (s.calPass e).resp = s.resp := (rfl)
@[simp] theorem State.calPass_free (e : CalElem) : (s.calPass e).free = s.free := (rfl)
@[simp] theorem State.calPass_pending (e : CalElem) : (s.calPass e).pending = s.pending := (rfl)

@[simp] theorem State.calAbandon_regs (e : CalElem) : (s.calAbandon e).regs = s.regs := (rfl)
@[simp] theorem State.calAbandon_mem (e : CalElem) : (s.calAbandon e).mem = s.mem := (rfl)
@[simp] theorem State.calAbandon_span (e : CalElem) : (s.calAbandon e).span = s.span := (rfl)
@[simp] theorem State.calAbandon_pwr (e : CalElem) : (s.calAbandon e).pwr = s.pwr := (rfl)
@[simp] theorem State.calAbandon_sup (e : CalElem) : (s.calAbandon e).sup = s.sup := (rfl)
@[simp] theorem State.calAbandon_yard (e : CalElem) : (s.calAbandon e).yard = s.yard := (rfl)
@[simp] theorem State.calAbandon_log (e : CalElem) : (s.calAbandon e).log = s.log := (rfl)
@[simp] theorem State.calAbandon_pen (e : CalElem) : (s.calAbandon e).pen = s.pen := (rfl)
@[simp] theorem State.calAbandon_boot (e : CalElem) : (s.calAbandon e).boot = s.boot := (rfl)
@[simp] theorem State.calAbandon_disp (e : CalElem) : (s.calAbandon e).disp = s.disp := (rfl)
@[simp] theorem State.calAbandon_head (e : CalElem) : (s.calAbandon e).head = s.head := (rfl)
@[simp] theorem State.calAbandon_cim (e : CalElem) : (s.calAbandon e).cim = s.cim := (rfl)
@[simp] theorem State.calAbandon_fab (e : CalElem) : (s.calAbandon e).fab = s.fab := (rfl)
@[simp] theorem State.calAbandon_host (e : CalElem) : (s.calAbandon e).host = s.host := (rfl)
@[simp] theorem State.calAbandon_link (e : CalElem) : (s.calAbandon e).link = s.link := (rfl)
@[simp] theorem State.calAbandon_jtag (e : CalElem) : (s.calAbandon e).jtag = s.jtag := (rfl)
@[simp] theorem State.calAbandon_ear (e : CalElem) : (s.calAbandon e).ear = s.ear := (rfl)
@[simp] theorem State.calAbandon_barn (e : CalElem) : (s.calAbandon e).barn = s.barn := (rfl)
@[simp] theorem State.calAbandon_keys (e : CalElem) : (s.calAbandon e).keys = s.keys := (rfl)
@[simp] theorem State.calAbandon_gate (e : CalElem) : (s.calAbandon e).gate = s.gate := (rfl)
@[simp] theorem State.calAbandon_therm (e : CalElem) : (s.calAbandon e).therm = s.therm := (rfl)
@[simp] theorem State.calAbandon_resp (e : CalElem) : (s.calAbandon e).resp = s.resp := (rfl)
@[simp] theorem State.calAbandon_free (e : CalElem) : (s.calAbandon e).free = s.free := (rfl)
@[simp] theorem State.calAbandon_pending (e : CalElem) : (s.calAbandon e).pending = s.pending := (rfl)

end Sys2Proof.Machine
end

