-- ==== Sys2Proof/Laws/Table.lean ====
section
/-! SUPPORT. What the operations of the sparse tables do: reading after writing, and that the canonical form stays. -/

namespace Sys2Proof.Machine

variable {α : Type}

theorem tblGet_nil (d : Nat → α) (k : Nat) : tblGet d [] k = d k := rfl

theorem tblGet_cons (d : Nat → α) (p : Nat × α) (t : List (Nat × α)) (k : Nat) :
    tblGet d (p :: t) k = if p.1 = k then p.2 else tblGet d t k := by
  by_cases h : p.1 = k
  · simp [tblGet, List.find?, h]
  · have : (p.1 == k) = false := by simpa using h
    simp [tblGet, List.find?, h, this]

/-- A list read from behind another: the first of the two that lists the key. -/
theorem tblGet_append (d : Nat → α) (t u : List (Nat × α)) (k : Nat) :
    tblGet d (t ++ u) k = if k ∈ t.map (·.1) then tblGet d t k else tblGet d u k := by
  induction t with
  | nil => simp
  | cons p t ih =>
    rw [List.cons_append, tblGet_cons, tblGet_cons, ih]
    by_cases h : p.1 = k
    · simp [h]
    · have : (k ∈ (p :: t).map (·.1)) ↔ k ∈ t.map (·.1) := by
        simp only [List.map_cons, List.mem_cons]; constructor
        · rintro (rfl | h')
          · exact absurd rfl h
          · exact h'
        · exact Or.inr
      simp only [this, if_neg h]

/-- A filter on keys keeps what it lets through. -/
theorem tblGet_filter (d : Nat → α) (q : Nat → Bool) (t : List (Nat × α)) (k : Nat) :
    tblGet d (t.filter fun p => q p.1) k = if q k then tblGet d t k else d k := by
  induction t with
  | nil => simp [tblGet_nil]
  | cons p t ih =>
    rw [List.filter_cons]
    by_cases h : q p.1
    · rw [if_pos h, tblGet_cons, tblGet_cons, ih]
      by_cases e : p.1 = k
      · subst e; simp [h]
      · simp [e]
    · rw [if_neg h, ih, tblGet_cons]
      by_cases e : p.1 = k
      · subst e; simp [h]
      · simp [e]

theorem tblCells_keys [DecidableEq α] (d : Nat → α) (k : Nat) (vs : List α) :
    ∀ p ∈ tblCells d k vs, k ≤ p.1 ∧ p.1 < k + vs.length ∧ p.2 ≠ d p.1 := by
  induction vs generalizing k with
  | nil => simp [tblCells]
  | cons v vs ih =>
    intro p hp
    simp only [tblCells] at hp
    split at hp
    · obtain ⟨h1, h2, h3⟩ := ih (k + 1) p hp
      exact ⟨by omega, by simp; omega, h3⟩
    · rename_i hv
      rcases List.mem_cons.1 hp with rfl | hp
      · exact ⟨Nat.le_refl _, by simp, hv⟩
      · obtain ⟨h1, h2, h3⟩ := ih (k + 1) p hp
        exact ⟨by omega, by simp; omega, h3⟩

theorem tblCells_sorted [DecidableEq α] (d : Nat → α) (k : Nat) (vs : List α) :
    (tblCells d k vs).Pairwise (fun p q => p.1 < q.1) := by
  induction vs generalizing k with
  | nil => simp [tblCells]
  | cons v vs ih =>
    simp only [tblCells]
    split
    · exact ih _
    · refine List.pairwise_cons.2 ⟨fun p hp => ?_, ih _⟩
      have := (tblCells_keys d (k + 1) vs p hp).1
      omega

theorem tblGet_cells [DecidableEq α] (d : Nat → α) (k : Nat) (vs : List α) (j : Nat) :
    tblGet d (tblCells d k vs) j = if k ≤ j ∧ j < k + vs.length then vs.getD (j - k) (d j) else d j := by
  induction vs generalizing k with
  | nil => simp [tblCells, tblGet_nil]
  | cons v vs ih =>
    by_cases hj : j = k
    · subst hj
      simp only [tblCells]
      split
      · rename_i hv; rw [ih, if_neg (by omega), if_pos (by simp)]; simp [hv]
      · rw [tblGet_cons]; simp
    · have step : tblGet d (tblCells d k (v :: vs)) j = tblGet d (tblCells d (k + 1) vs) j := by
        simp only [tblCells]
        split
        · rfl
        · rw [tblGet_cons, if_neg (fun h => hj h.symm)]
      rw [step, ih]
      by_cases h : k ≤ j ∧ j < k + (v :: vs).length
      · have h' : k + 1 ≤ j ∧ j < k + 1 + vs.length := by simp at h; omega
        rw [if_pos h, if_pos h']
        obtain ⟨n, rfl⟩ : ∃ n, j = k + 1 + n := ⟨j - (k + 1), by omega⟩
        have e : k + 1 + n - k = n + 1 := by omega
        have e' : k + 1 + n - (k + 1) = n := by omega
        rw [e, e']
        simp
      · have h' : ¬ (k + 1 ≤ j ∧ j < k + 1 + vs.length) := by simp at h; omega
        rw [if_neg h, if_neg h']

/-- Reading after a range was stored: the stored values in the range, what stood there outside it. -/
theorem tblGet_putRange [DecidableEq α] (d : Nat → α) (t : List (Nat × α)) (k : Nat) (vs : List α) (j : Nat) :
    tblGet d (tblPutRange d t k vs) j =
      if k ≤ j ∧ j < k + vs.length then vs.getD (j - k) (d j) else tblGet d t j := by
  unfold tblPutRange
  have f1 := tblGet_filter d (fun x => decide (x < k)) t j
  have f2 := tblGet_filter d (fun x => decide (k + vs.length ≤ x)) t j
  rw [List.append_assoc, tblGet_append, tblGet_append]
  by_cases h : k ≤ j ∧ j < k + vs.length
  · have n1 : j ∉ (t.filter fun p => decide (p.1 < k)).map (·.1) := by
      simp only [List.mem_map, List.mem_filter, decide_eq_true_eq]; rintro ⟨p, ⟨_, hp⟩, rfl⟩; omega
    rw [if_neg n1, if_pos h]
    have g := tblGet_cells d k vs j
    rw [if_pos h] at g
    split
    · exact g
    · rename_i n2
      have e1 : tblGet d (tblCells d k vs) j = d j := by
        unfold tblGet
        have : (tblCells d k vs).find? (fun p => p.1 == j) = none := by
          rw [List.find?_eq_none]; intro p hp he
          exact n2 (List.mem_map.2 ⟨p, hp, by simpa using he⟩)
        rw [this]
      rw [f2, ← g, e1]; simp; omega
  · rw [if_neg h]
    have n2 : j ∉ (tblCells d k vs).map (·.1) := by
      simp only [List.mem_map]; rintro ⟨p, hp, rfl⟩
      have := tblCells_keys d k vs p hp; omega
    rw [if_neg n2, f1, f2]
    split
    · rename_i m
      have : j < k := by
        simp only [List.mem_map, List.mem_filter, decide_eq_true_eq] at m
        obtain ⟨p, ⟨_, hp⟩, rfl⟩ := m; exact hp
      simp [this]
    · rename_i m
      by_cases hk : j < k
      · have e1 : tblGet d (t.filter fun p => decide (p.1 < k)) j = d j := by
          unfold tblGet
          have : (t.filter fun p => decide (p.1 < k)).find? (fun p => p.1 == j) = none := by
            rw [List.find?_eq_none]; intro p hp he
            exact m (List.mem_map.2 ⟨p, hp, by simpa using he⟩)
          rw [this]
        rw [f1] at e1
        have hn : ¬ k + vs.length ≤ j := by omega
        simp [hk] at e1
        simp [hn, e1]
      · have : k + vs.length ≤ j := by omega
        simp [this]

theorem tblGet_put [DecidableEq α] (d : Nat → α) (t : List (Nat × α)) (k : Nat) (v : α) (j : Nat) :
    tblGet d (tblPut d t k v) j = if j = k then v else tblGet d t j := by
  rw [tblPut, tblGet_putRange]
  by_cases h : j = k
  · subst h; simp
  · rw [if_neg h, if_neg]; simp; omega

@[simp] theorem tblGet_put_same [DecidableEq α] (d : Nat → α) (t : List (Nat × α)) (k : Nat) (v : α) :
    tblGet d (tblPut d t k v) k = v := by rw [tblGet_put, if_pos rfl]

theorem tblGet_put_ne [DecidableEq α] (d : Nat → α) (t : List (Nat × α)) (k : Nat) (v : α) (j : Nat) (h : j ≠ k) :
    tblGet d (tblPut d t k v) j = tblGet d t j := by rw [tblGet_put, if_neg h]

theorem elGet_put [DecidableEq α] (x : α) (t : List (Nat × α)) (k : Nat) (v : α) (j : Nat) :
    elGet x (elPut x t k v) j = if j = k then v else elGet x t j := tblGet_put _ t k v j

@[simp] theorem elGet_put_same [DecidableEq α] (x : α) (t : List (Nat × α)) (k : Nat) (v : α) :
    elGet x (elPut x t k v) k = v := by rw [elGet_put, if_pos rfl]

theorem elGet_put_ne [DecidableEq α] (x : α) (t : List (Nat × α)) (k : Nat) (v : α) (j : Nat) (h : j ≠ k) :
    elGet x (elPut x t k v) j = elGet x t j := by rw [elGet_put, if_neg h]

/-- Reading after keys were dropped. -/
theorem tblGet_drop (d : Nat → α) (t : List (Nat × α)) (k n j : Nat) :
    tblGet d (tblDrop t k n) j = if k ≤ j ∧ j < k + n then d j else tblGet d t j := by
  have f := tblGet_filter d (fun x => decide (x < k) || decide (k + n ≤ x)) t j
  unfold tblDrop
  rw [f]
  by_cases h : k ≤ j ∧ j < k + n
  · rw [if_pos h]; simp; omega
  · rw [if_neg h, if_pos]; simp; omega

/-- A key that was not stored to reads the same, under any default of its own. -/
theorem tblGet_congr_default [DecidableEq α] (d e : Nat → α) (t : List (Nat × α)) (k j : Nat) (v : α) (h : j ≠ k) :
    tblGet e (tblPut d t k v) j = tblGet e t j := by
  have a : ∀ u : List (Nat × α), tblGet e u j = if j ∈ u.map (·.1) then tblGet e u j else e j := by
    intro u
    split
    · rfl
    · rename_i m
      unfold tblGet
      have : u.find? (fun p => p.1 == j) = none := by
        rw [List.find?_eq_none]; intro p hp he
        exact m (List.mem_map.2 ⟨p, hp, by simpa using he⟩)
      rw [this]
  have hc : j ∉ (tblCells d k [v]).map (·.1) := by
    simp only [List.mem_map]; rintro ⟨p, hp, rfl⟩
    have := tblCells_keys d k [v] p hp; simp at this; omega
  unfold tblPut tblPutRange
  have f1 := tblGet_filter e (fun x => decide (x < k)) t j
  have f2 := tblGet_filter e (fun x => decide (k + [v].length ≤ x)) t j
  rw [List.append_assoc, tblGet_append, tblGet_append, if_neg hc, f2]
  rw [a (t.filter fun p => decide (p.1 < k))] at f1
  split
  · rename_i m
    have hk : j < k := by
      simp only [List.mem_map, List.mem_filter, decide_eq_true_eq] at m
      obtain ⟨p, ⟨_, hp⟩, rfl⟩ := m; exact hp
    rw [if_pos m] at f1; rw [f1]; simp [hk]
  · rename_i m
    rw [if_neg m] at f1
    by_cases hk : j < k
    · have : ¬ k + 1 ≤ j := by omega
      simp [hk] at f1; simp [this, f1]
    · have : k + 1 ≤ j := by omega
      simp [this]

/-! The canonical form -/

theorem tblWf_nil (d : Nat → α) : TblWf d [] := ⟨List.Pairwise.nil, by simp⟩

/-- Any part of a canonical table is canonical. -/
theorem tblWf_filter (d : Nat → α) (q : Nat × α → Bool) (t : List (Nat × α)) (h : TblWf d t) : TblWf d (t.filter q) :=
  ⟨h.1.filter q, fun p hp => h.2 p ((List.mem_filter.1 hp).1)⟩

theorem tblWf_drop (d : Nat → α) (t : List (Nat × α)) (k n : Nat) (h : TblWf d t) : TblWf d (tblDrop t k n) :=
  tblWf_filter d _ t h

/-- A store keeps the canonical form. -/
theorem tblWf_putRange [DecidableEq α] (d : Nat → α) (t : List (Nat × α)) (k : Nat) (vs : List α) (h : TblWf d t) :
    TblWf d (tblPutRange d t k vs) := by
  unfold tblPutRange
  refine ⟨?_, ?_⟩
  · rw [List.append_assoc, List.pairwise_append, List.pairwise_append]
    refine ⟨h.1.filter _, ⟨tblCells_sorted d k vs, h.1.filter _, ?_⟩, ?_⟩
    · intro p hp q hq
      have := tblCells_keys d k vs p hp
      simp only [List.mem_filter, decide_eq_true_eq] at hq
      omega
    · intro p hp q hq
      simp only [List.mem_filter, decide_eq_true_eq] at hp
      rcases List.mem_append.1 hq with hq | hq
      · have := tblCells_keys d k vs q hq; omega
      · simp only [List.mem_filter, decide_eq_true_eq] at hq; omega
  · intro p hp
    rcases List.mem_append.1 hp with hp | hp
    · rcases List.mem_append.1 hp with hp | hp
      · exact h.2 p ((List.mem_filter.1 hp).1)
      · exact (tblCells_keys d k vs p hp).2.2
    · exact h.2 p ((List.mem_filter.1 hp).1)

theorem tblWf_put [DecidableEq α] (d : Nat → α) (t : List (Nat × α)) (k : Nat) (v : α) (h : TblWf d t) :
    TblWf d (tblPut d t k v) := tblWf_putRange d t k [v] h

/-- A canonical table stays canonical under another default where every listed key's default is the same. -/
theorem tblWf_congr (d e : Nat → α) (t : List (Nat × α)) (h : TblWf d t) (he : ∀ p ∈ t, e p.1 = d p.1) : TblWf e t :=
  ⟨h.1, fun p hp => by rw [he p hp]; exact h.2 p hp⟩

/-! Reading a range -/

theorem tblWalk_length (d : Nat → α) (n : Nat) (t : List (Nat × α)) (k : Nat) : (tblWalk d n t k).length = n := by
  induction n generalizing t k with
  | zero => simp [tblWalk]
  | succ n ih => cases t with
    | nil => simp [tblWalk, ih]
    | cons p t => simp only [tblWalk]; split <;> simp [ih]

@[simp] theorem tblGetRange_length (d : Nat → α) (t : List (Nat × α)) (k n : Nat) : (tblGetRange d t k n).length = n :=
  tblWalk_length ..

theorem tblWalk_get (d : Nat → α) (n : Nat) (t : List (Nat × α)) (k : Nat)
    (hs : t.Pairwise (fun p q => p.1 < q.1)) (hk : ∀ p ∈ t, k ≤ p.1) :
    tblWalk d n t k = (List.range n).map fun i => tblGet d t (k + i) := by
  induction n generalizing t k with
  | zero => simp [tblWalk]
  | succ n ih =>
    rw [List.range_succ_eq_map, List.map_cons, List.map_map]
    cases t with
    | nil =>
      simp only [tblWalk]
      rw [ih [] (k + 1) List.Pairwise.nil (by simp)]
      simp only [tblGet_nil, Nat.add_zero, List.cons.injEq, true_and]
      apply List.map_congr_left; intro i _
      simp only [Function.comp_apply]; congr 1; omega
    | cons p t =>
      have hp := List.pairwise_cons.1 hs
      simp only [tblWalk]
      split
      · rename_i e
        rw [ih t (k + 1) hp.2 (fun q hq => by have := hp.1 q hq; omega)]
        rw [tblGet_cons, if_pos (by omega)]
        congr 1
        apply List.map_congr_left; intro i _
        simp only [Function.comp_apply]
        rw [tblGet_cons, if_neg (by omega)]
        congr 1; omega
      · rename_i e
        have hle := hk p (List.mem_cons_self)
        rw [ih (p :: t) (k + 1) hs (fun q hq => by
          rcases List.mem_cons.1 hq with rfl | hq
          · omega
          · have := hp.1 q hq; omega)]
        congr 1
        · rw [tblGet_cons, if_neg (by omega)]
          unfold tblGet
          have : t.find? (fun q => q.1 == k + 0) = none := by
            rw [List.find?_eq_none]; intro q hq he
            have := hp.1 q hq
            simp at he; omega
          rw [this]; simp
        · apply List.map_congr_left; intro i _
          simp only [Function.comp_apply]; congr 1; omega

/-- A range of a canonical table, key by key. -/
theorem tblGetRange_eq (d : Nat → α) (t : List (Nat × α)) (k n : Nat) (h : TblWf d t) :
    tblGetRange d t k n = (List.range n).map fun i => tblGet d t (k + i) := by
  unfold tblGetRange
  rw [tblWalk_get d n _ k (h.1.filter _) (by
    intro p hp; simp only [List.mem_filter, Bool.and_eq_true, decide_eq_true_eq] at hp; exact hp.2.1)]
  apply List.map_congr_left; intro i hi
  have f := tblGet_filter d (fun x => decide (k ≤ x) && decide (x < k + n)) t (k + i)
  rw [f, if_pos]
  have := List.mem_range.1 hi
  simp; omega

end Sys2Proof.Machine
end

