-- ==== Sys2Proof/Laws/Fields.lean ====
section
/-! SUPPORT. Registers and their fields: what a field of a word reads after the same or another field was put, and what a register
or field of the state reads after a hardware update. -/

namespace Sys2Proof.Machine

/-! Fields of a word -/

/-- A field lies in its word. -/
abbrev Fld.Fits (f : Fld) : Prop := f.lo + f.width ≤ 32

/-- Two fields of a register share no bit. -/
abbrev Fld.Apart (f g : Fld) : Prop := f.lo + f.width ≤ g.lo ∨ g.lo + g.width ≤ f.lo

theorem Fld.mask_bit (f : Fld) (h : f.Fits) (k : Nat) :
    f.mask.getLsbD k = decide (f.lo ≤ k ∧ k < f.lo + f.width) := by
  unfold Fld.mask
  rw [BitVec.getLsbD_ofNat]
  rw [Nat.testBit_mul_two_pow, Nat.testBit_two_pow_sub_one]
  by_cases h1 : f.lo ≤ k <;> by_cases h2 : k < f.lo + f.width <;> simp [h1, h2] <;> omega

theorem bitsOf_testBit (v lo w k : Nat) : (bitsOf v lo w).testBit k = (decide (k < w) && v.testBit (lo + k)) := by
  unfold bitsOf
  rw [Nat.testBit_mod_two_pow, Nat.testBit_div_two_pow, Nat.add_comm k lo]

theorem Fld.put_bit (f : Fld) (h : f.Fits) (w : Word) (v k : Nat) :
    (f.put w v).getLsbD k =
      if f.lo ≤ k ∧ k < f.lo + f.width then v.testBit (k - f.lo) else w.getLsbD k := by
  unfold Fld.put
  simp only [BitVec.getLsbD_or, BitVec.getLsbD_and, BitVec.getLsbD_not, f.mask_bit h, BitVec.getLsbD_ofNat,
    Nat.testBit_mul_two_pow]
  by_cases h1 : f.lo ≤ k <;> by_cases h2 : k < f.lo + f.width
  · simp [h1, h2]; omega
  · simp [h1, h2]; by_cases h3 : k < 32
    · simp [h3]
    · simp [h3, BitVec.getLsbD_of_ge w k (by omega)]
  · simp [h1]; by_cases h3 : k < 32
    · simp [h3]
    · simp [h3, BitVec.getLsbD_of_ge w k (by omega)]
  · simp [h1]; by_cases h3 : k < 32
    · simp [h3]
    · simp [h3, BitVec.getLsbD_of_ge w k (by omega)]

/-- A field reads the low bits of what was put into it. -/
theorem Fld.of_put (f : Fld) (h : f.Fits) (w : Word) (v : Nat) : f.of (f.put w v) = v % 2 ^ f.width := by
  apply Nat.eq_of_testBit_eq; intro k
  unfold Fld.of
  rw [bitsOf_testBit, Nat.testBit_mod_two_pow]
  by_cases hk : k < f.width
  · have e : (f.put w v).toNat.testBit (f.lo + k) = (f.put w v).getLsbD (f.lo + k) := rfl
    rw [e, f.put_bit h, if_pos (by omega)]
    simp [hk]
  · simp [hk]

/-- A field that shares no bit with the one put reads what it read. -/
theorem Fld.of_put_apart (f g : Fld) (h : f.Fits) (a : f.Apart g) (w : Word) (v : Nat) : g.of (f.put w v) = g.of w := by
  apply Nat.eq_of_testBit_eq; intro k
  unfold Fld.of
  rw [bitsOf_testBit, bitsOf_testBit]
  by_cases hk : k < g.width
  · have e : (f.put w v).toNat.testBit (g.lo + k) = (f.put w v).getLsbD (g.lo + k) := rfl
    have e' : w.toNat.testBit (g.lo + k) = w.getLsbD (g.lo + k) := rfl
    rw [e, e', f.put_bit h, if_neg (by unfold Fld.Apart at a; omega)]
  · simp [hk]

theorem Fld.of_lt (f : Fld) (w : Word) : f.of w < 2 ^ f.width := Nat.mod_lt _ (Nat.two_pow_pos _)

/-! Registers of the state -/

variable (s : State)

/-- A register word after it was set. -/
theorem State.reg_setReg_same (r : RegDef) (i : Nat) (w : Word) : (s.setReg r i w).reg r i = w := by
  simp [State.reg]

/-- A register word after another address was set. -/
theorem State.reg_setReg_ne (r q : RegDef) (i j : Nat) (w : Word) (h : q.at j ≠ r.at i) :
    (s.setReg r i w).reg q j = s.reg q j := by
  simp only [State.reg, State.setReg_regs]
  exact tblGet_congr_default _ _ _ _ _ _ h

/-- A field after it was set: its low bits. -/
theorem State.getAt_setAt_same (f : Fld) (h : f.Fits) (i v : Nat) : (s.setAt f i v).getAt f i = v % 2 ^ f.width := by
  simp only [State.getAt, State.setAt, State.reg_setReg_same, f.of_put h]

/-- A field after another field of its word was set. -/
theorem State.getAt_setAt_apart (f g : Fld) (hr : g.reg = f.reg) (h : f.Fits) (a : f.Apart g) (i v : Nat) :
    (s.setAt f i v).getAt g i = s.getAt g i := by
  simp only [State.getAt, State.setAt, hr, State.reg_setReg_same, f.of_put_apart g h a]

/-- A field after a field of another word was set. -/
theorem State.getAt_setAt_ne (f g : Fld) (i j v : Nat) (h : g.reg.at j ≠ f.reg.at i) :
    (s.setAt f i v).getAt g j = s.getAt g j := by
  simp only [State.getAt, State.setAt, State.reg_setReg_ne s _ _ _ _ _ h]

theorem State.get_set_same (f : Fld) (h : f.Fits) (v : Nat) : (s.set f v).get f = v % 2 ^ f.width :=
  s.getAt_setAt_same f h 0 v

theorem State.get_set_apart (f g : Fld) (hr : g.reg = f.reg) (h : f.Fits) (a : f.Apart g) (v : Nat) :
    (s.set f v).get g = s.get g := s.getAt_setAt_apart f g hr h a 0 v

theorem State.get_set_ne (f g : Fld) (v : Nat) (h : g.reg.at 0 ≠ f.reg.at 0) : (s.set f v).get g = s.get g :=
  s.getAt_setAt_ne f g 0 0 v h

theorem State.getAt_set_ne (f g : Fld) (j v : Nat) (h : g.reg.at j ≠ f.reg.at 0) :
    (s.set f v).getAt g j = s.getAt g j := s.getAt_setAt_ne f g 0 j v h

theorem State.get_setAt_ne (f g : Fld) (i v : Nat) (h : g.reg.at 0 ≠ f.reg.at i) :
    (s.setAt f i v).get g = s.get g := s.getAt_setAt_ne f g i 0 v h

/-- A counter field after its count went up by one. -/
theorem State.get_inc_same (f : Fld) (h : f.Fits) : (s.inc f).get f = satAdd f.width (s.get f) 1 % 2 ^ f.width :=
  s.getAt_setAt_same f h 0 _

end Sys2Proof.Machine
end

