-- ==== Sys2Proof/Laws/Memory.lean ====
section
/-! SUPPORT. The memories: every operation keeps the canonical form (Memory.wf), reset's memory has it, and what a byte reads
after a store. -/

namespace Sys2Proof.Machine

theorem Memory.wf_iff (m : MemState) : Memory.wf m = true ↔
    TblWf (loftDefault m) m.loft ∧ TblWf zeroDefault m.yard ∧ TblWf (stallDefault m) m.stall ∧ TblWf zeroDefault m.pen ∧
    TblWf nvmDefault m.nvm ∧ TblWf (loftTaintDefault m) m.tLoft ∧ TblWf (fun _ => 0) m.tYard ∧
    TblWf (stallTaintDefault m) m.tStall := by
  unfold Memory.wf; simp only [Bool.and_eq_true, decide_eq_true_eq, and_assoc]

theorem Memory.reset_wf : Memory.wf State.reset.mem = true := by decide

theorem MemState.setPlot_wf (m : MemState) (w : Mem) (p t : Nat) (h : Memory.wf m = true) :
    Memory.wf (m.setPlot w p t) = true := by
  rw [Memory.wf_iff] at h ⊢
  obtain ⟨h1, h2, h3, h4, h5, h6, h7, h8⟩ := h
  cases w
  · exact ⟨h1, h2, h3, h4, h5, tblWf_put _ _ _ _ h6, h7, h8⟩
  · exact ⟨h1, h2, h3, h4, h5, h6, tblWf_put _ _ _ _ h7, h8⟩
  · exact ⟨h1, h2, h3, h4, h5, h6, h7, tblWf_put _ _ _ _ h8⟩

theorem MemState.store_wf (m : MemState) (w : Mem) (off : Nat) (bs : List Byte) (h : Memory.wf m = true) :
    Memory.wf (m.store w off bs) = true := by
  rw [Memory.wf_iff] at h ⊢
  obtain ⟨h1, h2, h3, h4, h5, h6, h7, h8⟩ := h
  cases w
  · exact ⟨tblWf_putRange _ _ _ _ h1, h2, h3, h4, h5, h6, h7, h8⟩
  · exact ⟨h1, tblWf_putRange _ _ _ _ h2, h3, h4, h5, h6, h7, h8⟩
  · exact ⟨h1, h2, tblWf_putRange _ _ _ _ h3, h4, h5, h6, h7, h8⟩

theorem MemState.taintPlot_wf (m : MemState) (w : Mem) (off n t p : Nat) (h : Memory.wf m = true) :
    Memory.wf (m.taintPlot w off n t p) = true := by
  unfold MemState.taintPlot; split <;> exact m.setPlot_wf _ _ _ h

theorem MemState.write_wf (m : MemState) (w : Mem) (off : Nat) (bs : List Byte) (t : Nat) (h : Memory.wf m = true) :
    Memory.wf (m.write w off bs t) = true := by
  unfold MemState.write
  have h' := m.store_wf w off bs h
  generalize m.store w off bs = m' at h'
  induction plotsOf off bs.length generalizing m' with
  | nil => exact h'
  | cons p l ih => exact ih _ (m'.taintPlot_wf _ _ _ _ _ h')

theorem MemState.nvmWrite_wf (m : MemState) (off : Nat) (bs : List Byte) (h : Memory.wf m = true) :
    Memory.wf (m.nvmWrite off bs) = true := by
  rw [Memory.wf_iff] at h ⊢
  obtain ⟨h1, h2, h3, h4, h5, h6, h7, h8⟩ := h
  exact ⟨h1, h2, h3, h4, tblWf_putRange _ _ _ _ h5, h6, h7, h8⟩

theorem MemState.penWrite_wf (m : MemState) (off : Nat) (bs : List Byte) (h : Memory.wf m = true) :
    Memory.wf (m.penWrite off bs) = true := by
  rw [Memory.wf_iff] at h ⊢
  obtain ⟨h1, h2, h3, h4, h5, h6, h7, h8⟩ := h
  exact ⟨h1, h2, h3, tblWf_putRange _ _ _ _ h4, h5, h6, h7, h8⟩

theorem MemState.penZero_wf (m : MemState) (off n : Nat) (h : Memory.wf m = true) : Memory.wf (m.penZero off n) = true := by
  rw [Memory.wf_iff] at h ⊢
  obtain ⟨h1, h2, h3, h4, h5, h6, h7, h8⟩ := h
  exact ⟨h1, h2, h3, tblWf_drop _ _ _ _ h4, h5, h6, h7, h8⟩

/-- Keys that a range of puts does not name read as before. -/
theorem elGet_puts_ne (l : List Nat) (t : Tab Nat) (f : Nat → Nat) (v j : Nat) (h : ∀ p ∈ l, f p ≠ j) :
    elGet 0 (l.foldl (fun t p => elPut 0 t (f p) v) t) j = elGet 0 t j := by
  induction l generalizing t with
  | nil => rfl
  | cons p l ih =>
    rw [List.foldl_cons, ih _ fun q hq => h q (List.mem_cons_of_mem _ hq)]
    exact elGet_put_ne _ _ _ _ _ (h p List.mem_cons_self).symm

/-- A row's loss dates the stalls of that row alone. -/
theorem MemState.loseRow_lost (m : MemState) (d e j : Nat) (hj : j ≠ d) (hp : j < 16 + 8 * d ∨ 24 + 8 * d ≤ j) :
    elGet 0 (m.loseRow d e).lost j = elGet 0 m.lost j := by
  simp only [MemState.loseRow]
  rw [elGet_puts_ne _ _ _ _ _ fun p h => by have := List.mem_range.mp h; omega]
  exact elGet_put_ne _ _ _ _ _ hj

theorem MemState.loseRow_loft (m : MemState) (d e k : Nat) (hd : d < 12) : (m.loseRow d e).lossLoft k = m.lossLoft k := by
  simp only [MemState.lossLoft]
  split
  · exact m.loseRow_lost _ _ _ (by omega) (by omega)
  · rfl

theorem MemState.loseRow_stall (m : MemState) (d e st : Nat) (h : st / 8 ≠ d) (hd : d < 12) :
    (m.loseRow d e).lossStall st = m.lossStall st := by
  have row : (m.loseRow d e).lossRow (st / 8) = m.lossRow (st / 8) := by
    simp only [MemState.lossRow]
    split
    · exact m.loseRow_lost _ _ _ h (by omega)
    · rfl
  simp only [MemState.lossStall, row]
  rw [m.loseRow_lost _ _ (16 + st) (by omega) (by omega)]

theorem MemState.loseStall_loft (m : MemState) (st e k : Nat) : (m.loseStall st e).lossLoft k = m.lossLoft k := by
  simp only [MemState.lossLoft, MemState.loseStall]
  split
  · exact elGet_put_ne _ _ _ _ _ (by omega)
  · rfl

theorem MemState.loseStall_stall (m : MemState) (st e k : Nat) (h : k ≠ st) : (m.loseStall st e).lossStall k = m.lossStall k := by
  have row : (m.loseStall st e).lossRow (k / 8) = m.lossRow (k / 8) := by
    simp only [MemState.lossRow, MemState.loseStall]
    split
    · exact elGet_put_ne _ _ _ _ _ (by omega)
    · rfl
  simp only [MemState.lossStall, row]
  rw [show elGet 0 (m.loseStall st e).lost (16 + k) = elGet 0 m.lost (16 + k) from elGet_put_ne _ _ _ _ _ (by omega)]

theorem MemState.loseLoft_loft (m : MemState) (d e k : Nat) (h : 12 + k ≠ d) : (m.loseLoft d e).lossLoft k = m.lossLoft k := by
  simp only [MemState.lossLoft, MemState.loseLoft]
  split
  · exact elGet_put_ne _ _ _ _ _ h
  · rfl

theorem MemState.loseLoft_stall (m : MemState) (d e k : Nat) (hd : 12 ≤ d) (h : d < 16) :
    (m.loseLoft d e).lossStall k = m.lossStall k := by
  have row : (m.loseLoft d e).lossRow (k / 8) = m.lossRow (k / 8) := by
    simp only [MemState.lossRow, MemState.loseLoft]
    split
    · exact elGet_put_ne _ _ _ _ _ (by omega)
    · rfl
  simp only [MemState.lossStall, row]
  rw [show elGet 0 (m.loseLoft d e).lost (16 + k) = elGet 0 m.lost (16 + k) from elGet_put_ne _ _ _ _ _ (by omega)]

/-- A row's loss, or its zero-fill, drops every cell that its new default could touch. -/
theorem MemState.loseRow_wf (m : MemState) (d e : Nat) (hd : d < 12) (h : Memory.wf m = true) :
    Memory.wf (m.loseRow d e) = true := by
  rw [Memory.wf_iff] at h ⊢
  obtain ⟨h1, h2, h3, h4, h5, h6, h7, h8⟩ := h
  refine ⟨tblWf_congr _ _ _ h1 ?_, h2, tblWf_congr (stallDefault m) _ _ (tblWf_drop _ _ _ _ h3) ?_, h4, h5,
    tblWf_congr _ _ _ h6 ?_, h7, tblWf_congr (stallTaintDefault m) _ _ (tblWf_drop _ _ _ _ h8) ?_⟩
  · intro p _; simp only [loftDefault, m.loseRow_loft _ _ _ hd]
  · intro p hp
    simp only [MemState.loseRow, tblDrop, List.mem_filter, Bool.or_eq_true, decide_eq_true_eq] at hp
    simp only [stallDefault]; rw [m.loseRow_stall _ _ _ (by omega) hd]
  · intro p _; simp only [loftTaintDefault, m.loseRow_loft _ _ _ hd]
  · intro p hp
    simp only [MemState.loseRow, tblDrop, List.mem_filter, Bool.or_eq_true, decide_eq_true_eq] at hp
    simp only [stallTaintDefault]; rw [m.loseRow_stall _ _ _ (by omega) hd]

/-- The loss of one stall's SRAM likewise. -/
theorem MemState.loseStall_wf (m : MemState) (st e : Nat) (h : Memory.wf m = true) : Memory.wf (m.loseStall st e) = true := by
  rw [Memory.wf_iff] at h ⊢
  obtain ⟨h1, h2, h3, h4, h5, h6, h7, h8⟩ := h
  refine ⟨tblWf_congr _ _ _ h1 ?_, h2, tblWf_congr (stallDefault m) _ _ (tblWf_drop _ _ _ _ h3) ?_, h4, h5,
    tblWf_congr _ _ _ h6 ?_, h7, tblWf_congr (stallTaintDefault m) _ _ (tblWf_drop _ _ _ _ h8) ?_⟩
  · intro p _; simp only [loftDefault, m.loseStall_loft]
  · intro p hp
    simp only [MemState.loseStall, tblDrop, List.mem_filter, Bool.or_eq_true, decide_eq_true_eq] at hp
    simp only [stallDefault]; rw [m.loseStall_stall _ _ _ (by omega)]
  · intro p _; simp only [loftTaintDefault, m.loseStall_loft]
  · intro p hp
    simp only [MemState.loseStall, tblDrop, List.mem_filter, Bool.or_eq_true, decide_eq_true_eq] at hp
    simp only [stallTaintDefault]; rw [m.loseStall_stall _ _ _ (by omega)]

/-- A LOFT domain's loss, or its zero-fill, likewise. -/
theorem MemState.loseLoft_wf (m : MemState) (d e : Nat) (hd : 12 ≤ d) (hu : d < 16) (h : Memory.wf m = true) :
    Memory.wf (m.loseLoft d e) = true := by
  rw [Memory.wf_iff] at h ⊢
  obtain ⟨h1, h2, h3, h4, h5, h6, h7, h8⟩ := h
  refine ⟨tblWf_congr (loftDefault m) _ _ (tblWf_drop _ _ _ _ h1) ?_, h2, tblWf_congr _ _ _ h3 ?_, h4, h5,
    tblWf_congr (loftTaintDefault m) _ _ (tblWf_drop _ _ _ _ h6) ?_, h7, tblWf_congr _ _ _ h8 ?_⟩
  · intro p hp
    simp only [MemState.loseLoft, tblDrop, List.mem_filter, Bool.or_eq_true, decide_eq_true_eq] at hp
    simp only [loftDefault]; rw [m.loseLoft_loft _ _ _ (by omega)]
  · intro p _; simp only [stallDefault, m.loseLoft_stall _ _ _ hd hu]
  · intro p hp
    simp only [MemState.loseLoft, tblDrop, List.mem_filter, Bool.or_eq_true, decide_eq_true_eq] at hp
    simp only [loftTaintDefault]; rw [m.loseLoft_loft _ _ _ (by omega)]
  · intro p _; simp only [stallTaintDefault, m.loseLoft_stall _ _ _ hd hu]

theorem State.loseStall_wf (s : State) (st : Nat) (h : Memory.wf s.mem = true) : Memory.wf (s.loseStall st).mem = true := by
  unfold State.loseStall
  split
  · exact s.mem.loseStall_wf _ _ h
  · exact h

theorem State.loseDomain_wf (s : State) (d : Nat) (h : Memory.wf s.mem = true) : Memory.wf (s.loseDomain d).mem = true := by
  unfold State.loseDomain
  split
  · exact s.mem.loseRow_wf _ _ (by assumption) h
  · split
    · exact s.mem.loseLoft_wf _ _ (by omega) (by assumption) h
    · exact h

theorem State.zeroDomain_wf (s : State) (d : Nat) (h : Memory.wf s.mem = true) : Memory.wf (s.zeroDomain d).mem = true := by
  unfold State.zeroDomain
  split
  · exact s.mem.loseRow_wf _ _ (by assumption) h
  · split
    · exact s.mem.loseLoft_wf _ _ (by omega) (by assumption) h
    · exact h

theorem State.zeroYard_wf (s : State) (h : Memory.wf s.mem = true) : Memory.wf s.zeroYard.mem = true := by
  rw [Memory.wf_iff] at h ⊢
  obtain ⟨h1, h2, h3, h4, h5, h6, h7, h8⟩ := h
  exact ⟨h1, tblWf_filter _ _ _ h2, h3, h4, h5, h6, tblWf_filter _ _ _ h7, h8⟩

end Sys2Proof.Machine
end

