-- ==== Sys2Proof/Laws/Queue.lean ====
section
/-! SUPPORT. No operation of the machine touches the queue of waiting commands: one lemma per operation over states, so that the
meanings' own lemmas rewrite and never unfold an operation. -/

namespace Sys2Proof.Machine

@[simp] theorem each_pending {α : Type} (s : State) (l : List α) (f : State → α → State) (h : ∀ x a, (f x a).pending = x.pending) :
    (s.each l f).pending = s.pending := by
  unfold State.each
  induction l generalizing s with
  | nil => rfl
  | cons a l ih => rw [List.foldl_cons, ih, h]
@[simp] theorem when_pending (s : State) (c : Bool) (f : State → State) (h : ∀ x, (f x).pending = x.pending) :
    (s.when c f).pending = s.pending := by
  unfold State.when; split
  · exact h s
  · rfl
@[simp] theorem ite_pending (c : Prop) [Decidable c] (a b : State) : (if c then a else b).pending = if c then a.pending else b.pending :=
  apply_ite _ _ _ _
@[simp] theorem withReg_pending (q : Option (RegDef × Nat)) (d : State) (f : RegDef → Nat → State)
    (h : ∀ r i, (f r i).pending = d.pending) : (withReg q d f).pending = d.pending := by
  unfold withReg
  match q with
  | none => rfl
  | some (r, i) => exact h r i
theorem withReg_fst_pending {β : Type} (q : Option (RegDef × Nat)) (d : State × β) (f : RegDef → Nat → State × β)
    (h : ∀ r i, (f r i).1.pending = d.1.pending) : (withReg q d f).1.pending = d.1.pending := by
  unfold withReg
  match q with
  | none => rfl
  | some (r, i) => exact h r i
@[simp] theorem foldl_pending {α : Type} (s : State) (l : List α) (f : State → α → State) (h : ∀ x a, (f x a).pending = x.pending) :
    (l.foldl f s).pending = s.pending := each_pending s l f h

/-! Ops -/

@[simp] theorem State.loseDomain_pending (s : State) (d : Nat) : (State.loseDomain s d).pending = s.pending := by
  unfold State.loseDomain; simp

@[simp] theorem State.loseStall_pending (s : State) (st : Nat) : (State.loseStall s st).pending = s.pending := by
  unfold State.loseStall; simp

@[simp] theorem State.zeroDomain_pending (s : State) (d : Nat) : (State.zeroDomain s d).pending = s.pending := by
  unfold State.zeroDomain; simp

@[simp] theorem State.enter_pending (s : State) (code : Nat) (param : Word) : (State.enter s code param).pending =
    s.pending := by
  unfold State.enter; simp

@[simp] theorem State.raise_pending (s : State) (code : Nat) (param : Word) : (State.raise s code param).pending =
    s.pending := by
  unfold State.raise
  (try dsimp only); (repeat' split) <;> simp

@[simp] theorem State.ev_pending (s : State) (code : Nat) (p : Nat) : (State.ev s code p).pending = s.pending := by
  unfold State.ev; simp

@[simp] theorem State.ev2_pending (s : State) (code : Nat) (p : Nat) (q : Nat) : (State.ev2 s code p q).pending =
    s.pending := by
  unfold State.ev2; simp

@[simp] theorem State.releaseHeld_pending (s : State) (extra : List (Nat × Word)) : (State.releaseHeld s
    extra).pending = s.pending := by
  unfold State.releaseHeld; simp

@[simp] theorem State.writeLog_pending (s : State) : s.writeLog.pending = s.pending := by
  unfold State.writeLog
  (try dsimp only); (repeat' split) <;> simp

@[simp] theorem State.drainLog_pending (s : State) : s.drainLog.pending = s.pending := by
  unfold State.drainLog; simp

/-! Image -/

@[simp] theorem State.loadSealed_pending (s : State) (pick : Nat → Bool) (b : List Byte) :
    (State.loadSealed s pick b).pending = s.pending := by
  unfold State.loadSealed
  have key : ∀ q : Nat → Option (RegDef × Nat), (s.each ((sealedList b).filter fun p => pick p.1) fun s p =>
      withReg (q p.1) s fun r i => s.setReg r i ((s.reg r i &&& ~~~ r.sl3) ||| (p.2 &&& r.sl3))).pending = s.pending :=
    fun q => each_pending _ _ _ (fun x p => withReg_pending _ _ _ (fun r i => State.setReg_pending ..))
  exact key regAt

/-! Domains -/

@[simp] theorem State.startPenWipe_pending (s : State) (cause : Nat) : (State.startPenWipe s cause).pending =
    s.pending := by
  unfold State.startPenWipe; simp

@[simp] theorem State.dropHold_pending (s : State) (d : Nat) : (State.dropHold s d).pending = s.pending := by
  unfold State.dropHold; simp

@[simp] theorem State.pendLevel_pending (s : State) (d : Nat) (lvl : Nat) : (State.pendLevel s d lvl).pending =
    s.pending := by
  unfold State.pendLevel
  (try dsimp only); (repeat' split) <;> simp

@[simp] theorem State.pendNone_pending (s : State) (d : Nat) : (State.pendNone s d).pending = s.pending := by
  unfold State.pendNone; simp

@[simp] theorem State.loadCopy_pending (s : State) : s.loadCopy.pending = s.pending := by
  unfold State.loadCopy
  (try dsimp only); (repeat' split) <;> simp

@[simp] theorem State.combOn_pending (s : State) : s.combOn.pending = s.pending := by
  unfold State.combOn; simp

@[simp] theorem State.barnWake_pending (s : State) : s.barnWake.pending = s.pending := by
  unfold State.barnWake; simp

@[simp] theorem State.combStart_pending (s : State) : s.combStart.pending = s.pending := by
  unfold State.combStart; simp

@[simp] theorem State.barnCalVote_pending (s : State) (on : Bool) : (State.barnCalVote s on).pending = s.pending := by
  unfold State.barnCalVote; simp

@[simp] theorem State.barnDrop_pending (s : State) : s.barnDrop.pending = s.pending := by
  unfold State.barnDrop; simp

@[simp] theorem State.startFlight_pending (s : State) (d : Nat) (lvl : Nat) : (State.startFlight s d lvl).pending =
    s.pending := by
  unfold State.startFlight; simp

@[simp] theorem State.evalDomain_pending (s : State) (d : Nat) : (State.evalDomain s d).pending = s.pending := by
  unfold State.evalDomain
  (try dsimp only); (repeat' split) <;> simp

@[simp] theorem State.recompute_pending (s : State) : s.recompute.pending = s.pending := by
  unfold State.recompute; simp

@[simp] theorem State.setLevel_pending (s : State) (d : Nat) (l : Nat) : (State.setLevel s d l).pending = s.pending
    := by
  unfold State.setLevel; simp

@[simp] theorem State.advance_pending (s : State) : s.advance.pending = s.pending := by
  unfold State.advance
  (try dsimp only); (repeat' split) <;> simp

@[simp] theorem State.standForced_pending (s : State) (target : Nat) (cause : Nat) : (State.standForced s target
    cause).pending = s.pending := by
  unfold State.standForced
  (try dsimp only); (repeat' split) <;> simp

@[simp] theorem State.force_pending (s : State) (target : Nat) (cause : Nat) : (State.force s target cause).pending =
    s.pending := by
  unfold State.force
  (try dsimp only); (repeat' split) <;> simp

@[simp] theorem State.refuseRest_pending (s : State) : s.refuseRest.pending = s.pending := by
  unfold State.refuseRest; simp

@[simp] theorem State.request_pending (s : State) (q : ChipReq) : (State.request s q).pending = s.pending := by
  unfold State.request
  (try dsimp only); (repeat' split) <;> simp

@[simp] theorem State.unforce_pending (s : State) (cause : Nat) : (State.unforce s cause).pending = s.pending := by
  unfold State.unforce; simp

@[simp] theorem State.voteRise_pending (s : State) (ds : List Nat) : (State.voteRise s ds).pending = s.pending := by
  unfold State.voteRise; simp

@[simp] theorem State.stateReq_pending (s : State) (cause : Nat) (v : Word) : (State.stateReq s cause v).pending =
    s.pending := by
  unfold State.stateReq; simp

@[simp] theorem State.putVotes_pending (s : State) (k : Nat) (ds : List Nat) (v : Nat → Nat) : (State.putVotes s k ds
    v).pending = s.pending := by
  unfold State.putVotes; simp

@[simp] theorem State.setVote_pending (s : State) (d : Nat) (k : Nat) (v : Nat) : (State.setVote s d k v).pending =
    s.pending := by
  unfold State.setVote; simp

@[simp] theorem State.releaseAccess_pending (s : State) (ds : List Nat) : (State.releaseAccess s ds).pending =
    s.pending := by
  unfold State.releaseAccess; simp

@[simp] theorem State.endAccesses_pending (s : State) (pick : Engine → Bool) : (State.endAccesses s pick).pending =
    s.pending := by
  unfold State.endAccesses; simp

@[simp] theorem State.endAccess_pending (s : State) (e : Engine) : (State.endAccess s e).pending = s.pending := by
  unfold State.endAccess; simp

@[simp] theorem State.waitAccess_pending (s : State) (d : Nat) (x : StalledAcc) : (State.waitAccess s d x).pending =
    s.pending := by
  unfold State.waitAccess; simp

@[simp] theorem State.masterAccess_pending (s : State) (d : Nat) (x : StalledAcc) (f : State → State) (g : State →
    State) (h_f : ∀ x0, (f x0).pending = x0.pending) (h_g : ∀ x0, (g x0).pending = x0.pending) : (State.masterAccess s
    d x f g).pending = s.pending := by
  unfold State.masterAccess; simp [*]

@[simp] theorem State.access_pending (s : State) (e : Engine) (d : Nat) (f : State → State) (g : State → State) (h_f :
    ∀ x0, (f x0).pending = x0.pending) (h_g : ∀ x0, (g x0).pending = x0.pending) : (State.access s e d f g).pending =
    s.pending := by
  unfold State.access; simp [*]

/-! Span -/

@[simp] theorem State.stopRoot_pending (s : State) : s.stopRoot.pending = s.pending := by
  unfold State.stopRoot; simp

@[simp] theorem State.latchCount_pending (s : State) (m : Nat) : (State.latchCount s m).pending = s.pending := by
  unfold State.latchCount; simp

@[simp] theorem State.finishRead_pending (s : State) (m : Nat) (bs : List Byte) : (State.finishRead s m bs).pending =
    s.pending := by
  unfold State.finishRead; simp

@[simp] theorem State.serveReads_pending (s : State) : s.serveReads.pending = s.pending := by
  unfold State.serveReads; simp

@[simp] theorem State.closeCarry_pending (s : State) (count : BitVec 64) (err : Nat) (code : Nat) (rc : Word) :
    (State.closeCarry s count err code rc).pending = s.pending := by
  unfold State.closeCarry; simp

@[simp] theorem State.align_pending (s : State) (rc : Word) : (State.align s rc).pending = s.pending := by
  unfold State.align; simp

@[simp] theorem State.startRoot_pending (s : State) : s.startRoot.pending = s.pending := by
  unfold State.startRoot; simp

@[simp] theorem State.xtLost_pending (s : State) (rc : Word) : (State.xtLost s rc).pending = s.pending := by
  unfold State.xtLost; simp

/-! Access -/

@[simp] theorem State.faultAccess_pending (s : State) (m : Master) (a : Nat) (size : AccSize) (unmapped : Bool)
    (write : Bool) : (State.faultAccess s m a size unmapped write).pending = s.pending := by
  unfold State.faultAccess; simp

@[simp] theorem State.writeAs_pending (s : State) (m : Master) (a : Nat) (f : State → State) (h_f : ∀ x0, (f
    x0).pending = x0.pending) : (State.writeAs s m a f).pending = s.pending := by
  unfold State.writeAs; simp [*]

/-! Calib -/

@[simp] theorem State.calVoteRow_pending (s : State) (r : Nat) : (State.calVoteRow s r).pending = s.pending := by
  unfold State.calVoteRow; simp

@[simp] theorem State.setCalState_pending (s : State) (st : Nat) (v : Nat) : (State.setCalState s st v).pending =
    s.pending := by
  unfold State.setCalState; simp

@[simp] theorem State.columnDue_pending (s : State) (st : Nat) : (State.columnDue s st).pending = s.pending := by
  unfold State.columnDue; simp

@[simp] theorem State.defer_pending (s : State) (d : Deferred) : (State.defer s d).pending = s.pending := by
  unfold State.defer; simp

@[simp] theorem State.stateWanted_pending (s : State) : s.stateWanted.pending = s.pending := by
  unfold State.stateWanted; simp

@[simp] theorem State.calChanged_pending (s : State) : s.calChanged.pending = s.pending := by
  unfold State.calChanged; simp

@[simp] theorem State.recordWear_pending (s : State) (sts : List Nat) : (State.recordWear s sts).pending = s.pending
    := by
  unfold State.recordWear; simp

/-! Rings -/

@[simp] theorem State.reach_pending (s : State) (e : Engine) (m : Mem) (off : Nat) (f : State → State) (g : State →
    State) (h_f : ∀ x0, (f x0).pending = x0.pending) (h_g : ∀ x0, (g x0).pending = x0.pending) : (State.reach s e m
    off f g).pending = s.pending := by
  unfold State.reach
  (try dsimp only); (repeat' split) <;> simp [*]

@[simp] theorem State.setRing_pending (s : State) (i : Nat) (r : RingSt) : (State.setRing s i r).pending = s.pending
    := by
  unfold State.setRing; simp

@[simp] theorem State.showIssued_pending (s : State) (i : Nat) : (State.showIssued s i).pending = s.pending := by
  unfold State.showIssued; simp

@[simp] theorem State.passEntry_pending (s : State) (i : Nat) (idx : Nat) : (State.passEntry s i idx).pending =
    s.pending := by
  unfold State.passEntry; simp

@[simp] theorem State.showWaiters_pending (s : State) : s.showWaiters.pending = s.pending := by
  unfold State.showWaiters; simp

@[simp] theorem State.saturated_pending (s : State) (t : Nat) : (State.saturated s t).pending = s.pending := by
  unfold State.saturated; simp

@[simp] theorem State.requestCommits_pending (s : State) (t : Nat) : (State.requestCommits s t).pending = s.pending
    := by
  unfold State.requestCommits; simp

@[simp] theorem State.applyTally_pending (s : State) (o : TallyOp) : (State.applyTally s o).pending = s.pending := by
  unfold State.applyTally
  (try dsimp only); (repeat' split) <;> simp

@[simp] theorem State.raiseTally_pending (s : State) (o : TallyOp) : (State.raiseTally s o).pending = s.pending := by
  unfold State.raiseTally; simp

@[simp] theorem State.raiseDone_pending (s : State) (e : List Byte) : (State.raiseDone s e).pending = s.pending := by
  unfold State.raiseDone; simp

@[simp] theorem State.endEntry_pending (s : State) (i : Nat) (idx : Nat) (status : Nat) : (State.endEntry s i idx
    status).pending = s.pending := by
  unfold State.endEntry
  (try dsimp only); (repeat' split) <;> simp

@[simp] theorem State.msix_pending (s : State) (v : Nat) : (State.msix s v).pending = s.pending := by
  unfold State.msix; simp

@[simp] theorem State.flushMsix_pending (s : State) : s.flushMsix.pending = s.pending := by
  unfold State.flushMsix; simp

@[simp] theorem State.notifyDone_pending (s : State) (i : Nat) (idx : Nat) : (State.notifyDone s i idx).pending =
    s.pending := by
  unfold State.notifyDone; simp

@[simp] theorem State.openEarly_pending (s : State) (st : Nat) : (State.openEarly s st).pending = s.pending := by
  unfold State.openEarly
  (try dsimp only); (repeat' split) <;> simp

@[simp] theorem State.satisfy_pending (s : State) (w : Waiter) : (State.satisfy s w).pending = s.pending := by
  unfold State.satisfy
  (try dsimp only); (repeat' split) <;> simp

@[simp] theorem State.serveTally_pending (s : State) (t : Nat) : (State.serveTally s t).pending = s.pending := by
  unfold State.serveTally; simp

theorem settleOps_pending (n : Nat) (s : State) : (settleOps n s).pending = s.pending := by
  induction n generalizing s with
  | zero => rfl
  | succ n ih =>
    unfold settleOps
    split
    · rfl
    · rw [ih]; simp

@[simp] theorem State.settle_pending (s : State) : s.settle.pending = s.pending := by
  unfold State.settle; rw [settleOps_pending]

@[simp] theorem State.tallyOp_pending (s : State) (op : TOp) (t : Nat) (v : Nat) : (State.tallyOp s op t v).pending =
    s.pending := by
  unfold State.tallyOp; simp

@[simp] theorem State.completeEntry_pending (s : State) (i : Nat) (idx : Nat) (status : Nat) : (State.completeEntry s
    i idx status).pending = s.pending := by
  unfold State.completeEntry; simp

@[simp] theorem State.addWaiter_pending (s : State) (w : Waiter) : (State.addWaiter s w).pending = s.pending := by
  unfold State.addWaiter; simp

@[simp] theorem State.doorbell_pending (s : State) (i : Nat) (count : Nat) (owner : Nat) : (State.doorbell s i count
    owner).pending = s.pending := by
  unfold State.doorbell; simp

/-! Pen -/

@[simp] theorem State.setPenSlot_pending (s : State) (p : Nat) (k : Nat) (v : Nat) : (State.setPenSlot s p k
    v).pending = s.pending := by
  unfold State.setPenSlot; simp

@[simp] theorem State.setReleases_pending (s : State) (p : Nat) (k : Nat) (n : Nat) : (State.setReleases s p k
    n).pending = s.pending := by
  unfold State.setReleases; simp

@[simp] theorem State.releasePen_pending (s : State) (p : Nat) (k : Nat) : (State.releasePen s p k).pending =
    s.pending := by
  unfold State.releasePen; simp

@[simp] theorem State.alarmWipe_pending (s : State) : s.alarmWipe.pending = s.pending := by
  unfold State.alarmWipe; simp

@[simp] theorem State.setCam_pending (s : State) (p : Nat) (c : CamSt) : (State.setCam s p c).pending = s.pending :=
    by
  unfold State.setCam; simp

@[simp] theorem State.dropFrame_pending (s : State) (p : Nat) : (State.dropFrame s p).pending = s.pending := by
  unfold State.dropFrame; simp

@[simp] theorem State.penWiped_pending (s : State) : s.penWiped.pending = s.pending := by
  unfold State.penWiped; simp

@[simp] theorem State.showCams_pending (s : State) : s.showCams.pending = s.pending := by
  unfold State.showCams; simp

@[simp] theorem State.camRelease_pending (s : State) : s.camRelease.pending = s.pending := by
  unfold State.camRelease; simp

@[simp] theorem State.camStop_pending (s : State) : s.camStop.pending = s.pending := by
  unfold State.camStop; simp

@[simp] theorem State.abandon_pending (s : State) (p : Nat) (cause : Nat) : (State.abandon s p cause).pending =
    s.pending := by
  unfold State.abandon
  (try dsimp only); (repeat' split) <;> simp

@[simp] theorem State.discard_pending (s : State) (p : Nat) : (State.discard s p).pending = s.pending := by
  unfold State.discard; simp

@[simp] theorem State.camHeader_pending (s : State) (p : Nat) (vc : BitVec 2) (hdr : PktHdr) (f : State → State) (h_f
    : ∀ x0, (f x0).pending = x0.pending) : (State.camHeader s p vc hdr f).pending = s.pending := by
  unfold State.camHeader; simp [*]

@[simp] theorem State.beginFrame_pending (s : State) (p : Nat) : (State.beginFrame s p).pending = s.pending := by
  unfold State.beginFrame; simp

@[simp] theorem State.takeLine_pending (s : State) (p : Nat) (payload : List Byte) : (State.takeLine s p
    payload).pending = s.pending := by
  unfold State.takeLine
  (try dsimp only); (repeat' split) <;> simp

@[simp] theorem State.endFrame_pending (s : State) (p : Nat) : (State.endFrame s p).pending = s.pending := by
  unfold State.endFrame
  (try dsimp only); (repeat' split) <;> simp

@[simp] theorem State.camLedFails_pending (s : State) (shorted : Bool) : (State.camLedFails s shorted).pending =
    s.pending := by
  unfold State.camLedFails; simp

/-! Ports -/

@[simp] theorem State.setPort_pending (s : State) (p : Nat) (x : PortSt) : (State.setPort s p x).pending = s.pending
    := by
  unfold State.setPort; simp

@[simp] theorem State.setPortState_pending (s : State) (p : Nat) (v : Nat) : (State.setPortState s p v).pending =
    s.pending := by
  unfold State.setPortState; simp

@[simp] theorem State.portVote_pending (s : State) : s.portVote.pending = s.pending := by
  unfold State.portVote; simp

@[simp] theorem State.endScript_pending (s : State) (p : Nat) (result : Nat) : (State.endScript s p result).pending =
    s.pending := by
  unfold State.endScript
  (try dsimp only); (repeat' split) <;> simp

@[simp] theorem State.startScript_pending (s : State) (p : Nat) (k : Nat) (entry : Option (Nat × Nat)) (init : Bool)
    : (State.startScript s p k entry init).pending = s.pending := by
  unfold State.startScript; simp

@[simp] theorem State.onStep_pending (s : State) (p : Nat) (op : Nat) (phase : ScriptPhase) (f : State → ScriptRun →
    Nat → State) (h_f : ∀ x0 x1 x2, (f x0 x1 x2).pending = x0.pending) : (State.onStep s p op phase f).pending =
    s.pending := by
  unfold State.onStep
  (try dsimp only); (repeat' split) <;> first | (simp; done) | (simp_all; done)

@[simp] theorem State.setRun_pending (s : State) (p : Nat) (r : ScriptRun) : (State.setRun s p r).pending = s.pending
    := by
  unfold State.setRun; simp

@[simp] theorem State.gotoStep_pending (s : State) (p : Nat) (r : ScriptRun) (n : Nat) : (State.gotoStep s p r
    n).pending = s.pending := by
  unfold State.gotoStep; simp

@[simp] theorem State.nextStep_pending (s : State) (p : Nat) (r : ScriptRun) : (State.nextStep s p r).pending =
    s.pending := by
  unfold State.nextStep; simp

@[simp] theorem State.toBus_pending (s : State) (p : Nat) (r : ScriptRun) (bs : List Byte) : (State.toBus s p r
    bs).pending = s.pending := by
  unfold State.toBus; simp

@[simp] theorem State.detachStore_pending (s : State) (p : Nat) : (State.detachStore s p).pending = s.pending := by
  unfold State.detachStore
  (try dsimp only); (repeat' split) <;> simp

@[simp] theorem State.storeLate_pending (s : State) (dest : Nat) (data : List Byte) : (State.storeLate s dest
    data).pending = s.pending := by
  unfold State.storeLate; simp

@[simp] theorem State.classed_pending (s : State) (p : Nat) (c : Nat) : (State.classed s p c).pending = s.pending :=
    by
  unfold State.classed; simp

@[simp] theorem State.beginProbe_pending (s : State) (p : Nat) : (State.beginProbe s p).pending = s.pending := by
  unfold State.beginProbe; simp

@[simp] theorem State.intTested_pending (s : State) (p : Nat) (floats : Bool) : (State.intTested s p floats).pending
    = s.pending := by
  unfold State.intTested; simp

@[simp] theorem State.railFails_pending (s : State) (p : Nat) (kind : Nat) : (State.railFails s p kind).pending =
    s.pending := by
  unfold State.railFails; simp

@[simp] theorem State.clearPort_pending (s : State) (p : Nat) : (State.clearPort s p).pending = s.pending := by
  unfold State.clearPort; simp

@[simp] theorem State.faultClear_pending (s : State) (v : Word) : (State.faultClear s v).pending = s.pending := by
  unfold State.faultClear; simp

@[simp] theorem State.faultsDue_pending (s : State) : s.faultsDue.pending = s.pending := by
  unfold State.faultsDue; simp

@[simp] theorem State.portsStop_pending (s : State) (st : Nat) : (State.portsStop s st).pending = s.pending := by
  unfold State.portsStop; simp

@[simp] theorem State.portsProbe_pending (s : State) : s.portsProbe.pending = s.pending := by
  unfold State.portsProbe; simp

@[simp] theorem State.showInt_pending (s : State) (p : Nat) : (State.showInt s p).pending = s.pending := by
  unfold State.showInt; simp

@[simp] theorem State.wakeScript_pending (s : State) (p : Nat) : (State.wakeScript s p).pending = s.pending := by
  unfold State.wakeScript; simp

/-! Ear -/

@[simp] theorem State.showClocks_pending (s : State) : s.showClocks.pending = s.pending := by
  unfold State.showClocks; simp

@[simp] theorem State.dropHist_pending (s : State) (a : Nat) : (State.dropHist s a).pending = s.pending := by
  unfold State.dropHist; simp

@[simp] theorem State.breakMel_pending (s : State) (a : Nat) (n : Nat) : (State.breakMel s a n).pending = s.pending :=
    by
  unfold State.breakMel; simp

@[simp] theorem State.stopPdm_pending (s : State) : s.stopPdm.pending = s.pending := by
  unfold State.stopPdm; simp

@[simp] theorem State.stopClocks_pending (s : State) : s.stopClocks.pending = s.pending := by
  unfold State.stopClocks; simp

@[simp] theorem State.switchClk0_pending (s : State) (full : Bool) : (State.switchClk0 s full).pending = s.pending :=
    by
  unfold State.switchClk0; simp

@[simp] theorem State.setCoef_pending (s : State) (i : Nat) (v : BitVec 16) : (State.setCoef s i v).pending =
    s.pending := by
  unfold State.setCoef; simp

@[simp] theorem State.writeWindow_pending (s : State) (m : Nat) (st : Stream) (seq : Nat) (frame : List Byte) :
    (State.writeWindow s m st seq frame).pending = s.pending := by
  unfold State.writeWindow; simp

@[simp] theorem State.keepHist_pending (s : State) (m : Nat) (xs : List (Option (BitVec 16))) : (State.keepHist s m
    xs).pending = s.pending := by
  unfold State.keepHist; simp

@[simp] theorem State.keepPre_pending (s : State) (m : Nat) (span : Nat) (settle : Bool) (xs : List (BitVec 16)) :
    (State.keepPre s m span settle xs).pending = s.pending := by
  unfold State.keepPre; simp

@[simp] theorem State.takeFrame_pending (s : State) (m : Nat) (st : Stream) (xs : List Word) : (State.takeFrame s m
    st xs).pending = s.pending := by
  unfold State.takeFrame; simp

@[simp] theorem State.earDrop_pending (s : State) : s.earDrop.pending = s.pending := by
  unfold State.earDrop; simp

@[simp] theorem State.takeMel_pending (s : State) (m : Nat) : (State.takeMel s m).pending = s.pending := by
  unfold State.takeMel; simp

@[simp] theorem State.writeBlock_pending (s : State) (plain : List Byte) : (State.writeBlock s plain).pending =
    s.pending := by
  unfold State.writeBlock; simp

@[simp] theorem State.closeBlock_pending (s : State) (m : Nat) : (State.closeBlock s m).pending = s.pending := by
  unfold State.closeBlock; simp

@[simp] theorem State.endSession_pending (s : State) (cause : Nat) : (State.endSession s cause).pending = s.pending
    := by
  unfold State.endSession; simp

@[simp] theorem State.sessionEnds_pending (s : State) (cause : Nat) : (State.sessionEnds s cause).pending = s.pending
    := by
  unfold State.sessionEnds; simp

@[simp] theorem State.newSession_pending (s : State) : s.newSession.pending = s.pending := by
  unfold State.newSession; simp

@[simp] theorem State.startSession_pending (s : State) : s.startSession.pending = s.pending := by
  unfold State.startSession; simp

@[simp] theorem State.unloadEnds_pending (s : State) : s.unloadEnds.pending = s.pending := by
  unfold State.unloadEnds; simp

@[simp] theorem State.startUnload_pending (s : State) : s.startUnload.pending = s.pending := by
  unfold State.startUnload; simp

@[simp] theorem State.prerollCmd_pending (s : State) (v : Word) : (State.prerollCmd s v).pending = s.pending := by
  unfold State.prerollCmd; simp

@[simp] theorem State.calVoteEar_pending (s : State) : s.calVoteEar.pending = s.pending := by
  unfold State.calVoteEar; simp

@[simp] theorem State.setMicCal_pending (s : State) (m : Nat) (v : Nat) : (State.setMicCal s m v).pending = s.pending
    := by
  unfold State.setMicCal; simp

@[simp] theorem State.micCalsAbandon_pending (s : State) (pick : Nat → Bool) : (State.micCalsAbandon s pick).pending =
    s.pending := by
  unfold State.micCalsAbandon; simp

@[simp] theorem State.micCalsAgain_pending (s : State) : s.micCalsAgain.pending = s.pending := by
  unfold State.micCalsAgain; simp

@[simp] theorem State.prerollMute_pending (s : State) : s.prerollMute.pending = s.pending := by
  unfold State.prerollMute
  refine each_pending _ _ _ (fun x m => ?_)
  dsimp only
  rw [State.writeBlock_pending]
  refine when_pending _ _ _ (fun y => ?_)
  exact State.closeBlock_pending y m

@[simp] theorem State.mute_pending (s : State) : s.mute.pending = s.pending := by
  unfold State.mute; simp

@[simp] theorem State.tryUnmute_pending (s : State) : s.tryUnmute.pending = s.pending := by
  unfold State.tryUnmute; simp

@[simp] theorem State.muteRelease_pending (s : State) : s.muteRelease.pending = s.pending := by
  unfold State.muteRelease; simp

@[simp] theorem State.muteLedFails_pending (s : State) (shorted : Bool) : (State.muteLedFails s shorted).pending =
    s.pending := by
  unfold State.muteLedFails; simp

@[simp] theorem State.earStop_pending (s : State) : s.earStop.pending = s.pending := by
  unfold State.earStop; simp

@[simp] theorem State.micReject_pending (s : State) (m : Fin 16) (step : Nat) : (State.micReject s m step).pending =
    s.pending := by
  unfold State.micReject; simp

/-! Alarms -/

@[simp] theorem State.haltFabric_pending (s : State) : s.haltFabric.pending = s.pending := by
  unfold State.haltFabric; simp

@[simp] theorem State.alarmActions_pending (s : State) : s.alarmActions.pending = s.pending := by
  unfold State.alarmActions; simp

@[simp] theorem State.showPhases_pending (s : State) : s.showPhases.pending = s.pending := by
  unfold State.showPhases; simp

@[simp] theorem State.railStop_pending (s : State) : s.railStop.pending = s.pending := by
  unfold State.railStop; simp

@[simp] theorem State.openDomains_pending (s : State) : s.openDomains.pending = s.pending := by
  unfold State.openDomains; simp

@[simp] theorem State.resetDue_pending (s : State) (cause : Nat) : (State.resetDue s cause).pending = s.pending := by
  unfold State.resetDue; simp

@[simp] theorem State.eraseVolatile_pending (s : State) : s.eraseVolatile.pending = s.pending := by
  unfold State.eraseVolatile; simp

@[simp] theorem State.detectRoot_pending (s : State) : s.detectRoot.pending = s.pending := by
  unfold State.detectRoot; simp

@[simp] theorem State.alarmL3_pending (s : State) (took : Bool) : (State.alarmL3 s took).pending = s.pending := by
  unfold State.alarmL3; simp

@[simp] theorem State.alarm_pending (s : State) (src : Nat) : (State.alarm s src).pending = s.pending := by
  unfold State.alarm; simp

@[simp] theorem State.dropIdentity_pending (s : State) : s.dropIdentity.pending = s.pending := by
  unfold State.dropIdentity; simp

@[simp] theorem State.dropGroup_pending (s : State) : s.dropGroup.pending = s.pending := by
  unfold State.dropGroup; simp

@[simp] theorem State.killSlot_pending (s : State) (k : Nat) : (State.killSlot s k).pending = s.pending := by
  unfold State.killSlot; simp

@[simp] theorem State.eraseKeys_pending (s : State) (killed : List (Fin 4)) : (State.eraseKeys s killed).pending =
    s.pending := by
  unfold State.eraseKeys; simp

@[simp] theorem State.zeroiseOpen_pending (s : State) : s.zeroiseOpen.pending = s.pending := by
  unfold State.zeroiseOpen; simp

/-! Keys -/

@[simp] theorem State.debugWrite_pending (s : State) (m : Master) (a : Nat) (f : State → State) (h_f : ∀ x0, (f
    x0).pending = x0.pending) : (State.debugWrite s m a f).pending = s.pending := by
  unfold State.debugWrite; simp [*]

@[simp] theorem State.lcRequest_pending (s : State) (v : Word) (killed : List (Fin 4)) : (State.lcRequest s v
    killed).pending = s.pending := by
  unfold State.lcRequest; simp

@[simp] theorem State.otpStage_pending (s : State) (k : Nat) (v : Word) : (State.otpStage s k v).pending = s.pending
    := by
  unfold State.otpStage; simp

@[simp] theorem State.keyRefused_pending (s : State) (r : Nat) : (State.keyRefused s r).pending = s.pending := by
  unfold State.keyRefused; simp

@[simp] theorem State.install_pending (s : State) : s.install.pending = s.pending := by
  unfold State.install
  (try dsimp only); (repeat' split) <;> simp

@[simp] theorem State.eraseGroupKey_pending (s : State) (failed : Bool) : (State.eraseGroupKey s failed).pending =
    s.pending := by
  unfold State.eraseGroupKey; simp

@[simp] theorem State.keyCmd_pending (s : State) (v : Word) (failed : Bool) : (State.keyCmd s v failed).pending =
    s.pending := by
  unfold State.keyCmd; simp

@[simp] theorem State.runKey_pending (s : State) (o : KeyOp) : (s.runKey o).pending = s.pending := by
  cases o <;> simp [State.runKey]

@[simp] theorem State.keyOp_pending (s : State) (o : KeyOp) : (State.keyOp s o).pending = s.pending := by
  unfold State.keyOp
  (try dsimp only); (repeat' split) <;> simp

@[simp] theorem State.keyIn_pending (s : State) (k : Nat) (v : Word) : (State.keyIn s k v).pending = s.pending := by
  unfold State.keyIn; simp

@[simp] theorem State.setIr_pending (s : State) (c : Nat) : (State.setIr s c).pending = s.pending := by
  unfold State.setIr; simp

@[simp] theorem State.scanHolds_pending (s : State) : s.scanHolds.pending = s.pending := by
  unfold State.scanHolds; simp

@[simp] theorem State.jtag?_pending (s : State) (f : State → State) (h_f : ∀ x0, (f x0).pending = x0.pending) :
    (State.jtag? s f).pending = s.pending := by
  unfold State.jtag?; simp [*]

@[simp] theorem State.unlock_pending (s : State) (scope : Nat) : (State.unlock s scope).pending = s.pending := by
  unfold State.unlock; simp

@[simp] theorem State.unlockFails_pending (s : State) (code : Nat) : (State.unlockFails s code).pending = s.pending
    := by
  unfold State.unlockFails; simp

/-! Gate -/

@[simp] theorem State.freeOutbox_pending (s : State) : s.freeOutbox.pending = s.pending := by
  unfold State.freeOutbox; simp

@[simp] theorem State.tellPcie_pending (s : State) : s.tellPcie.pending = s.pending := by
  unfold State.tellPcie; simp

@[simp] theorem State.attach_pending (s : State) (o : Nat) : (State.attach s o).pending = s.pending := by
  unfold State.attach; simp

@[simp] theorem State.detach_pending (s : State) (o : Nat) : (State.detach s o).pending = s.pending := by
  unfold State.detach; simp

@[simp] theorem State.pcieFalls_pending (s : State) : s.pcieFalls.pending = s.pending := by
  unfold State.pcieFalls; simp

@[simp] theorem State.hostDrop_pending (s : State) : s.hostDrop.pending = s.pending := by
  unfold State.hostDrop; simp

@[simp] theorem State.consume_pending (s : State) (o : Nat) : (State.consume s o).pending = s.pending := by
  unfold State.consume; simp

@[simp] theorem State.firstFail_pending (s : State) (type : Nat) (step : Nat) (id : Nat) : (State.firstFail s type
    step id).pending = s.pending := by
  unfold State.firstFail; simp

@[simp] theorem State.gateFail_pending (s : State) (p : Presented) (step : Nat) (id : Nat) (param : Nat) :
    (State.gateFail s p step id param).pending = s.pending := by
  unfold State.gateFail; simp

@[simp] theorem State.gatePass_pending (s : State) (p : Presented) (i : Nat) (seq : Nat) : (State.gatePass s p i
    seq).pending = s.pending := by
  unfold State.gatePass; simp

@[simp] theorem State.gateCheck_pending (s : State) (p : Presented) : (State.gateCheck s p).pending = s.pending := by
  unfold State.gateCheck
  (try dsimp only); (repeat' split) <;> simp

@[simp] theorem State.linkRefused_pending (s : State) (chip : Nat) : (State.linkRefused s chip).pending = s.pending
    := by
  unfold State.linkRefused; simp

@[simp] theorem State.penAccess_pending (s : State) (who : Nat) : (State.penAccess s who).pending = s.pending := by
  unfold State.penAccess; simp

/-! Rows -/

@[simp] theorem State.putRecord_pending (s : State) (st : Nat) (b : List Byte) : (State.putRecord s st b).pending =
    s.pending := by
  unfold State.putRecord; simp

@[simp] theorem State.unvalidate_pending (s : State) (st : Nat) : (State.unvalidate s st).pending = s.pending := by
  unfold State.unvalidate; simp

@[simp] theorem State.putRows_pending (s : State) (st : Nat) (rows : List Nat) (new : Nat → List Byte) :
    (State.putRows s st rows new).pending = s.pending := by
  unfold State.putRows; simp

@[simp] theorem State.writeRows_pending (s : State) (st : Nat) (rows : List Nat) : (State.writeRows s st
    rows).pending = s.pending := by
  unfold State.writeRows; simp

@[simp] theorem State.spoilRows_pending (s : State) (st : Nat) (rows : List Nat) : (State.spoilRows s st rows).pending
    = s.pending := by
  unfold State.spoilRows; simp

@[simp] theorem State.setJob_pending (s : State) (st : Nat) (j : ProgJob) : (State.setJob s st j).pending = s.pending
    := by
  unfold State.setJob; simp

@[simp] theorem State.showCim_pending (s : State) : s.showCim.pending = s.pending := by
  unfold State.showCim; simp

@[simp] theorem State.haltRows_pending (s : State) (st : Nat) (stood : Bool) : (State.haltRows s st stood).pending =
    s.pending := by
  unfold State.haltRows
  (try dsimp only); (repeat' split) <;> simp

@[simp] theorem State.dropJob_pending (s : State) (st : Nat) : (State.dropJob s st).pending = s.pending := by
  unfold State.dropJob; simp

@[simp] theorem State.stopProgram_pending (s : State) (st : Nat) : (State.stopProgram s st).pending = s.pending := by
  unfold State.stopProgram; simp

/-! Tiles -/

@[simp] theorem State.setStall_pending (s : State) (st : Nat) (x : StallSt) : (State.setStall s st x).pending =
    s.pending := by
  unfold State.setStall; simp

@[simp] theorem State.setNum_pending (s : State) (i : Nat) (x : NumSlot) : (State.setNum s i x).pending = s.pending
    := by
  unfold State.setNum; simp

@[simp] theorem State.showNum_pending (s : State) (i : Nat) : (State.showNum s i).pending = s.pending := by
  unfold State.showNum; simp

@[simp] theorem State.joinNum_pending (s : State) (i : Nat) : (State.joinNum s i).1.pending = s.pending := by
  unfold State.joinNum; simp

@[simp] theorem State.numLimit_pending (s : State) (i : Nat) (dir : Nat) : (State.numLimit s i dir).pending =
    s.pending := by
  unfold State.numLimit; simp

@[simp] theorem State.moveExp_pending (s : State) (i : Nat) (by_ : Int) (code : Nat) : (State.moveExp s i by_
    code).pending = s.pending := by
  unfold State.moveExp; simp

@[simp] theorem State.adapt_pending (s : State) (i : Nat) (share : Nat) : (State.adapt s i share).pending = s.pending
    := by
  unfold State.adapt; simp

@[simp] theorem State.closeStep_pending (s : State) (i : Nat) (st : NumStep) : (State.closeStep s i st).pending =
    s.pending := by
  unfold State.closeStep; simp

theorem closeSteps_pending (n i : Nat) (s : State) : (closeSteps n i s).pending = s.pending := by
  induction n generalizing s with
  | zero => rfl
  | succ n ih =>
    unfold closeSteps
    dsimp only
    split
    · rw [ih]; simp
    · rfl

@[simp] theorem State.foldNum_pending (s : State) (ok : Bool) (t : TileNum) : (State.foldNum s ok t).pending =
    s.pending := by
  unfold State.foldNum; simp [closeSteps_pending]

@[simp] theorem State.resetNums_pending (s : State) : s.resetNums.pending = s.pending := by
  unfold State.resetNums; simp

@[simp] theorem State.dropEarly_pending (s : State) (st : Nat) : (State.dropEarly s st).pending = s.pending := by
  unfold State.dropEarly; simp

@[simp] theorem State.workVote_pending (s : State) (d : Nat) (on : Bool) : (State.workVote s d on).pending = s.pending
    := by
  unfold State.workVote; simp

@[simp] theorem State.rowVotes_pending (s : State) : s.rowVotes.pending = s.pending := by
  unfold State.rowVotes; simp

@[simp] theorem State.publish_pending (s : State) (t : TileJob) : (State.publish s t).pending = s.pending := by
  unfold State.publish; simp

@[simp] theorem State.finishTile_pending (s : State) (t : TileJob) (status : Nat) : (State.finishTile s t
    status).pending = s.pending := by
  unfold State.finishTile; simp

@[simp] theorem State.tileFailed_pending (s : State) (st : Nat) (t : TileJob) (status : Nat) : (State.tileFailed s st
    t status).pending = s.pending := by
  unfold State.tileFailed; simp

@[simp] theorem State.putTile_pending (s : State) (st : Nat) (t : TileJob) : (State.putTile s st t).pending =
    s.pending := by
  unfold State.putTile; simp

@[simp] theorem State.regate_pending (s : State) (st : Nat) (t : TileJob) : (State.regate s st t).pending = s.pending
    := by
  unfold State.regate; simp

@[simp] theorem State.reissueOne_pending (s : State) (t0 : TileJob) : (State.reissueOne s t0).pending = s.pending :=
    by
  unfold State.reissueOne
  (try dsimp only); (repeat' split) <;> simp

@[simp] theorem State.serveReissues_pending (s : State) : s.serveReissues.pending = s.pending := by
  unfold State.serveReissues; simp

@[simp] theorem State.stallFailed_pending (s : State) (st : Nat) (t : TileJob) (status : Nat) : (State.stallFailed s
    st t status).pending = s.pending := by
  unfold State.stallFailed; simp

@[simp] theorem State.abandonTile_pending (s : State) (st : Nat) (t : TileJob) (watchdog : Bool) : (State.abandonTile
    s st t watchdog).pending = s.pending := by
  unfold State.abandonTile; simp

@[simp] theorem State.stallIdle_pending (s : State) (st : Nat) : (State.stallIdle s st).pending = s.pending := by
  unfold State.stallIdle
  (try dsimp only); (repeat' split) <;> simp

@[simp] theorem State.endStallTile_pending (s : State) (st : Nat) (status : Nat) : (State.endStallTile s st
    status).pending = s.pending := by
  unfold State.endStallTile
  (try dsimp only); (repeat' split) <;> simp

@[simp] theorem State.reservedLost_pending (s : State) : s.reservedLost.pending = s.pending := by
  unfold State.reservedLost; simp

@[simp] theorem State.stopTile_pending (s : State) (st : Nat) (t : TileJob) (watchdog : Bool) : (State.stopTile s st t
    watchdog).pending = s.pending := by
  unfold State.stopTile; simp

@[simp] theorem State.stopStall_pending (s : State) (st : Nat) (watchdog : Bool) : (State.stopStall s st
    watchdog).pending = s.pending := by
  unfold State.stopStall
  (try dsimp only); (repeat' split) <;> simp

@[simp] theorem State.fence_pending (s : State) (st : Nat) (cause : Nat) : (State.fence s st cause).pending =
    s.pending := by
  unfold State.fence; simp

/-! Fabric -/

@[simp] theorem State.rejectDesc_pending (s : State) (st : Nat) (status : Nat) : (State.rejectDesc s st
    status).pending = s.pending := by
  unfold State.rejectDesc; simp

@[simp] theorem State.reachAll_pending (s : State) (e : Engine) (rs : List Region) (f g : State → State)
    (h_f : ∀ x0, (f x0).pending = x0.pending) (h_g : ∀ x0, (g x0).pending = x0.pending) :
    (State.reachAll s e rs f g).pending = s.pending := by
  induction rs generalizing s with
  | nil => exact h_f s
  | cons r rest ih =>
    unfold State.reachAll
    split
    · split
      · exact ih s
      · simp [ih, h_g]
    · simp [ih, h_g]
    · exact ih s

@[simp] theorem State.reachStall_pending (s : State) (st : Nat) (rs : List Region) (f : State → State) (h_f : ∀ x0, (f
    x0).pending = x0.pending) : (State.reachStall s st rs f).pending = s.pending := by
  unfold State.reachStall; simp [*]

@[simp] theorem State.latch_pending (s : State) (t : TileJob) (d : Desc) : (State.latch s t d).1.pending = s.pending
    := by
  unfold State.latch
  (try dsimp only); (repeat' split) <;> simp

@[simp] theorem State.startDesc_pending (s : State) (st : Nat) (t : TileJob) (d : Desc) (f : State → TileJob → Desc →
    State) (h_f : ∀ x0 x1 x2, (f x0 x1 x2).pending = x0.pending) : (State.startDesc s st t d f).pending = s.pending :=
    by
  unfold State.startDesc; simp [*]

@[simp] theorem State.tableChecked_pending (s : State) (st : Nat) (t : TileJob) (d : Desc) (f : State → State) (h_f :
    ∀ x0, (f x0).pending = x0.pending) : (State.tableChecked s st t d f).pending = s.pending := by
  unfold State.tableChecked; simp [*]

@[simp] theorem State.onDesc_pending (s : State) (st : Nat) (op : Nat) (func : Nat) (f : State → TileJob → Desc →
    State) (h_f : ∀ x0 x1 x2, (f x0 x1 x2).pending = x0.pending) : (State.onDesc s st op func f).pending = s.pending
    := by
  unfold State.onDesc
  split
  · rfl
  · split
    · rfl
    · dsimp only
      (repeat' split) <;> first | with_reducible rfl | (simp [h_f]; done) | exact State.reach_pending _ _ _ _ _ _ (fun x => by (repeat' split) <;> simp [h_f]) (fun x => by simp)

@[simp] theorem State.descDone_pending (s : State) (st : Nat) (t : TileJob) (d : Desc) : (State.descDone s st t
    d).pending = s.pending := by
  unfold State.descDone; simp

@[simp] theorem State.numFaults_pending (s : State) (st : Nat) (nonfinite : Nat) (past : Nat) : (State.numFaults s st
    nonfinite past).pending = s.pending := by
  unfold State.numFaults; simp

@[simp] theorem State.putOutputs_pending (s : State) (st : Nat) (t : TileJob) (d : Desc) (taint : Nat) (nonfinite :
    Nat) (vs : List (List OutVal)) : (State.putOutputs s st t d taint nonfinite vs).pending = s.pending := by
  unfold State.putOutputs; simp

@[simp] theorem State.penReady_pending (s : State) (st : Nat) (d : Desc) (f : State → State) (h_f : ∀ x0, (f
    x0).pending = x0.pending) : (State.penReady s st d f).pending = s.pending := by
  unfold State.penReady
  (try dsimp only); (repeat' split) <;> first | (simp; done) | (simp_all; done)

@[simp] theorem State.runMatmul_pending (s : State) (st : Nat) (t : TileJob) (d : Desc) : (State.runMatmul s st t
    d).pending = s.pending := by
  unfold State.runMatmul; simp

@[simp] theorem State.runCim_pending (s : State) (st : Nat) (t : TileJob) (d : Desc) : (State.runCim s st t
    d).pending = s.pending := by
  unfold State.runCim; simp

@[simp] theorem State.runVector_pending (s : State) (st : Nat) (t : TileJob) (d : Desc) : (State.runVector s st t
    d).pending = s.pending := by
  unfold State.runVector; simp

@[simp] theorem State.vector_pending (s : State) (st func : Nat) : (State.vector s st func).pending = s.pending := by
  unfold State.vector
  refine State.onDesc_pending _ _ _ _ _ (fun x t d => ?_)
  refine State.reachStall_pending _ _ _ _ (fun y => ?_)
  exact State.penReady_pending _ _ _ _ (fun z => State.runVector_pending z st t d)

@[simp] theorem State.saturated11_pending (s : State) (st : Nat) (n : Nat) : (State.saturated11 s st n).pending =
    s.pending := by
  unfold State.saturated11; simp

@[simp] theorem State.putBlock_pending (s : State) (st : Nat) (t : TileJob) (d : Desc) (taint : Nat) (codes : List
    (List Int)) (bytes : List Byte) : (State.putBlock s st t d taint codes bytes).pending = s.pending := by
  unfold State.putBlock; simp

@[simp] theorem State.runBackward_pending (s : State) (st : Nat) (t : TileJob) (d : Desc) : (State.runBackward s st t
    d).pending = s.pending := by
  unfold State.runBackward; simp

@[simp] theorem State.runUpdate_pending (s : State) (st : Nat) (t : TileJob) (d : Desc) : (State.runUpdate s st t
    d).pending = s.pending := by
  unfold State.runUpdate
  (try dsimp only); (repeat' split) <;> simp

@[simp] theorem State.takeEmit_pending (s : State) (st : Nat) : (State.takeEmit s st).pending = s.pending := by
  unfold State.takeEmit
  (try dsimp only); (repeat' split) <;> simp

@[simp] theorem State.evalWindow_pending (s : State) (st : Nat) (w : WinDone) : (State.evalWindow s st w).pending =
    s.pending := by
  unfold State.evalWindow
  (try dsimp only); (repeat' split) <;> simp

/-! Cim -/

@[simp] theorem State.showWear_pending (s : State) (st : Nat) : (State.showWear s st).pending = s.pending := by
  unfold State.showWear; simp

@[simp] theorem State.addWear_pending (s : State) (st : Nat) (rows : List Nat) : (State.addWear s st rows).pending =
    s.pending := by
  unfold State.addWear; simp

@[simp] theorem State.subWear_pending (s : State) (st : Nat) (rows : List Nat) : (State.subWear s st rows).pending =
    s.pending := by
  unfold State.subWear; simp

@[simp] theorem State.setMarks_pending (s : State) (st : Nat) (rows : List Nat) : (State.setMarks s st rows).pending
    = s.pending := by
  unfold State.setMarks; simp

@[simp] theorem State.beginProgram_pending (s : State) (st : Nat) : (State.beginProgram s st).pending = s.pending :=
    by
  unfold State.beginProgram; simp

@[simp] theorem State.finishProgram_pending (s : State) (st : Nat) (j : ProgJob) : (State.finishProgram s st
    j).pending = s.pending := by
  unfold State.finishProgram; simp

@[simp] theorem State.verifyFails_pending (s : State) (st : Nat) (j : ProgJob) (row : Nat) : (State.verifyFails s st j
    row).pending = s.pending := by
  unfold State.verifyFails; simp

@[simp] theorem State.rowRetries_pending (s : State) (st : Nat) (j : ProgJob) (l : List (BitVec 8 × Fin 4)) :
    (State.rowRetries s st j l).pending = s.pending := by
  unfold State.rowRetries; simp

@[simp] theorem State.programEnds_pending (s : State) (st : Nat) (j : ProgJob) (m : ProgMeas) : (State.programEnds s
    st j m).pending = s.pending := by
  unfold State.programEnds
  (try dsimp only); (repeat' split) <;> simp

@[simp] theorem State.timesOut_pending (s : State) (st : Nat) (j : ProgJob) : (State.timesOut s st j).pending =
    s.pending := by
  unfold State.timesOut; simp

@[simp] theorem State.startProgram_pending (s : State) (st : Nat) : (State.startProgram s st).pending = s.pending :=
    by
  unfold State.startProgram; simp

@[simp] theorem State.interruptProgram_pending (s : State) (st : Nat) (clamp : Bool) : (State.interruptProgram s st
    clamp).pending = s.pending := by
  unfold State.interruptProgram
  (try dsimp only); (repeat' split) <;> simp

@[simp] theorem State.interruptRows_pending (s : State) (rows : List Nat) (clamp : Bool) : (State.interruptRows s rows
    clamp).pending = s.pending := by
  unfold State.interruptRows; simp

@[simp] theorem State.reverify_pending (s : State) (st : Nat) : (State.reverify s st).pending = s.pending := by
  unfold State.reverify
  (try dsimp only); (repeat' split) <;> simp

@[simp] theorem State.reverifyAll_pending (s : State) : s.reverifyAll.pending = s.pending := by
  unfold State.reverifyAll; simp

@[simp] theorem State.refuseCommit_pending (s : State) (w : WsetCfg) (st : Nat) (cause : Nat) : (State.refuseCommit s
    w st cause).pending = s.pending := by
  unfold State.refuseCommit; simp

@[simp] theorem State.commitJob_pending (s : State) (w : WsetCfg) (st : Nat) (taint : Nat) (rows : List Nat) (new :
    Nat → List Byte) : (State.commitJob s w st taint rows new).pending = s.pending := by
  unfold State.commitJob; simp

@[simp] theorem State.commitFrom_pending (s : State) (w : WsetCfg) (m : Nat) (k : Nat) (mode : Nat) :
    (State.commitFrom s w m k mode).pending = s.pending := by
  unfold State.commitFrom
  (try dsimp only); (repeat' split) <;> simp

@[simp] theorem State.reachLoft_pending (s : State) (off : Nat) (len : Nat) (f : State → State) (g : State → State)
    (h_f : ∀ x0, (f x0).pending = x0.pending) (h_g : ∀ x0, (g x0).pending = x0.pending) : (State.reachLoft s off len
    f g).pending = s.pending := by
  unfold State.reachLoft; simp [*]

@[simp] theorem State.commitUnrecorded_pending (s : State) : s.commitUnrecorded.pending = s.pending := by
  unfold State.commitUnrecorded
  split
  · with_reducible rfl
  · split
    · with_reducible rfl
    · rw [State.refuseCommit_pending]
      refine each_pending _ _ _ (fun x st => ?_)
      split
      · rw [State.stopProgram_pending, State.subWear_pending]
      · with_reducible rfl

@[simp] theorem State.wearRecorded_pending (s : State) (ok : Bool) : (State.wearRecorded s ok).pending = s.pending :=
    by
  unfold State.wearRecorded; simp

@[simp] theorem State.commitEnds_pending (s : State) (w : WsetCfg) (c : CommitSt) : (State.commitEnds s w c).pending
    = s.pending := by
  unfold State.commitEnds; simp

@[simp] theorem State.columnReject_pending (s : State) (st : Fin 96) (step : Nat) : (State.columnReject s st
    step).pending = s.pending := by
  unfold State.columnReject; simp

/-! Yard -/

@[simp] theorem State.setSlot_pending (s : State) (i : Nat) (x : YardSlot) : (State.setSlot s i x).pending =
    s.pending := by
  unfold State.setSlot; simp

@[simp] theorem State.syncVotes_pending (s : State) : s.syncVotes.pending = s.pending := by
  unfold State.syncVotes; simp

@[simp] theorem State.slotFault_pending (s : State) (i : Nat) (cause : Nat) : (State.slotFault s i cause).pending =
    s.pending := by
  unfold State.slotFault; simp

@[simp] theorem State.startRun_pending (s : State) (i : Nat) (miss : Bool) : (State.startRun s i miss).pending =
    s.pending := by
  unfold State.startRun
  (try dsimp only); (repeat' split) <;> simp

@[simp] theorem State.trigger_pending (s : State) (k : Nat) (x : Nat) : (State.trigger s k x).pending = s.pending :=
    by
  unfold State.trigger; simp

@[simp] theorem State.meet_pending (s : State) (k : Nat) (x : Nat) : (State.meet s k x).pending = s.pending := by
  unfold State.meet; simp

@[simp] theorem State.charge_pending (s : State) (i : Nat) (n : Nat) (f : State → State) (h_f : ∀ x0, (f x0).pending
    = x0.pending) : (State.charge s i n f).pending = s.pending := by
  unfold State.charge; simp [*]

@[simp] theorem State.instr_pending (s : State) (i : Nat) (op : Nat) (ok : Nat → Bool) (f : State → Nat → State) (h_f
    : ∀ x0 x1, (f x0 x1).pending = x0.pending) : (State.instr s i op ok f).pending = s.pending := by
  unfold State.instr; simp [*]

@[simp] theorem State.slotNext_pending (s : State) (i : Nat) (f : YardSlot → YardSlot) : (State.slotNext s i
    f).pending = s.pending := by
  unfold State.slotNext; simp

@[simp] theorem State.endWait_pending (s : State) (i : Nat) (k : Nat) (late : Bool) : (State.endWait s i k
    late).pending = s.pending := by
  unfold State.endWait; simp

@[simp] theorem State.sampleNow_pending (s : State) (i : Nat) (w : Nat) : (State.sampleNow s i w).pending = s.pending
    := by
  unfold State.sampleNow; simp

@[simp] theorem State.atData_pending (s : State) (i : Nat) (w : Nat) (f : State → Nat → State) (h_f : ∀ x0 x1, (f x0
    x1).pending = x0.pending) : (State.atData s i w f).pending = s.pending := by
  unfold State.atData; simp [*]

@[simp] theorem State.alu_pending (s : State) (i : Nat) (op : Nat) (cycles : Nat) (f : Word → Word → Word) :
    (State.alu s i op cycles f).pending = s.pending := by
  unfold State.alu; simp

@[simp] theorem State.serveUnit_pending (s : State) (net : Bool) : (State.serveUnit s net).pending = s.pending := by
  unfold State.serveUnit
  (try dsimp only); (repeat' split) <;> simp

@[simp] theorem State.dropWakes_pending (s : State) (i : Nat) : (State.dropWakes s i).pending = s.pending := by
  unfold State.dropWakes; simp

@[simp] theorem State.detect_pending (s : State) (i : Nat) (cls : Nat) (margin : Nat) : (State.detect s i cls
    margin).pending = s.pending := by
  unfold State.detect; simp

@[simp] theorem State.queueWake_pending (s : State) (i : Nat) : (State.queueWake s i).pending = s.pending := by
  unfold State.queueWake; simp

@[simp] theorem State.stallWake_pending (s : State) (i : Nat) : (State.stallWake s i).pending = s.pending := by
  unfold State.stallWake; simp

@[simp] theorem State.moveWake_pending (s : State) (i : Nat) (m : Mem) (off : Nat) (bytes : List Byte) :
    (State.moveWake s i m off bytes).pending = s.pending := by
  unfold State.moveWake; simp

@[simp] theorem State.wakeClr_pending (s : State) (v : Word) : (State.wakeClr s v).pending = s.pending := by
  unfold State.wakeClr; simp

@[simp] theorem State.yardRest_pending (s : State) : s.yardRest.pending = s.pending := by
  unfold State.yardRest; simp

@[simp] theorem State.yardStart_pending (s : State) : s.yardStart.pending = s.pending := by
  unfold State.yardStart; simp

@[simp] theorem State.patMatch_pending (s : State) (p : Nat) : (State.patMatch s p).pending = s.pending := by
  unfold State.patMatch; simp

@[simp] theorem State.intRises_pending (s : State) (p : Nat) (was : Bool) : (State.intRises s p was).pending =
    s.pending := by
  unfold State.intRises; simp

/-! Entries -/

@[simp] theorem State.setChan_pending (s : State) (c : Nat) (l : List MoveJob) : (State.setChan s c l).pending =
    s.pending := by
  unfold State.setChan; simp

@[simp] theorem State.passIssue_pending (s : State) (i : Nat) : (State.passIssue s i).pending = s.pending := by
  unfold State.passIssue; simp

@[simp] theorem State.moveErr_pending (s : State) (i : Nat) (status : Nat) : (State.moveErr s i status).pending =
    s.pending := by
  unfold State.moveErr; simp

@[simp] theorem State.invalidEntry_pending (s : State) (i : Nat) (e : List Byte) : (State.invalidEntry s i e).pending
    = s.pending := by
  unfold State.invalidEntry; simp

@[simp] theorem State.entryLost_pending (s : State) (i : Nat) : (State.entryLost s i).pending = s.pending := by
  unfold State.entryLost; simp

@[simp] theorem State.atEntry_pending (s : State) (i : Nat) (f : State → List Byte → State) (h_f : ∀ x0 x1, (f x0
    x1).pending = x0.pending) : (State.atEntry s i f).pending = s.pending := by
  unfold State.atEntry
  (try dsimp only); (repeat' split) <;> first | (simp; done) | (simp_all; done)

@[simp] theorem State.onEntry_pending (s : State) (i : Nat) (k : Nat) (f : State → List Byte → State) (h_f : ∀ x0 x1,
    (f x0 x1).pending = x0.pending) : (State.onEntry s i k f).pending = s.pending := by
  unfold State.onEntry; simp [*]

@[simp] theorem State.gated_pending (s : State) (i : Nat) (e : List Byte) (f : State → State) (h_f : ∀ x0, (f
    x0).pending = x0.pending) : (State.gated s i e f).pending = s.pending := by
  unfold State.gated; simp [*]

@[simp] theorem State.atOnce_pending (s : State) (i : Nat) (k : Nat) (f : State → List Byte → State) (h_f : ∀ x0 x1,
    (f x0 x1).pending = x0.pending) : (State.atOnce s i k f).pending = s.pending := by
  unfold State.atOnce; simp [*]

@[simp] theorem State.entryTally_pending (s : State) (i : Nat) (op : Nat) (k : TOp) : (State.entryTally s i op
    k).pending = s.pending := by
  unfold State.entryTally; simp

@[simp] theorem State.tileIssued_pending (s : State) (i : Nat) (cls : Nat) : (State.tileIssued s i cls).pending =
    s.pending := by
  unfold State.tileIssued; simp

@[simp] theorem State.issueTile_pending (s : State) (t0 : TileJob) (ready : State → State) (h_ready : ∀ x0, (ready
    x0).pending = x0.pending) : (State.issueTile s t0 ready).pending = s.pending := by
  unfold State.issueTile
  (try dsimp only); (repeat' split) <;> first | (simp; done) | (simp_all; done)

@[simp] theorem State.issueEntry_pending (s : State) (i : Nat) (e : List Byte) (t : TileJob) : (State.issueEntry s i
    e t).pending = s.pending := by
  unfold State.issueEntry; simp

@[simp] theorem State.dataTile_pending (s : State) (i : Nat) (m : Mem) (off : Nat) (bytes : List Byte) (taint : Nat)
    : (State.dataTile s i m off bytes taint).pending = s.pending := by
  unfold State.dataTile; simp

@[simp] theorem State.moveVotes_pending (s : State) : s.moveVotes.pending = s.pending := by
  unfold State.moveVotes; simp

@[simp] theorem State.moved_pending (s : State) (c : Nat) (j : MoveJob) (status : Nat) : (State.moved s c j
    status).pending = s.pending := by
  unfold State.moved; simp

@[simp] theorem State.moveFails_pending (s : State) (c : Nat) (j : MoveJob) (status : Nat) : (State.moveFails s c j
    status).pending = s.pending := by
  unfold State.moveFails; simp

@[simp] theorem State.runMove_pending (s : State) (c : Nat) (op : Nat) (rows : State → List Byte → Mem → Nat → Nat →
    List (Nat × List Byte × Nat)) : (State.runMove s c op rows).pending = s.pending := by
  unfold State.runMove
  (try dsimp only); (repeat' split) <;> simp

@[simp] theorem State.ringBell_pending (s : State) (m : Master) (v : Word) : (State.ringBell s m v).pending =
    s.pending := by
  unfold State.ringBell; simp

@[simp] theorem State.tlyWrite_pending (s : State) (op : Nat) (t : Nat) : (State.tlyWrite s op t).pending = s.pending
    := by
  unfold State.tlyWrite
  (try dsimp only); (repeat' split) <;> simp

/-! Barn -/

@[simp] theorem State.setBay_pending (s : State) (b : Nat) (x : BaySt) : (State.setBay s b x).pending = s.pending :=
    by
  unfold State.setBay; simp

@[simp] theorem State.showBays_pending (s : State) : s.showBays.pending = s.pending := by
  unfold State.showBays; simp

@[simp] theorem State.setOut_pending (s : State) (b : Nat) (line : Nat) (fixed : Bool) : (State.setOut s b line
    fixed).pending = s.pending := by
  unfold State.setOut; simp

@[simp] theorem State.setChanLine_pending (s : State) (b : Nat) (c : Nat) (line : Nat) : (State.setChanLine s b c
    line).pending = s.pending := by
  unfold State.setChanLine; simp

@[simp] theorem State.moveLine_pending (s : State) (b : Nat) (line : Nat) (fixed : Bool) : (State.moveLine s b line
    fixed).pending = s.pending := by
  unfold State.moveLine
  (try dsimp only); (repeat' split) <;> simp

@[simp] theorem State.putBay_pending (s : State) (b : Nat) (t : TileJob) : (State.putBay s b t).pending = s.pending :=
    by
  unfold State.putBay; simp

@[simp] theorem State.noBay_pending (s : State) (t : TileJob) : (State.noBay s t).pending = s.pending := by
  unfold State.noBay; simp

@[simp] theorem State.barnVotes_pending (s : State) : s.barnVotes.pending = s.pending := by
  unfold State.barnVotes; simp

@[simp] theorem State.endHint_pending (s : State) : s.endHint.pending = s.pending := by
  unfold State.endHint; simp

@[simp] theorem State.rebayOne_pending (s : State) (t : TileJob) : (State.rebayOne s t).pending = s.pending := by
  unfold State.rebayOne
  (try dsimp only); (repeat' split) <;> simp

@[simp] theorem State.serveBarn_pending (s : State) : s.serveBarn.pending = s.pending := by
  unfold State.serveBarn; simp

@[simp] theorem State.abandonBay_pending (s : State) (b : Nat) (timeout : Bool) : (State.abandonBay s b
    timeout).pending = s.pending := by
  unfold State.abandonBay; simp

@[simp] theorem State.freeBay_pending (s : State) (b : Nat) : (State.freeBay s b).pending = s.pending := by
  unfold State.freeBay; simp

@[simp] theorem State.endBayTile_pending (s : State) (b : Nat) (status : Nat) : (State.endBayTile s b status).pending
    = s.pending := by
  unfold State.endBayTile
  (try dsimp only); (repeat' split) <;> simp

@[simp] theorem State.rejectBay_pending (s : State) (b : Nat) (status : Nat) : (State.rejectBay s b status).pending =
    s.pending := by
  unfold State.rejectBay; simp

@[simp] theorem State.onBay_pending (s : State) (b : Nat) (op : Nat) (f : State → TileJob → Desc → State) (h_f : ∀ x0
    x1 x2, (f x0 x1 x2).pending = x0.pending) : (State.onBay s b op f).pending = s.pending := by
  unfold State.onBay
  (try dsimp only); (repeat' split) <;> first | (simp; done) | (simp_all; done)

@[simp] theorem State.bayDone_pending (s : State) (b : Nat) (t : TileJob) (d : Desc) : (State.bayDone s b t
    d).pending = s.pending := by
  unfold State.bayDone; simp

@[simp] theorem State.loadMap_pending (s : State) (b : Nat) (m : Nat) : (State.loadMap s b m).pending = s.pending :=
    by
  unfold State.loadMap; simp

@[simp] theorem State.runBarn_pending (s : State) (b : Nat) (t : TileJob) (d : Desc) : (State.runBarn s b t
    d).pending = s.pending := by
  unfold State.runBarn; simp

@[simp] theorem State.issueBarn_pending (s : State) (i : Nat) (e : List Byte) (t : TileJob) : (State.issueBarn s i e
    t).pending = s.pending := by
  unfold State.issueBarn
  (try dsimp only); (repeat' split) <;> simp

@[simp] theorem State.tileEntry_pending (s : State) (i : Nat) (f : State → List Byte → TileJob → State) (h_f : ∀ x0
    x1 x2, (f x0 x1 x2).pending = x0.pending) : (State.tileEntry s i f).pending = s.pending := by
  unfold State.tileEntry; simp [*]

@[simp] theorem State.beginStep_pending (s : State) (b : Nat) (lost : Option Nat) : (State.beginStep s b
    lost).pending = s.pending := by
  unfold State.beginStep; simp

@[simp] theorem State.beginMove_pending (s : State) (b : Nat) : (State.beginMove s b).pending = s.pending := by
  unfold State.beginMove; simp

@[simp] theorem State.serveSteps_pending (s : State) : s.serveSteps.pending = s.pending := by
  unfold State.serveSteps
  (try dsimp only); (repeat' split) <;> simp

@[simp] theorem State.stepDue_pending (s : State) (b : Nat) : (State.stepDue s b).pending = s.pending := by
  unfold State.stepDue; simp

@[simp] theorem State.stepOver_pending (s : State) (b : Nat) (last : Nat) : (State.stepOver s b last).pending =
    s.pending := by
  unfold State.stepOver; simp

@[simp] theorem State.endStep_pending (s : State) (b : Nat) (last : Nat) : (State.endStep s b last).pending =
    s.pending := by
  unfold State.endStep; simp

@[simp] theorem State.abandonStep_pending (s : State) (b : Nat) : (State.abandonStep s b).pending = s.pending := by
  unfold State.abandonStep; simp

@[simp] theorem State.abandonSteps_pending (s : State) : s.abandonSteps.pending = s.pending := by
  unfold State.abandonSteps; simp

@[simp] theorem State.sweepAbandon_pending (s : State) : s.sweepAbandon.pending = s.pending := by
  unfold State.sweepAbandon; simp

@[simp] theorem State.calTaken_pending (s : State) (e : CalElem) : (State.calTaken s e).pending = s.pending := by
  unfold State.calTaken; simp

@[simp] theorem State.barnAgain_pending (s : State) : s.barnAgain.pending = s.pending := by
  unfold State.barnAgain; simp

@[simp] theorem State.firstLoss_pending (s : State) (stage : Nat) (b : Nat) (el : Nat) : (State.firstLoss s stage b
    el).pending = s.pending := by
  unfold State.firstLoss; simp

@[simp] theorem State.takeOut_pending (s : State) (b : Nat) : (State.takeOut s b).pending = s.pending := by
  unfold State.takeOut; simp

@[simp] theorem State.lineLost_pending (s : State) (b : Nat) (n : Nat) (comb : Bool) : (State.lineLost s b n
    comb).pending = s.pending := by
  unfold State.lineLost; simp

@[simp] theorem State.maskColumn_pending (s : State) (b : Nat) (m : Nat) : (State.maskColumn s b m).pending =
    s.pending := by
  unfold State.maskColumn; simp

@[simp] theorem State.loss_pending (s : State) (l : Loss) : (State.loss s l).pending = s.pending := by
  unfold State.loss; simp

@[simp] theorem State.losses_pending (s : State) (l : List Loss) : (State.losses s l).pending = s.pending := by
  unfold State.losses; simp

@[simp] theorem State.unlockRing_pending (s : State) (r : Nat) : (State.unlockRing s r).pending = s.pending := by
  unfold State.unlockRing; simp

@[simp] theorem State.combUp_pending (s : State) : s.combUp.pending = s.pending := by
  unfold State.combUp; simp

@[simp] theorem State.barnUp_pending (s : State) (missing : List Nat) : (State.barnUp s missing).pending = s.pending
    := by
  unfold State.barnUp; simp

@[simp] theorem State.setGains_pending (s : State) (k : Nat) (l : List (BitVec 16)) : (State.setGains s k l).pending
    = s.pending := by
  unfold State.setGains; simp

@[simp] theorem State.setPoints_pending (s : State) (l : List RingMeas) : (State.setPoints s l).pending = s.pending :=
    by
  unfold State.setPoints; simp

@[simp] theorem State.fullSweep_pending (s : State) (m : SweepMeas) : (State.fullSweep s m).pending = s.pending := by
  unfold State.fullSweep; simp

@[simp] theorem State.sweepRejected_pending (s : State) : s.sweepRejected.pending = s.pending := by
  unfold State.sweepRejected; simp

@[simp] theorem State.barnFails_pending (s : State) : s.barnFails.pending = s.pending := by
  unfold State.barnFails; simp

@[simp] theorem State.combLost_pending (s : State) : s.combLost.pending = s.pending := by
  unfold State.combLost; simp

@[simp] theorem State.loadMaps_pending (s : State) (b : List Byte) : (State.loadMaps s b).pending = s.pending := by
  unfold State.loadMaps; simp

@[simp] theorem State.toPart_pending (s : State) (b : Nat) (p : StepPart) : (State.toPart s b p).pending = s.pending
    := by
  unfold State.toPart; simp

@[simp] theorem State.stepRejected_pending (s : State) (b : Nat) (last : Nat) : (State.stepRejected s b last).pending
    = s.pending := by
  unfold State.stepRejected; simp

/-! Regs -/

@[simp] theorem State.readReg_pending (s : State) (m : Master) (a : Nat) : (State.readReg s m a).1.pending =
    s.pending := by
  unfold State.readReg
  refine withReg_fst_pending _ _ _ (fun r i => ?_)
  split
  · rfl
  · split
    · rfl
    · exact when_pending _ _ _ (fun x => State.setReg_pending ..)

@[simp] theorem State.atMem_pending (s : State) (a : Nat) (x : StalledAcc) (f : State → Mem → Nat → State) (g : State
    → State) (h_f : ∀ x0 x1 x2, (f x0 x1 x2).pending = x0.pending) (h_g : ∀ x0, (g x0).pending = x0.pending) :
    (State.atMem s a x f g).pending = s.pending := by
  unfold State.atMem
  (try dsimp only); (repeat' split) <;> simp [*]

@[simp] theorem State.finishWrite_pending (s : State) (m : Master) : (State.finishWrite s m).pending = s.pending := by
  unfold State.finishWrite; simp

@[simp] theorem State.memRead_pending (s : State) (m : Master) (a : Nat) : (State.memRead s m a).pending = s.pending
    := by
  unfold State.memRead; simp

@[simp] theorem State.memWrite_pending (s : State) (m : Master) (a : Nat) (v : Word) : (State.memWrite s m a
    v).pending = s.pending := by
  unfold State.memWrite; simp

@[simp] theorem State.readAs_pending (s : State) (m : Master) (a : Nat) : (State.readAs s m a).pending = s.pending :=
    by
  unfold State.readAs; simp

@[simp] theorem State.warmReq_pending (s : State) (v : Word) : (State.warmReq s v).pending = s.pending := by
  unfold State.warmReq; simp

@[simp] theorem State.stwVotes_pending (s : State) (hi : Bool) (v : Word) : (State.stwVotes s hi v).pending =
    s.pending := by
  unfold State.stwVotes; simp

@[simp] theorem State.writeWo_pending (s : State) (m : Master) (r : RegDef) (i : Nat) (v : Word) : (State.writeWo s m
    r i v).pending = s.pending := by
  unfold State.writeWo; simp

@[simp] theorem State.writeReg_pending (s : State) (m : Master) (a : Nat) (v : Word) :
    (State.writeReg s m a v).pending = s.pending := by
  unfold State.writeReg
  refine withReg_pending _ _ _ (fun r i => ?_)
  simp

@[simp] theorem State.writeAt_pending (s : State) (m : Master) (a : Nat) (v : Word) : (State.writeAt s m a v).pending
    = s.pending := by
  unfold State.writeAt; simp

@[simp] theorem State.mbAnswer_pending (s : State) (seq : Byte) (cmd : Nat) (st : Nat) : (State.mbAnswer s seq cmd
    st).pending = s.pending := by
  unfold State.mbAnswer; simp

@[simp] theorem State.mbAct_pending (s : State) (seq : Byte) (cmd : Nat) (ok : Bool) (f : State → State) (h_f : ∀ x0,
    (f x0).pending = x0.pending) : (State.mbAct s seq cmd ok f).pending = s.pending := by
  unfold State.mbAct; simp [*]

@[simp] theorem State.mbCmd_pending (s : State) (seq : Byte) (cmd : Nat) : (State.mbCmd s seq cmd).pending = s.pending
    := by
  unfold State.mbCmd
  (try dsimp only); (repeat' split) <;> simp

@[simp] theorem State.ackTo_pending (s : State) (i : Nat) : (State.ackTo s i).pending = s.pending := by
  unfold State.ackTo; simp

@[simp] theorem State.recAck_pending (s : State) (v : Word) : (State.recAck s v).pending = s.pending := by
  unfold State.recAck; simp

@[simp] theorem State.bar0Write_pending (s : State) (o : Nat) (v : Word) : (State.bar0Write s o v).pending =
    s.pending := by
  unfold State.bar0Write; simp

@[simp] theorem State.popNotify_pending (s : State) : (State.popNotify s).1.pending = s.pending := by
  unfold State.popNotify
  (try dsimp only); (repeat' split) <;> simp

@[simp] theorem State.bar0Read_pending (s : State) (o : Nat) : (State.bar0Read s o).pending = s.pending := by
  unfold State.bar0Read
  (try dsimp only); (repeat' split) <;> simp

/-! Link -/

@[simp] theorem State.showLive_pending (s : State) (mask : Nat) : (State.showLive s mask).pending = s.pending := by
  unfold State.showLive; simp

@[simp] theorem State.armRing_pending (s : State) (i : Nat) (empty : Bool) : (State.armRing s i empty).pending =
    s.pending := by
  unfold State.armRing; simp

@[simp] theorem State.disarmRing_pending (s : State) (i : Nat) : (State.disarmRing s i).pending = s.pending := by
  unfold State.disarmRing; simp

@[simp] theorem State.rearmRing_pending (s : State) (i : Nat) : (State.rearmRing s i).pending = s.pending := by
  unfold State.rearmRing; simp

@[simp] theorem State.showHeld_pending (s : State) (p : Nat) : (State.showHeld s p).pending = s.pending := by
  unfold State.showHeld; simp

@[simp] theorem State.setHeld_pending (s : State) (p : Nat) (l : List TxFrame) : (State.setHeld s p l).pending =
    s.pending := by
  unfold State.setHeld; simp

@[simp] theorem State.enqueue_pending (s : State) (p : Nat) (f : TxFrame) : (State.enqueue s p f).pending = s.pending
    := by
  unfold State.enqueue; simp

@[simp] theorem State.countFrame_pending (s : State) : s.countFrame.pending = s.pending := by
  unfold State.countFrame; simp

@[simp] theorem State.sendTo_pending (s : State) (type : Nat) (taint : Nat) (channel : Nat) (dst : Nat) (payload :
    List Byte) : (State.sendTo s type taint channel dst payload).pending = s.pending := by
  unfold State.sendTo; simp

@[simp] theorem State.broadcast_pending (s : State) (type : Nat) (payload : List Byte) : (State.broadcast s type
    payload).pending = s.pending := by
  unfold State.broadcast; simp

@[simp] theorem State.moveFrames_pending (s : State) (p : Nat) : (State.moveFrames s p).pending = s.pending := by
  unfold State.moveFrames; simp

@[simp] theorem State.portDown_pending (s : State) (p : Nat) : (State.portDown s p).pending = s.pending := by
  unfold State.portDown; simp

@[simp] theorem State.linkKeyless_pending (s : State) : s.linkKeyless.pending = s.pending := by
  unfold State.linkKeyless; simp

@[simp] theorem State.linkDrop_pending (s : State) : s.linkDrop.pending = s.pending := by
  unfold State.linkDrop; simp

@[simp] theorem State.linkUp_pending (s : State) : s.linkUp.pending = s.pending := by
  unfold State.linkUp; simp

@[simp] theorem State.armChannel_pending (s : State) (c : Nat) : (State.armChannel s c).pending = s.pending := by
  unfold State.armChannel; simp

@[simp] theorem State.linkVote_pending (s : State) (d : Nat) (v : Nat) : (State.linkVote s d v).pending = s.pending
    := by
  unfold State.linkVote; simp

@[simp] theorem State.linkReach_pending (s : State) (d : Nat) (f : State → State) (g : State → State) (h_f : ∀ x0, (f
    x0).pending = x0.pending) (h_g : ∀ x0, (g x0).pending = x0.pending) : (State.linkReach s d f g).pending =
    s.pending := by
  unfold State.linkReach; simp [*]

@[simp] theorem State.endChannel_pending (s : State) (c : Nat) (last : Nat) : (State.endChannel s c last).pending =
    s.pending := by
  unfold State.endChannel; simp

@[simp] theorem State.refuseChannel_pending (s : State) (c : Nat) (cause : Nat) : (State.refuseChannel s c
    cause).pending = s.pending := by
  unfold State.refuseChannel; simp

@[simp] theorem State.sendPlots_pending (s : State) (c n j : Nat) : (s.sendPlots c n j).pending = s.pending := by
  induction n generalizing s j with
  | zero => simp [State.sendPlots]
  | succ n ih =>
    unfold State.sendPlots
    (try dsimp only); split <;> simp [ih]

@[simp] theorem State.frameAcked_pending (s : State) (f : TxFrame) : (State.frameAcked s f).pending = s.pending := by
  unfold State.frameAcked; simp

@[simp] theorem State.resend_pending (s : State) (p : Nat) (n : Nat) : (State.resend s p n).pending = s.pending := by
  unfold State.resend; simp

@[simp] theorem State.forward_pending (s : State) (p : Nat) (type : Nat) (f : LinkFrame) : (State.forward s p type
    f).pending = s.pending := by
  unfold State.forward; simp

@[simp] theorem State.receive_pending (s : State) (p : Nat) (type : Nat) (f : LinkFrame) (act : State → State) (h_act
    : ∀ x0, (act x0).pending = x0.pending) : (State.receive s p type f act).pending = s.pending := by
  unfold State.receive; simp [*]

@[simp] theorem State.importReject_pending (s : State) (f : LinkFrame) (cause : Nat) : (State.importReject s f
    cause).pending = s.pending := by
  unfold State.importReject; simp

@[simp] theorem State.importData_pending (s : State) (plot : Nat) (f : LinkFrame) : (State.importData s plot
    f).pending = s.pending := by
  unfold State.importData; simp

@[simp] theorem State.sendHeartbeat_pending (s : State) : s.sendHeartbeat.pending = s.pending := by
  unfold State.sendHeartbeat; simp

@[simp] theorem State.takeJob_pending (s : State) (j : JobCfg) (f : State → Nat → State) (h_f : ∀ x0 x1, (f x0
    x1).pending = x0.pending) : (State.takeJob s j f).pending = s.pending := by
  unfold State.takeJob; simp [*]

@[simp] theorem State.takeOver_pending (s : State) (j : JobCfg) : (State.takeOver s j).pending = s.pending := by
  unfold State.takeOver; simp

@[simp] theorem State.jobRings_pending (s : State) (j : JobCfg) (has : Bool) : (State.jobRings s j has).pending =
    s.pending := by
  unfold State.jobRings; simp

@[simp] theorem State.loseJob_pending (s : State) (j : JobCfg) (live : Bool) (has : Bool) : (State.loseJob s j live
    has).pending = s.pending := by
  unfold State.loseJob; simp

@[simp] theorem State.gainJob_pending (s : State) (new : Nat) (has : Bool) (prev : Option Nat) (j : JobCfg) :
    (State.gainJob s new has prev j).pending = s.pending := by
  unfold State.gainJob; simp

@[simp] theorem State.reown_pending (s : State) (new : Nat) (has : Bool) (prev : Option Nat) (j : JobCfg) :
    (State.reown s new has prev j).pending = s.pending := by
  unfold State.reown; simp

@[simp] theorem State.applyLive_pending (s : State) (before : Nat) (new : Nat) : (State.applyLive s before
    new).pending = s.pending := by
  unfold State.applyLive; simp

@[simp] theorem State.announce_pending (s : State) (new : Nat) : (State.announce s new).pending = s.pending := by
  unfold State.announce; simp

@[simp] theorem State.takeIn_pending (s : State) (chip : Nat) (digest : Nat) (joining : Bool) : (State.takeIn s chip
    digest joining).pending = s.pending := by
  unfold State.takeIn; simp

@[simp] theorem State.released_pending (s : State) (j : JobCfg) : (State.released s j).pending = s.pending := by
  unfold State.released; simp

/-! Host -/

@[simp] theorem State.mailbox_pending (s : State) (seq : Byte) (cmd : Nat) (args : List Nat) : (State.mailbox s seq
    cmd args).pending = s.pending := by
  unfold State.mailbox; simp

@[simp] theorem State.windowWrite_pending (s : State) (off : Nat) (data : List Byte) : (State.windowWrite s off
    data).pending = s.pending := by
  unfold State.windowWrite; simp

@[simp] theorem State.windowFails_pending (s : State) (off : Nat) (data : List Byte) : (State.windowFails s off
    data).pending = s.pending := by
  unfold State.windowFails; simp

@[simp] theorem State.windowAccess_pending (s : State) (off : Nat) (data : List Byte) : (State.windowAccess s off
    data).pending = s.pending := by
  unfold State.windowAccess; simp

@[simp] theorem State.resume_pending (s : State) (x : StalledAcc) : (s.resume x).pending = s.pending := by
  cases x <;> simp [State.resume]

@[simp] theorem State.serveStalled_pending (s : State) (d : Nat) : (State.serveStalled s d).pending = s.pending := by
  unfold State.serveStalled; simp

@[simp] theorem State.portAnswers_pending (s : State) (o : SmallPort) (n : Nat) (f : State → State) (h_f : ∀ x0, (f
    x0).pending = x0.pending) : (State.portAnswers s o n f).pending = s.pending := by
  unfold State.portAnswers; simp [*]

/-! Rail -/

@[simp] theorem State.showPeriod_pending (s : State) (p : RailPeriod) : (State.showPeriod s p).pending = s.pending :=
    by
  unfold State.showPeriod; simp

@[simp] theorem State.leaveLight_pending (s : State) : s.leaveLight.pending = s.pending := by
  unfold State.leaveLight; simp

@[simp] theorem State.shed_pending (s : State) (n : Nat) : (State.shed s n).pending = s.pending := by
  unfold State.shed; simp

@[simp] theorem State.makeBlind_pending (s : State) (n : Nat) : (State.makeBlind s n).pending = s.pending := by
  unfold State.makeBlind; simp

@[simp] theorem State.shedBlind_pending (s : State) : s.shedBlind.pending = s.pending := by
  unfold State.shedBlind; simp

@[simp] theorem State.clampRail_pending (s : State) : s.clampRail.pending = s.pending := by
  unfold State.clampRail; simp

@[simp] theorem State.phaseLoss_pending (s : State) : s.phaseLoss.pending = s.pending := by
  unfold State.phaseLoss; simp

@[simp] theorem State.isenReject_pending (s : State) (n : Fin 4) : (State.isenReject s n).pending = s.pending := by
  unfold State.isenReject; simp

@[simp] theorem State.isenEnds_pending (s : State) (n : Fin 4) (m : IsenMeas) : (State.isenEnds s n m).pending =
    s.pending := by
  unfold State.isenEnds; simp

@[simp] theorem State.softStart_pending (s : State) : s.softStart.pending = s.pending := by
  unfold State.softStart; simp

@[simp] theorem State.phaseCalibrated_pending (s : State) (n : Fin 4) : (State.phaseCalibrated s n).pending =
    s.pending := by
  unfold State.phaseCalibrated; simp

@[simp] theorem State.railUp_pending (s : State) : s.railUp.pending = s.pending := by
  unfold State.railUp; simp

@[simp] theorem State.railEnable_pending (s : State) (meas : List (Fin 4 × IsenMeas)) : (State.railEnable s
    meas).pending = s.pending := by
  unfold State.railEnable; simp

/-! Area -/

@[simp] theorem State.beginWrite_pending (s : State) (b : Nat) (again : Bool) : (State.beginWrite s b again).pending
    = s.pending := by
  unfold State.beginWrite; simp

@[simp] theorem State.startWrite_pending (s : State) : s.startWrite.pending = s.pending := by
  unfold State.startWrite; simp

/-! Supply -/

@[simp] theorem State.showRail_pending (s : State) (rail : Rail) (code : Nat) (min? : Bool) : (State.showRail s rail
    code min?).pending = s.pending := by
  unfold State.showRail
  (try dsimp only); (repeat' split) <;> simp

@[simp] theorem State.sampleRails_pending (s : State) : s.sampleRails.pending = s.pending := by
  unfold State.sampleRails; simp

@[simp] theorem State.setWarn_pending (s : State) (rail : Rail) (b : Bool) : (State.setWarn s rail b).pending =
    s.pending := by
  unfold State.setWarn; simp

@[simp] theorem State.warn_pending (s : State) (rail : Rail) (code : Nat) : (State.warn s rail code).pending =
    s.pending := by
  unfold State.warn; simp

@[simp] theorem State.countBrace_pending (s : State) : s.countBrace.pending = s.pending := by
  unfold State.countBrace; simp

@[simp] theorem State.storm_pending (s : State) : s.storm.pending = s.pending := by
  unfold State.storm; simp

@[simp] theorem State.braceHolds_pending (s : State) : s.braceHolds.pending = s.pending := by
  unfold State.braceHolds; simp

@[simp] theorem State.runDeferred_pending (s : State) : s.runDeferred.pending = s.pending := by
  unfold State.runDeferred
  exact each_pending _ _ _ fun x d => by cases d <;> simp

@[simp] theorem State.braceEnds_pending (s : State) : s.braceEnds.pending = s.pending := by
  unfold State.braceEnds; simp

@[simp] theorem State.braceOver_pending (s : State) (low : Nat) : (State.braceOver s low).pending = s.pending := by
  unfold State.braceOver; simp

@[simp] theorem State.classify_pending (s : State) (b : Bank) (c : Nat) : (State.classify s b c).pending = s.pending
    := by
  unfold State.classify; simp

@[simp] theorem State.nvmReads_pending (s : State) (b : Bool) : (State.nvmReads s b).pending = s.pending := by
  unfold State.nvmReads; simp

/-! Power -/

@[simp] theorem State.notifyBusy_pending (s : State) : s.notifyBusy.pending = s.pending := by
  unfold State.notifyBusy
  first
    | (simp [*]; done)
    | ((try dsimp only); (repeat' split) <;> first | (simp [*]; done) | (simp_all; done))
    | (repeat' first
        | with_reducible rfl
        | (simp [*]; done)
        | split
        | refine (each_pending _ _ _ (fun _ _ => ?_)).trans ?_
        | refine (when_pending _ _ _ (fun _ => ?_)).trans ?_
        | (simp [*]))

@[simp] theorem State.commitStep_pending (s : State) (q : ChipReq) : (State.commitStep s q).pending = s.pending := by
  unfold State.commitStep; simp

@[simp] theorem State.clearLatches_pending (s : State) : s.clearLatches.pending = s.pending := by
  unfold State.clearLatches; simp

@[simp] theorem State.settleState_pending (s : State) (n : Nat) : (State.settleState s n).pending = s.pending := by
  unfold State.settleState; simp

@[simp] theorem State.enterState_pending (s : State) (n : Nat) (cause : Nat) (fly : Option ChipReq) :
    (State.enterState s n cause fly).pending = s.pending := by
  unfold State.enterState; simp

@[simp] theorem State.rowReady_pending (s : State) (d : Nat) : (State.rowReady s d).pending = s.pending := by
  unfold State.rowReady; simp

@[simp] theorem State.calsAgain_pending (s : State) : s.calsAgain.pending = s.pending := by
  unfold State.calsAgain; simp

@[simp] theorem State.domainUp_pending (s : State) (d : Nat) : (State.domainUp s d).pending = s.pending := by
  unfold State.domainUp; simp

@[simp] theorem State.ready_pending (s : State) (d : Nat) (lvl : Nat) : (State.ready s d lvl).pending = s.pending := by
  unfold State.ready; simp

@[simp] theorem State.cutTile_pending (s : State) (st : Nat) : (State.cutTile s st).pending = s.pending := by
  unfold State.cutTile
  (try dsimp only); (repeat' split) <;> simp

@[simp] theorem State.rowDrop_pending (s : State) (d : Nat) (lvl : Nat) : (State.rowDrop s d lvl).pending = s.pending
    := by
  unfold State.rowDrop; simp

@[simp] theorem State.emptyRings_pending (s : State) (d : Nat) : (State.emptyRings s d).pending = s.pending := by
  unfold State.emptyRings; simp

@[simp] theorem State.coreDrop_pending (s0 : State) : s0.coreDrop.pending = s0.pending := by
  unfold State.coreDrop; simp

@[simp] theorem State.domainDown_pending (s : State) (d : Nat) (lvl : Nat) : (State.domainDown s d lvl).pending =
    s.pending := by
  unfold State.domainDown; simp

@[simp] theorem State.railIdle_pending (s : State) : s.railIdle.pending = s.pending := by
  unfold State.railIdle; simp

@[simp] theorem State.domainFails_pending (s : State) (d : Nat) : (State.domainFails s d).pending = s.pending := by
  unfold State.domainFails
  dsimp only
  rw [State.recompute_pending, State.serveStalled_pending, State.serveReissues_pending]
  refine (when_pending _ _ _ (fun x => ?_)).trans ?_
  · simp
  refine (when_pending _ _ _ (fun x => ?_)).trans ?_
  · exact each_pending _ _ _ (fun y m => when_pending _ _ _ (fun z => by simp))
  refine (when_pending _ _ _ (fun x => ?_)).trans ?_
  · exact each_pending _ _ _ (fun y m => by simp)
  simp

@[simp] theorem State.wakeActs_pending (s : State) (src : Nat) : (State.wakeActs s src).pending = s.pending := by
  unfold State.wakeActs; simp

@[simp] theorem State.levelWake_pending (s : State) (src : Nat) : (State.levelWake s src).pending = s.pending := by
  unfold State.levelWake; simp

@[simp] theorem State.wakeRises_pending (s : State) : s.wakeRises.pending = s.pending := by
  unfold State.wakeRises
  (try dsimp only); (repeat' split) <;> simp

@[simp] theorem State.readWake_pending (s : State) (was : Bool) : (State.readWake s was).pending = s.pending := by
  unfold State.readWake; simp

@[simp] theorem State.sampleWakes_pending (s : State) : s.sampleWakes.pending = s.pending := by
  unfold State.sampleWakes; simp

/-! Load -/

@[simp] theorem State.writeLoad_pending (s : State) (b : List Byte) (r : List Byte) : (State.writeLoad s b r).pending
    = s.pending := by
  unfold State.writeLoad; simp

@[simp] theorem State.loadHeads_pending (s : State) (b : List Byte) : (State.loadHeads s b).pending = s.pending := by
  unfold State.loadHeads; simp

@[simp] theorem State.ringFields_pending (s : State) (r : List Byte) : (State.ringFields s r).pending = s.pending :=
    by
  unfold State.ringFields; simp

@[simp] theorem State.loadRing_pending (s : State) (r : List Byte) : (State.loadRing s r).pending = s.pending := by
  unfold State.loadRing; simp

@[simp] theorem State.loadTallies_pending (s : State) (b : List Byte) : (State.loadTallies s b).pending = s.pending
    := by
  unfold State.loadTallies; simp

@[simp] theorem State.restoreChains_pending (s : State) (b : List Byte) : (State.restoreChains s b).pending =
    s.pending := by
  unfold State.restoreChains; simp

@[simp] theorem State.loadChains_pending (s : State) (b : List Byte) : (State.loadChains s b).pending = s.pending :=
    by
  unfold State.loadChains; simp

@[simp] theorem State.armHead_pending (s : State) (yard : Bool) (e : List Byte) : (State.armHead s yard e).pending =
    s.pending := by
  unfold State.armHead; simp

@[simp] theorem State.loadHead_pending (s : State) (e : List Byte) : (State.loadHead s e).pending = s.pending := by
  unfold State.loadHead; simp

@[simp] theorem State.fillHead_pending (s : State) (e : List Byte) : (State.fillHead s e).pending = s.pending := by
  unfold State.fillHead; simp

@[simp] theorem State.policyFields_pending (s : State) (b : List Byte) : (State.policyFields s b).pending = s.pending
    := by
  unfold State.policyFields; simp

@[simp] theorem State.armHeads_pending (s : State) (b : List Byte) : (State.armHeads s b).pending = s.pending := by
  unfold State.armHeads; simp

@[simp] theorem State.restorePolicy_pending (s : State) (b : List Byte) : (State.restorePolicy s b).pending =
    s.pending := by
  unfold State.restorePolicy; simp

@[simp] theorem State.loadPolicy_pending (s : State) (b : List Byte) (cold : Bool) : (State.loadPolicy s b
    cold).pending = s.pending := by
  unfold State.loadPolicy; simp

@[simp] theorem State.loadAlarms_pending (s : State) (b : List Byte) : (State.loadAlarms s b).pending = s.pending :=
    by
  unfold State.loadAlarms; simp

@[simp] theorem State.yardLoad_pending (s : State) (off : Nat) (bs : List Byte) : (State.yardLoad s off bs).pending =
    s.pending := by
  unfold State.yardLoad; simp

@[simp] theorem State.loadWatchMem_pending (s : State) (b : List Byte) : (State.loadWatchMem s b).pending = s.pending
    := by
  unfold State.loadWatchMem; simp

@[simp] theorem State.loadSlot_pending (s : State) (good : Bool) (e : List Byte) : (State.loadSlot s good e).pending
    = s.pending := by
  unfold State.loadSlot; simp

@[simp] theorem State.loadWatch_pending (s : State) (b : List Byte) (chains : List Byte) : (State.loadWatch s b
    chains).pending = s.pending := by
  unfold State.loadWatch; simp

@[simp] theorem State.loadPatMem_pending (s : State) (b : List Byte) (watch : List Byte) : (State.loadPatMem s b
    watch).pending = s.pending := by
  unfold State.loadPatMem; simp

@[simp] theorem State.loadPat_pending (s : State) (good : Bool) (e : List Byte) : (State.loadPat s good e).pending =
    s.pending := by
  unfold State.loadPat; simp

@[simp] theorem State.loadPats_pending (s : State) (b : List Byte) (watch : List Byte) : (State.loadPats s b
    watch).pending = s.pending := by
  unfold State.loadPats; simp

@[simp] theorem State.loadScripts_pending (s : State) (b : List Byte) : (State.loadScripts s b).pending = s.pending
    := by
  unfold State.loadScripts; simp

@[simp] theorem State.loadSets_pending (s : State) (b : List Byte) : (State.loadSets s b).pending = s.pending := by
  unfold State.loadSets; simp

@[simp] theorem State.loadMapping_pending (s : State) (b : List Byte) (log : Bool) : (State.loadMapping s b
    log).pending = s.pending := by
  unfold State.loadMapping; simp

@[simp] theorem State.checkNums_pending (s : State) (log : Bool) : (State.checkNums s log).pending = s.pending := by
  unfold State.checkNums; simp

@[simp] theorem State.camOff_pending (s : State) (p : Nat) : (State.camOff s p).pending = s.pending := by
  unfold State.camOff; simp

@[simp] theorem State.checkCams_pending (s : State) : s.checkCams.pending = s.pending := by
  unfold State.checkCams; simp

@[simp] theorem State.checkReserved_pending (s : State) (log : Bool) : (State.checkReserved s log).pending =
    s.pending := by
  unfold State.checkReserved; simp

@[simp] theorem State.checkC0_pending (s : State) (log : Bool) : (State.checkC0 s log).pending = s.pending := by
  unfold State.checkC0; simp

/-! Start -/

@[simp] theorem State.keepRegs_pending (s : State) (keep : RegDef → Word) : (State.keepRegs s keep).pending =
    s.pending := by
  unfold State.keepRegs; simp

@[simp] theorem State.keepParts_pending (s : State) (c : Nat) : (State.keepParts s c).pending = s.pending := by
  unfold State.keepParts; simp

@[simp] theorem State.spanT0_pending (s : State) (c : Nat) : (State.spanT0 s c).pending = s.pending := by
  unfold State.spanT0; simp

@[simp] theorem State.bootT0_pending (s : State) (c : Nat) : (State.bootT0 s c).pending = s.pending := by
  unfold State.bootT0; simp

@[simp] theorem State.selectSlot_pending (s : State) : s.selectSlot.pending = s.pending := by
  unfold State.selectSlot; simp

@[simp] theorem State.showStart_pending (s : State) (env : StartEnv) (c : Nat) (prev : Nat) : (State.showStart s env
    c prev).pending = s.pending := by
  unfold State.showStart; simp

@[simp] theorem State.beginStart_pending (s : State) (env : StartEnv) : (State.beginStart s env).pending = s.pending
    := by
  unfold State.beginStart; simp

@[simp] theorem State.startOn_pending (s : State) (bad : List (Fin 24)) (ds : List Nat) : (State.startOn s bad
    ds).pending = s.pending := by
  unfold State.startOn; simp

@[simp] theorem State.countFail_pending (s : State) : s.countFail.pending = s.pending := by
  unfold State.countFail; simp

@[simp] theorem State.startFails_pending (s : State) : s.startFails.pending = s.pending := by
  unfold State.startFails; simp

@[simp] theorem State.enterHold_pending (s : State) (bad : List (Fin 24)) (cause : Nat) : (State.enterHold s bad
    cause).pending = s.pending := by
  unfold State.enterHold; simp

@[simp] theorem State.powerLoss_pending (s0 : State) : s0.powerLoss.pending = s0.pending := by
  unfold State.powerLoss; simp

/-! Boot -/

@[simp] theorem State.stepDone_pending (s : State) (k : Nat) : (State.stepDone s k).pending = s.pending := by
  unfold State.stepDone; simp

@[simp] theorem State.stepBegun_pending (s : State) (k : Nat) : (State.stepBegun s k).pending = s.pending := by
  unfold State.stepBegun; simp

@[simp] theorem State.spanStarts_pending (s : State) (rc : Word) : (State.spanStarts s rc).pending = s.pending := by
  unfold State.spanStarts; simp

@[simp] theorem State.start2_pending (s : State) (env : StartEnv) : (State.start2 s env).pending = s.pending := by
  unfold State.start2; simp

@[simp] theorem State.makeIdentity_pending (s : State) : s.makeIdentity.pending = s.pending := by
  unfold State.makeIdentity
  (try dsimp only); (repeat' split) <;> simp

@[simp] theorem State.start3_pending (s : State) (env : StartEnv) : (State.start3 s env).pending = s.pending := by
  unfold State.start3; simp

@[simp] theorem State.holdCheck_pending (s : State) (bad : List (Fin 24)) : (State.holdCheck s bad).pending =
    s.pending := by
  unfold State.holdCheck; simp

@[simp] theorem State.start4_pending (s : State) (env : StartEnv) : (State.start4 s env).pending = s.pending := by
  unfold State.start4
  (try dsimp only); (repeat' split) <;> simp

@[simp] theorem State.setWear_pending (s : State) (rows : List Nat) (cycles : List Nat) : (State.setWear s rows
    cycles).pending = s.pending := by
  unfold State.setWear; simp

@[simp] theorem State.senseOffsets_pending (s : State) (l : List (BitVec 16)) (source : Nat) : (State.senseOffsets s
    l source).pending = s.pending := by
  unfold State.senseOffsets; simp

@[simp] theorem State.readBank_pending (s : State) (defaults : List Byte) : (State.readBank s defaults).pending =
    s.pending := by
  unfold State.readBank
  (try dsimp only); (repeat' split) <;> simp

@[simp] theorem State.readImage_pending (s : State) (bad : List (Fin 24)) (slot : Nat) (h : List Byte) :
    (State.readImage s bad slot h).pending = s.pending := by
  unfold State.readImage; simp

@[simp] theorem State.coldRead_pending (s : State) (bad : List (Fin 24)) : (State.coldRead s bad).pending = s.pending
    := by
  unfold State.coldRead
  (try dsimp only); (repeat' split) <;> simp

@[simp] theorem State.convert_pending (s : State) : s.convert.pending = s.pending := by
  unfold State.convert; simp

@[simp] theorem State.warmTamper_pending (s : State) (id : Nat) : (State.warmTamper s id).pending = s.pending := by
  unfold State.warmTamper; simp

@[simp] theorem State.warmRead_pending (s : State) (bad : List (Fin 24)) : (State.warmRead s bad).pending = s.pending
    := by
  unfold State.warmRead
  (try dsimp only); (repeat' split) <;> simp

@[simp] theorem State.start5_pending (s : State) (env : StartEnv) : (State.start5 s env).pending = s.pending := by
  unfold State.start5; simp

@[simp] theorem State.start6_pending (s : State) (env : StartEnv) : (State.start6 s env).pending = s.pending := by
  unfold State.start6
  (try dsimp only); (repeat' split) <;> simp

@[simp] theorem State.programSet_pending (s : State) (env : StartEnv) (levels : List Byte) (w : WsetCfg) (st : Nat) :
    (State.programSet s env levels w st).pending = s.pending := by
  unfold State.programSet; simp

@[simp] theorem State.start7_pending (s : State) (env : StartEnv) : (State.start7 s env).pending = s.pending := by
  unfold State.start7
  dsimp only
  rw [State.stepDone_pending]
  refine (each_pending _ _ _ fun x st => ?_).trans (by simp)
  split
  · split <;> simp
  · rfl

@[simp] theorem State.start8_pending (s : State) (env : StartEnv) : (State.start8 s env).pending = s.pending := by
  unfold State.start8
  (try dsimp only); (repeat' split) <;> simp

@[simp] theorem State.startProbe_pending (s : State) (p : Nat) (l : List ProbeSample) : (State.startProbe s p
    l).pending = s.pending := by
  unfold State.startProbe; simp

@[simp] theorem State.start9_pending (s : State) (env : StartEnv) : (State.start9 s env).pending = s.pending := by
  unfold State.start9; simp

@[simp] theorem State.loadOffsets_pending (s : State) : s.loadOffsets.pending = s.pending := by
  unfold State.loadOffsets; simp

@[simp] theorem State.seal_pending (s : State) (h : List Byte) (ms : Nat) : (State.seal s h ms).pending = s.pending
    := by
  unfold State.seal; simp

@[simp] theorem State.loadAll_pending (s : State) (bad : List (Fin 24)) (slot : Nat) (h : List Byte) : (State.loadAll
    s bad slot h).pending = s.pending := by
  unfold State.loadAll; simp

@[simp] theorem State.start10_pending (s : State) (env : StartEnv) : (State.start10 s env).pending = s.pending := by
  unfold State.start10; simp

@[simp] theorem State.start11_pending (s : State) : s.start11.pending = s.pending := by
  unfold State.start11; simp

@[simp] theorem State.dropNow_pending (s : State) (d : Nat) : (State.dropNow s d).pending = s.pending := by
  unfold State.dropNow; simp

@[simp] theorem State.awaken_pending (s : State) : s.awaken.pending = s.pending := by
  unfold State.awaken; simp

@[simp] theorem State.applyHeld_pending (s : State) (held : List ChipReq) (warm : Bool) : (State.applyHeld s held
    warm).pending = s.pending := by
  unfold State.applyHeld; simp

@[simp] theorem State.start12_pending (s : State) : s.start12.pending = s.pending := by
  unfold State.start12; simp

@[simp] theorem State.startStep_pending (s : State) (env : StartEnv) (k : Nat) : (State.startStep s env k).pending =
    s.pending := by
  unfold State.startStep
  (try dsimp only); (repeat' split) <;> simp

@[simp] theorem State.runStart_pending (env : StartEnv) (n : Nat) (s : State) : (State.runStart env n s).pending =
    s.pending := by
  induction n generalizing s with
  | zero => rfl
  | succ n ih =>
    unfold State.runStart
    split
    · dsimp only; split
      · simp
      · rw [ih]; simp
    · rfl

@[simp] theorem State.starts_pending (s : State) (cold : Bool) (env : StartEnv) : (State.starts s cold env).pending =
    s.pending := by
  unfold State.starts
  dsimp only
  split
  · simp
  · split
    · simp
    · rfl

/-! Nvm -/

@[simp] theorem State.nvmForeign_pending (s : State) (writes : List (Nat × List Byte)) : (State.nvmForeign s
    writes).pending = s.pending := by
  unfold State.nvmForeign; simp

@[simp] theorem State.writeGood_pending (s : State) (b : Nat) : (State.writeGood s b).pending = s.pending := by
  unfold State.writeGood; simp

@[simp] theorem State.writeBad_pending (s : State) (b : Nat) : (State.writeBad s b).pending = s.pending := by
  unfold State.writeBad; simp

@[simp] theorem State.restoreSaved_pending (s : State) (kib : Nat) : (State.restoreSaved s kib).pending = s.pending
    := by
  unfold State.restoreSaved; simp

@[simp] theorem State.restoreImage_pending (s : State) (slot : Nat) (h : List Byte) : (State.restoreImage s slot
    h).pending = s.pending := by
  unfold State.restoreImage; simp

@[simp] theorem State.restoreTamper_pending (s : State) (id : Nat) : (State.restoreTamper s id).pending = s.pending
    := by
  unfold State.restoreTamper; simp

/-! Steward -/

@[simp] theorem State.throttle_pending (s : State) (tj : Int) : (State.throttle s tj).pending = s.pending := by
  unfold State.throttle; simp

@[simp] theorem State.stewardTick_pending (s : State) (tj : Byte) (losses : List Loss) : (State.stewardTick s tj
    losses).pending = s.pending := by
  unfold State.stewardTick; simp

/-! Idle -/

@[simp] theorem State.endIbis_pending (s : State) : s.endIbis.pending = s.pending := by
  unfold State.endIbis; simp

@[simp] theorem State.idle_pending (s : State) : s.idle.pending = s.pending := by
  unfold State.idle; simp

end Sys2Proof.Machine
end

