-- ==== Sys2Proof/Laws/Wf.lean ====
section
/-! SUPPORT. What every operation of the machine does to the memories: most leave them as they are (the lemmas on `mem`); every other
keeps their canonical form (the lemmas on `Memory.wf`). -/

namespace Sys2Proof.Machine

@[simp] theorem each_mem {α : Type} (s : State) (l : List α) (f : State → α → State) (h : ∀ x a, (f x a).mem = x.mem) :
    (s.each l f).mem = s.mem := by
  unfold State.each
  induction l generalizing s with
  | nil => rfl
  | cons a l ih => rw [List.foldl_cons, ih, h]
@[simp] theorem when_mem (s : State) (c : Bool) (f : State → State) (h : ∀ x, (f x).mem = x.mem) :
    (s.when c f).mem = s.mem := by
  unfold State.when; split
  · exact h s
  · rfl
@[simp] theorem ite_mem (c : Prop) [Decidable c] (a b : State) : (if c then a else b).mem = if c then a.mem else b.mem :=
  apply_ite _ _ _ _
@[simp] theorem withReg_mem (q : Option (RegDef × Nat)) (d : State) (f : RegDef → Nat → State)
    (h : ∀ r i, (f r i).mem = d.mem) : (withReg q d f).mem = d.mem := by
  unfold withReg
  match q with
  | none => rfl
  | some (r, i) => exact h r i
theorem withReg_fst_mem {β : Type} (q : Option (RegDef × Nat)) (d : State × β) (f : RegDef → Nat → State × β)
    (h : ∀ r i, (f r i).1.mem = d.1.mem) : (withReg q d f).1.mem = d.1.mem := by
  unfold withReg
  match q with
  | none => rfl
  | some (r, i) => exact h r i
@[simp] theorem foldl_mem {α : Type} (s : State) (l : List α) (f : State → α → State) (h : ∀ x a, (f x a).mem = x.mem) :
    (l.foldl f s).mem = s.mem := each_mem s l f h
theorem each_wf {α : Type} (s : State) (l : List α) (f : State → α → State)
    (h : ∀ x a, Memory.wf x.mem = true → Memory.wf (f x a).mem = true) (hs : Memory.wf s.mem = true) :
    Memory.wf (s.each l f).mem = true := by
  unfold State.each
  induction l generalizing s with
  | nil => exact hs
  | cons a l ih => exact ih _ (h _ _ hs)
theorem foldl_wf {α : Type} (s : State) (l : List α) (f : State → α → State)
    (h : ∀ x a, Memory.wf x.mem = true → Memory.wf (f x a).mem = true) (hs : Memory.wf s.mem = true) :
    Memory.wf (l.foldl f s).mem = true := each_wf s l f h hs
theorem when_wf (s : State) (c : Bool) (f : State → State) (h : ∀ x, Memory.wf x.mem = true → Memory.wf (f x).mem = true)
    (hs : Memory.wf s.mem = true) : Memory.wf (s.when c f).mem = true := by
  unfold State.when; split
  · exact h s hs
  · exact hs
theorem ite_wf (c : Prop) [Decidable c] (a b : State) (ha : Memory.wf a.mem = true) (hb : Memory.wf b.mem = true) :
    Memory.wf (if c then a.mem else b.mem) = true := by split <;> assumption
theorem withReg_wf (q : Option (RegDef × Nat)) (d : State) (f : RegDef → Nat → State)
    (h : ∀ r i, Memory.wf (f r i).mem = true) (hd : Memory.wf d.mem = true) : Memory.wf (withReg q d f).mem = true := by
  unfold withReg
  match q with
  | none => exact hd
  | some (r, i) => exact h r i

/-! Ops -/

theorem State.setReg_wf (s : State) (r : RegDef) (i : Nat) (w : Word) (hw : Memory.wf s.mem = true) : Memory.wf
    (State.setReg s r i w).mem = true := by
  unfold State.setReg
  repeat' first
      | with_reducible assumption
      | intro _
      | split
      | (simp only [])
      | (simp; done)
      | (simp [*])

theorem State.setAt_wf (s : State) (f : Fld) (i : Nat) (v : Nat) (hw : Memory.wf s.mem = true) : Memory.wf
    (State.setAt s f i v).mem = true := by
  unfold State.setAt
  repeat' first
      | with_reducible assumption
      | intro _
      | with_reducible apply State.setReg_wf
      | split
      | (simp only [])
      | (simp; done)
      | (simp [*])

theorem State.set_wf (s : State) (f : Fld) (v : Nat) (hw : Memory.wf s.mem = true) : Memory.wf (State.set s f v).mem
    = true := by
  unfold State.set
  repeat' first
      | with_reducible assumption
      | intro _
      | with_reducible apply State.setAt_wf
      | split
      | (simp only [])
      | (simp; done)
      | (simp [*])

theorem State.addAt_wf (s : State) (f : Fld) (i : Nat) (n : Nat) (hw : Memory.wf s.mem = true) : Memory.wf
    (State.addAt s f i n).mem = true := by
  unfold State.addAt
  repeat' first
      | with_reducible assumption
      | intro _
      | with_reducible apply State.setAt_wf
      | split
      | (simp only [])
      | (simp; done)
      | (simp [*])

theorem State.inc_wf (s : State) (f : Fld) (hw : Memory.wf s.mem = true) : Memory.wf (State.inc s f).mem = true := by
  unfold State.inc
  repeat' first
      | with_reducible assumption
      | intro _
      | with_reducible apply State.addAt_wf
      | split
      | (simp only [])
      | (simp; done)
      | (simp [*])

theorem State.incAt_wf (s : State) (f : Fld) (i : Nat) (hw : Memory.wf s.mem = true) : Memory.wf (State.incAt s f
    i).mem = true := by
  unfold State.incAt
  repeat' first
      | with_reducible assumption
      | intro _
      | with_reducible apply State.addAt_wf
      | split
      | (simp only [])
      | (simp; done)
      | (simp [*])

theorem State.setMaskBit_wf (s : State) (r : RegDef) (n : Nat) (b : Bool) (hw : Memory.wf s.mem = true) : Memory.wf
    (State.setMaskBit s r n b).mem = true := by
  unfold State.setMaskBit
  repeat' first
      | with_reducible assumption
      | intro _
      | with_reducible apply State.setReg_wf
      | split
      | (simp only [])
      | (simp; done)
      | (simp [*])

theorem State.draw_wf (s : State) (hw : Memory.wf s.mem = true) : Memory.wf s.draw.mem = true := by
  unfold State.draw
  repeat' first
      | with_reducible assumption
      | intro _
      | split
      | (simp only [])
      | (simp; done)
      | (simp [*])

theorem State.yardWrite_wf (s : State) (off : Nat) (bs : List Byte) (t : Nat) (hw : Memory.wf s.mem = true) :
    Memory.wf (State.yardWrite s off bs t).mem = true := by
  unfold State.yardWrite
  repeat' first
      | with_reducible assumption
      | intro _
      | with_reducible apply MemState.write_wf
      | split
      | (simp only [])
      | (simp; done)
      | (simp [*])

@[simp] theorem State.enter_mem (s : State) (code : Nat) (param : Word) : (State.enter s code param).mem = s.mem := by
  unfold State.enter; simp

@[simp] theorem State.raise_mem (s : State) (code : Nat) (param : Word) : (State.raise s code param).mem = s.mem := by
  unfold State.raise
  (try dsimp only); (repeat' split) <;> simp

@[simp] theorem State.ev_mem (s : State) (code : Nat) (p : Nat) : (State.ev s code p).mem = s.mem := by
  unfold State.ev; simp

@[simp] theorem State.ev2_mem (s : State) (code : Nat) (p : Nat) (q : Nat) : (State.ev2 s code p q).mem = s.mem := by
  unfold State.ev2; simp

@[simp] theorem State.releaseHeld_mem (s : State) (extra : List (Nat × Word)) : (State.releaseHeld s extra).mem =
    s.mem := by
  unfold State.releaseHeld; simp

theorem State.writeLog_wf (s : State) (hw : Memory.wf s.mem = true) : Memory.wf (State.writeLog s).mem = true := by
  unfold State.writeLog
  repeat' first
      | with_reducible assumption
      | intro _
      | with_reducible apply MemState.store_wf
      | with_reducible apply State.set_wf
      | with_reducible apply when_wf
      | split
      | (simp only [])
      | (simp; done)
      | (simp [*])

theorem State.drainLog_wf (s : State) (hw : Memory.wf s.mem = true) : Memory.wf (State.drainLog s).mem = true := by
  unfold State.drainLog
  repeat' first
      | with_reducible assumption
      | intro _
      | with_reducible apply State.writeLog_wf
      | with_reducible apply each_wf
      | split
      | (simp only [])
      | (simp; done)
      | (simp [*])

theorem State.answer_wf (s : State) (bs : List Byte) (hw : Memory.wf s.mem = true) : Memory.wf (State.answer s
    bs).mem = true := by
  unfold State.answer
  repeat' first
      | with_reducible assumption
      | intro _
      | split
      | (simp only [])
      | (simp; done)
      | (simp [*])

/-! Image -/

@[simp] theorem State.loadSealed_mem (s : State) (pick : Nat → Bool) (b : List Byte) :
    (State.loadSealed s pick b).mem = s.mem := by
  unfold State.loadSealed
  have key : ∀ q : Nat → Option (RegDef × Nat), (s.each ((sealedList b).filter fun p => pick p.1) fun s p =>
      withReg (q p.1) s fun r i => s.setReg r i ((s.reg r i &&& ~~~ r.sl3) ||| (p.2 &&& r.sl3))).mem = s.mem :=
    fun q => each_mem _ _ _ (fun x p => withReg_mem _ _ _ (fun r i => State.setReg_mem ..))
  exact key regAt

/-! Domains -/

theorem State.depVotes_wf (s : State) (hw : Memory.wf s.mem = true) : Memory.wf s.depVotes.mem = true := by
  unfold State.depVotes
  repeat' first
      | with_reducible assumption
      | intro _
      | split
      | (simp only [])
      | (simp; done)
      | (simp [*])

@[simp] theorem State.startPenWipe_mem (s : State) (cause : Nat) : (State.startPenWipe s cause).mem = s.mem := by
  unfold State.startPenWipe; simp

theorem State.setFlight_wf (s : State) (d : Nat) (lvl : Option Nat) (hw : Memory.wf s.mem = true) : Memory.wf
    (State.setFlight s d lvl).mem = true := by
  unfold State.setFlight
  repeat' first
      | with_reducible assumption
      | intro _
      | split
      | (simp only [])
      | (simp; done)
      | (simp [*])

theorem State.setPend_wf (s : State) (d : Nat) (lvl : Option Nat) (hw : Memory.wf s.mem = true) : Memory.wf
    (State.setPend s d lvl).mem = true := by
  unfold State.setPend
  repeat' first
      | with_reducible assumption
      | intro _
      | split
      | (simp only [])
      | (simp; done)
      | (simp [*])

@[simp] theorem State.dropHold_mem (s : State) (d : Nat) : (State.dropHold s d).mem = s.mem := by
  unfold State.dropHold; simp

@[simp] theorem State.pendLevel_mem (s : State) (d : Nat) (lvl : Nat) : (State.pendLevel s d lvl).mem = s.mem := by
  unfold State.pendLevel
  (try dsimp only); (repeat' split) <;> simp

@[simp] theorem State.pendNone_mem (s : State) (d : Nat) : (State.pendNone s d).mem = s.mem := by
  unfold State.pendNone; simp

@[simp] theorem State.loadCopy_mem (s : State) : s.loadCopy.mem = s.mem := by
  unfold State.loadCopy
  (try dsimp only); (repeat' split) <;> simp

@[simp] theorem State.combOn_mem (s : State) : s.combOn.mem = s.mem := by
  unfold State.combOn; simp

@[simp] theorem State.barnWake_mem (s : State) : s.barnWake.mem = s.mem := by
  unfold State.barnWake; simp

@[simp] theorem State.combStart_mem (s : State) : s.combStart.mem = s.mem := by
  unfold State.combStart; simp

@[simp] theorem State.barnCalVote_mem (s : State) (on : Bool) : (State.barnCalVote s on).mem = s.mem := by
  unfold State.barnCalVote; simp

@[simp] theorem State.barnDrop_mem (s : State) : s.barnDrop.mem = s.mem := by
  unfold State.barnDrop; simp

@[simp] theorem State.startFlight_mem (s : State) (d : Nat) (lvl : Nat) : (State.startFlight s d lvl).mem = s.mem := by
  unfold State.startFlight; simp

@[simp] theorem State.evalDomain_mem (s : State) (d : Nat) : (State.evalDomain s d).mem = s.mem := by
  unfold State.evalDomain
  (try dsimp only); (repeat' split) <;> simp

@[simp] theorem State.recompute_mem (s : State) : s.recompute.mem = s.mem := by
  unfold State.recompute; simp

theorem State.setLevel_wf (s : State) (d : Nat) (l : Nat) (hw : Memory.wf s.mem = true) : Memory.wf (State.setLevel s
    d l).mem = true := by
  unfold State.setLevel
  repeat' first
      | with_reducible assumption
      | intro _
      | with_reducible apply State.loseDomain_wf
      | with_reducible apply when_wf
      | split
      | (simp only [])
      | (simp; done)
      | (simp [*])

@[simp] theorem State.advance_mem (s : State) : s.advance.mem = s.mem := by
  unfold State.advance
  (try dsimp only); (repeat' split) <;> simp

@[simp] theorem State.standForced_mem (s : State) (target : Nat) (cause : Nat) : (State.standForced s target
    cause).mem = s.mem := by
  unfold State.standForced
  (try dsimp only); (repeat' split) <;> simp

@[simp] theorem State.force_mem (s : State) (target : Nat) (cause : Nat) : (State.force s target cause).mem = s.mem
    := by
  unfold State.force
  (try dsimp only); (repeat' split) <;> simp

@[simp] theorem State.refuseRest_mem (s : State) : s.refuseRest.mem = s.mem := by
  unfold State.refuseRest; simp

@[simp] theorem State.request_mem (s : State) (q : ChipReq) : (State.request s q).mem = s.mem := by
  unfold State.request
  (try dsimp only); (repeat' split) <;> simp

@[simp] theorem State.unforce_mem (s : State) (cause : Nat) : (State.unforce s cause).mem = s.mem := by
  unfold State.unforce; simp

@[simp] theorem State.voteRise_mem (s : State) (ds : List Nat) : (State.voteRise s ds).mem = s.mem := by
  unfold State.voteRise; simp

@[simp] theorem State.stateReq_mem (s : State) (cause : Nat) (v : Word) : (State.stateReq s cause v).mem = s.mem := by
  unfold State.stateReq; simp

@[simp] theorem State.putVotes_mem (s : State) (k : Nat) (ds : List Nat) (v : Nat → Nat) : (State.putVotes s k ds
    v).mem = s.mem := by
  unfold State.putVotes; simp

@[simp] theorem State.setVote_mem (s : State) (d : Nat) (k : Nat) (v : Nat) : (State.setVote s d k v).mem = s.mem :=
    by
  unfold State.setVote; simp

@[simp] theorem State.releaseAccess_mem (s : State) (ds : List Nat) : (State.releaseAccess s ds).mem = s.mem := by
  unfold State.releaseAccess; simp

@[simp] theorem State.endAccesses_mem (s : State) (pick : Engine → Bool) : (State.endAccesses s pick).mem = s.mem :=
    by
  unfold State.endAccesses; simp

@[simp] theorem State.endAccess_mem (s : State) (e : Engine) : (State.endAccess s e).mem = s.mem := by
  unfold State.endAccess; simp

@[simp] theorem State.waitAccess_mem (s : State) (d : Nat) (x : StalledAcc) : (State.waitAccess s d x).mem = s.mem :=
    by
  unfold State.waitAccess; simp

theorem State.masterAccess_wf (s : State) (d : Nat) (x : StalledAcc) (f : State → State) (g : State → State) (h_f : ∀
    x0, Memory.wf x0.mem = true → Memory.wf (f x0).mem = true) (h_g : ∀ x0, Memory.wf x0.mem = true → Memory.wf (g
    x0).mem = true) (hw : Memory.wf s.mem = true) : Memory.wf (State.masterAccess s d x f g).mem = true := by
  unfold State.masterAccess
  repeat' first
      | with_reducible assumption
      | intro _
      | with_reducible apply h_f
      | with_reducible apply h_g
      | split
      | (simp only [])
      | (simp; done)
      | (simp [*])

theorem State.access_wf (s : State) (e : Engine) (d : Nat) (f : State → State) (g : State → State) (h_f : ∀ x0,
    Memory.wf x0.mem = true → Memory.wf (f x0).mem = true) (h_g : ∀ x0, Memory.wf x0.mem = true → Memory.wf (g x0).mem
    = true) (hw : Memory.wf s.mem = true) : Memory.wf (State.access s e d f g).mem = true := by
  unfold State.access
  repeat' first
      | with_reducible assumption
      | intro _
      | with_reducible apply h_f
      | with_reducible apply h_g
      | with_reducible apply when_wf
      | split
      | (simp only [])
      | (simp; done)
      | (simp [*])

/-! Span -/

@[simp] theorem State.stopRoot_mem (s : State) : s.stopRoot.mem = s.mem := by
  unfold State.stopRoot; simp

@[simp] theorem State.latchCount_mem (s : State) (m : Nat) : (State.latchCount s m).mem = s.mem := by
  unfold State.latchCount; simp

@[simp] theorem State.finishRead_mem (s : State) (m : Nat) (bs : List Byte) : (State.finishRead s m bs).mem = s.mem :=
    by
  unfold State.finishRead; simp

@[simp] theorem State.serveReads_mem (s : State) : s.serveReads.mem = s.mem := by
  unfold State.serveReads; simp

@[simp] theorem State.closeCarry_mem (s : State) (count : BitVec 64) (err : Nat) (code : Nat) (rc : Word) :
    (State.closeCarry s count err code rc).mem = s.mem := by
  unfold State.closeCarry; simp

@[simp] theorem State.align_mem (s : State) (rc : Word) : (State.align s rc).mem = s.mem := by
  unfold State.align; simp

@[simp] theorem State.startRoot_mem (s : State) : s.startRoot.mem = s.mem := by
  unfold State.startRoot; simp

@[simp] theorem State.xtLost_mem (s : State) (rc : Word) : (State.xtLost s rc).mem = s.mem := by
  unfold State.xtLost; simp

/-! Access -/

@[simp] theorem State.faultAccess_mem (s : State) (m : Master) (a : Nat) (size : AccSize) (unmapped : Bool) (write :
    Bool) : (State.faultAccess s m a size unmapped write).mem = s.mem := by
  unfold State.faultAccess; simp

@[simp] theorem State.writeAs_mem (s : State) (m : Master) (a : Nat) (f : State → State) (h_f : ∀ x0, (f x0).mem =
    x0.mem) : (State.writeAs s m a f).mem = s.mem := by
  unfold State.writeAs; simp [*]

theorem State.writeAs_wf (s : State) (m : Master) (a : Nat) (f : State → State) (h_f : ∀ x0, Memory.wf x0.mem = true
    → Memory.wf (f x0).mem = true) (hw : Memory.wf s.mem = true) : Memory.wf (State.writeAs s m a f).mem = true := by
  unfold State.writeAs
  repeat' first
      | with_reducible assumption
      | intro _
      | with_reducible apply h_f
      | split
      | (simp only [])
      | (simp; done)
      | (simp [*])

/-! Calib -/

theorem State.calReject_wf (s : State) (e : CalElem) (hw : Memory.wf s.mem = true) : Memory.wf (State.calReject s
    e).mem = true := by
  unfold State.calReject
  repeat' first
      | with_reducible assumption
      | intro _
      | with_reducible apply settleOps_wf
      | split
      | (simp only [])
      | (simp; done)
      | (simp [*])

theorem State.calPass_wf (s : State) (e : CalElem) (hw : Memory.wf s.mem = true) : Memory.wf (State.calPass s e).mem
    = true := by
  unfold State.calPass
  repeat' first
      | with_reducible assumption
      | intro _
      | with_reducible apply settleOps_wf
      | split
      | (simp only [])
      | (simp; done)
      | (simp [*])

theorem State.calAbandon_wf (s : State) (e : CalElem) (hw : Memory.wf s.mem = true) : Memory.wf (State.calAbandon s
    e).mem = true := by
  unfold State.calAbandon
  repeat' first
      | with_reducible assumption
      | intro _
      | with_reducible apply settleOps_wf
      | split
      | (simp only [])
      | (simp; done)
      | (simp [*])

@[simp] theorem State.calVoteRow_mem (s : State) (r : Nat) : (State.calVoteRow s r).mem = s.mem := by
  unfold State.calVoteRow; simp

@[simp] theorem State.setCalState_mem (s : State) (st : Nat) (v : Nat) : (State.setCalState s st v).mem = s.mem := by
  unfold State.setCalState; simp

@[simp] theorem State.columnDue_mem (s : State) (st : Nat) : (State.columnDue s st).mem = s.mem := by
  unfold State.columnDue; simp

@[simp] theorem State.defer_mem (s : State) (d : Deferred) : (State.defer s d).mem = s.mem := by
  unfold State.defer; simp

@[simp] theorem State.stateWanted_mem (s : State) : s.stateWanted.mem = s.mem := by
  unfold State.stateWanted; simp

@[simp] theorem State.calChanged_mem (s : State) : s.calChanged.mem = s.mem := by
  unfold State.calChanged; simp

@[simp] theorem State.recordWear_mem (s : State) (sts : List Nat) : (State.recordWear s sts).mem = s.mem := by
  unfold State.recordWear; simp

/-! Rings -/

theorem State.reach_wf (s : State) (e : Engine) (m : Mem) (off : Nat) (f : State → State) (g : State → State) (h_f : ∀
    x0, Memory.wf x0.mem = true → Memory.wf (f x0).mem = true) (h_g : ∀ x0, Memory.wf x0.mem = true → Memory.wf (g
    x0).mem = true) (hw : Memory.wf s.mem = true) : Memory.wf (State.reach s e m off f g).mem = true := by
  unfold State.reach
  repeat' first
      | with_reducible assumption
      | intro _
      | with_reducible apply h_f
      | with_reducible apply h_g
      | with_reducible apply State.access_wf
      | split
      | (simp only [])
      | (simp; done)
      | (simp [*])

@[simp] theorem State.setRing_mem (s : State) (i : Nat) (r : RingSt) : (State.setRing s i r).mem = s.mem := by
  unfold State.setRing; simp

@[simp] theorem State.showIssued_mem (s : State) (i : Nat) : (State.showIssued s i).mem = s.mem := by
  unfold State.showIssued; simp

@[simp] theorem State.passEntry_mem (s : State) (i : Nat) (idx : Nat) : (State.passEntry s i idx).mem = s.mem := by
  unfold State.passEntry; simp

@[simp] theorem State.showWaiters_mem (s : State) : s.showWaiters.mem = s.mem := by
  unfold State.showWaiters; simp

@[simp] theorem State.saturated_mem (s : State) (t : Nat) : (State.saturated s t).mem = s.mem := by
  unfold State.saturated; simp

@[simp] theorem State.requestCommits_mem (s : State) (t : Nat) : (State.requestCommits s t).mem = s.mem := by
  unfold State.requestCommits; simp

@[simp] theorem State.applyTally_mem (s : State) (o : TallyOp) : (State.applyTally s o).mem = s.mem := by
  unfold State.applyTally
  (try dsimp only); (repeat' split) <;> simp

@[simp] theorem State.raiseTally_mem (s : State) (o : TallyOp) : (State.raiseTally s o).mem = s.mem := by
  unfold State.raiseTally; simp

@[simp] theorem State.raiseDone_mem (s : State) (e : List Byte) : (State.raiseDone s e).mem = s.mem := by
  unfold State.raiseDone; simp

theorem State.endEntry_wf (s : State) (i : Nat) (idx : Nat) (status : Nat) (hw : Memory.wf s.mem = true) : Memory.wf
    (State.endEntry s i idx status).mem = true := by
  unfold State.endEntry
  repeat' first
      | with_reducible assumption
      | intro _
      | with_reducible apply when_wf
      | with_reducible apply MemState.write_wf
      | split
      | (simp only [])
      | (simp; done)
      | (simp [*])

@[simp] theorem State.msix_mem (s : State) (v : Nat) : (State.msix s v).mem = s.mem := by
  unfold State.msix; simp

@[simp] theorem State.flushMsix_mem (s : State) : s.flushMsix.mem = s.mem := by
  unfold State.flushMsix; simp

theorem State.notifyDone_wf (s : State) (i : Nat) (idx : Nat) (hw : Memory.wf s.mem = true) : Memory.wf
    (State.notifyDone s i idx).mem = true := by
  unfold State.notifyDone
  repeat' first
      | with_reducible assumption
      | intro _
      | with_reducible apply State.endEntry_wf
      | with_reducible apply when_wf
      | split
      | (simp only [])
      | (simp; done)
      | (simp [*])

@[simp] theorem State.openEarly_mem (s : State) (st : Nat) : (State.openEarly s st).mem = s.mem := by
  unfold State.openEarly
  (try dsimp only); (repeat' split) <;> simp

theorem State.satisfy_wf (s : State) (w : Waiter) (hw : Memory.wf s.mem = true) : Memory.wf (State.satisfy s w).mem =
    true := by
  unfold State.satisfy
  repeat' first
      | with_reducible assumption
      | intro _
      | with_reducible apply State.setAt_wf
      | with_reducible apply State.notifyDone_wf
      | with_reducible apply when_wf
      | split
      | (simp only [])
      | (simp; done)
      | (simp [*])

theorem State.serveTally_wf (s : State) (t : Nat) (hw : Memory.wf s.mem = true) : Memory.wf (State.serveTally s
    t).mem = true := by
  unfold State.serveTally
  repeat' first
      | with_reducible assumption
      | intro _
      | with_reducible apply State.satisfy_wf
      | with_reducible apply each_wf
      | split
      | (simp only [])
      | (simp; done)
      | (simp [*])

theorem settleOps_wf (n : Nat) (s : State) (h : Memory.wf s.mem = true) : Memory.wf (settleOps n s).mem = true := by
  induction n generalizing s with
  | zero => exact h
  | succ n ih =>
    unfold settleOps
    split
    · exact h
    · refine ih _ (State.serveTally_wf _ _ ?_)
      simpa using h

theorem State.settle_wf (s : State) (hw : Memory.wf s.mem = true) : Memory.wf (State.settle s).mem = true := by
  unfold State.settle
  repeat' first
      | with_reducible assumption
      | intro _
      | with_reducible apply settleOps_wf
      | with_reducible apply settleOps_wf
      | split
      | (simp only [])
      | (simp; done)
      | (simp [*])

theorem State.tallyOp_wf (s : State) (op : TOp) (t : Nat) (v : Nat) (hw : Memory.wf s.mem = true) : Memory.wf
    (State.tallyOp s op t v).mem = true := by
  unfold State.tallyOp
  repeat' first
      | with_reducible assumption
      | intro _
      | with_reducible apply State.settle_wf
      | with_reducible apply settleOps_wf
      | split
      | (simp only [])
      | (simp; done)
      | (simp [*])

theorem State.completeEntry_wf (s : State) (i : Nat) (idx : Nat) (status : Nat) (hw : Memory.wf s.mem = true) :
    Memory.wf (State.completeEntry s i idx status).mem = true := by
  unfold State.completeEntry
  repeat' first
      | with_reducible assumption
      | intro _
      | with_reducible apply State.endEntry_wf
      | with_reducible apply State.settle_wf
      | with_reducible apply settleOps_wf
      | split
      | (simp only [])
      | (simp; done)
      | (simp [*])

@[simp] theorem State.addWaiter_mem (s : State) (w : Waiter) : (State.addWaiter s w).mem = s.mem := by
  unfold State.addWaiter; simp

@[simp] theorem State.doorbell_mem (s : State) (i : Nat) (count : Nat) (owner : Nat) : (State.doorbell s i count
    owner).mem = s.mem := by
  unfold State.doorbell; simp

/-! Pen -/

@[simp] theorem State.setPenSlot_mem (s : State) (p : Nat) (k : Nat) (v : Nat) : (State.setPenSlot s p k v).mem =
    s.mem := by
  unfold State.setPenSlot; simp

@[simp] theorem State.setReleases_mem (s : State) (p : Nat) (k : Nat) (n : Nat) : (State.setReleases s p k n).mem =
    s.mem := by
  unfold State.setReleases; simp

@[simp] theorem State.releasePen_mem (s : State) (p : Nat) (k : Nat) : (State.releasePen s p k).mem = s.mem := by
  unfold State.releasePen; simp

@[simp] theorem State.alarmWipe_mem (s : State) : s.alarmWipe.mem = s.mem := by
  unfold State.alarmWipe; simp

@[simp] theorem State.setCam_mem (s : State) (p : Nat) (c : CamSt) : (State.setCam s p c).mem = s.mem := by
  unfold State.setCam; simp

@[simp] theorem State.dropFrame_mem (s : State) (p : Nat) : (State.dropFrame s p).mem = s.mem := by
  unfold State.dropFrame; simp

theorem State.penWiped_wf (s : State) (hw : Memory.wf s.mem = true) : Memory.wf (State.penWiped s).mem = true := by
  unfold State.penWiped
  repeat' first
      | with_reducible assumption
      | intro _
      | with_reducible apply MemState.penZero_wf
      | with_reducible apply State.set_wf
      | with_reducible apply State.inc_wf
      | with_reducible apply settleOps_wf
      | split
      | (simp only [])
      | (simp; done)
      | (simp [*])

@[simp] theorem State.showCams_mem (s : State) : s.showCams.mem = s.mem := by
  unfold State.showCams; simp

@[simp] theorem State.camRelease_mem (s : State) : s.camRelease.mem = s.mem := by
  unfold State.camRelease; simp

@[simp] theorem State.camStop_mem (s : State) : s.camStop.mem = s.mem := by
  unfold State.camStop; simp

@[simp] theorem State.abandon_mem (s : State) (p : Nat) (cause : Nat) : (State.abandon s p cause).mem = s.mem := by
  unfold State.abandon
  (try dsimp only); (repeat' split) <;> simp

@[simp] theorem State.discard_mem (s : State) (p : Nat) : (State.discard s p).mem = s.mem := by
  unfold State.discard; simp

@[simp] theorem State.camHeader_mem (s : State) (p : Nat) (vc : BitVec 2) (hdr : PktHdr) (f : State → State) (h_f : ∀
    x0, (f x0).mem = x0.mem) : (State.camHeader s p vc hdr f).mem = s.mem := by
  unfold State.camHeader; simp [*]

theorem State.camHeader_wf (s : State) (p : Nat) (vc : BitVec 2) (hdr : PktHdr) (f : State → State) (h_f : ∀ x0,
    Memory.wf x0.mem = true → Memory.wf (f x0).mem = true) (hw : Memory.wf s.mem = true) : Memory.wf (State.camHeader
    s p vc hdr f).mem = true := by
  unfold State.camHeader
  repeat' first
      | with_reducible assumption
      | intro _
      | with_reducible apply h_f
      | with_reducible apply State.incAt_wf
      | with_reducible apply settleOps_wf
      | with_reducible apply when_wf
      | split
      | (simp only [])
      | (simp; done)
      | (simp [*])

@[simp] theorem State.beginFrame_mem (s : State) (p : Nat) : (State.beginFrame s p).mem = s.mem := by
  unfold State.beginFrame; simp

theorem State.takeLine_wf (s : State) (p : Nat) (payload : List Byte) (hw : Memory.wf s.mem = true) : Memory.wf
    (State.takeLine s p payload).mem = true := by
  unfold State.takeLine
  repeat' first
      | with_reducible assumption
      | intro _
      | with_reducible apply settleOps_wf
      | with_reducible apply MemState.penWrite_wf
      | split
      | (simp only [])
      | (simp; done)
      | (simp [*])

theorem State.endFrame_wf (s : State) (p : Nat) (hw : Memory.wf s.mem = true) : Memory.wf (State.endFrame s p).mem =
    true := by
  unfold State.endFrame
  repeat' first
      | with_reducible assumption
      | intro _
      | with_reducible apply State.incAt_wf
      | with_reducible apply State.tallyOp_wf
      | with_reducible apply settleOps_wf
      | split
      | (simp only [])
      | (simp; done)
      | (simp [*])

@[simp] theorem State.camLedFails_mem (s : State) (shorted : Bool) : (State.camLedFails s shorted).mem = s.mem := by
  unfold State.camLedFails; simp

/-! Ports -/

@[simp] theorem State.setPort_mem (s : State) (p : Nat) (x : PortSt) : (State.setPort s p x).mem = s.mem := by
  unfold State.setPort; simp

@[simp] theorem State.setPortState_mem (s : State) (p : Nat) (v : Nat) : (State.setPortState s p v).mem = s.mem := by
  unfold State.setPortState; simp

@[simp] theorem State.portVote_mem (s : State) : s.portVote.mem = s.mem := by
  unfold State.portVote; simp

theorem State.endScript_wf (s : State) (p : Nat) (result : Nat) (hw : Memory.wf s.mem = true) : Memory.wf
    (State.endScript s p result).mem = true := by
  unfold State.endScript
  repeat' first
      | with_reducible assumption
      | intro _
      | with_reducible apply State.setAt_wf
      | with_reducible apply State.incAt_wf
      | with_reducible apply State.completeEntry_wf
      | with_reducible apply settleOps_wf
      | with_reducible apply when_wf
      | split
      | (simp only [])
      | (simp; done)
      | (simp [*])

theorem State.startScript_wf (s : State) (p : Nat) (k : Nat) (entry : Option (Nat × Nat)) (init : Bool) (hw :
    Memory.wf s.mem = true) : Memory.wf (State.startScript s p k entry init).mem = true := by
  unfold State.startScript
  repeat' first
      | with_reducible assumption
      | intro _
      | with_reducible apply State.setAt_wf
      | with_reducible apply State.endScript_wf
      | with_reducible apply settleOps_wf
      | split
      | (simp only [])
      | (simp; done)
      | (simp [*])

@[simp] theorem State.onStep_mem (s : State) (p : Nat) (op : Nat) (phase : ScriptPhase) (f : State → ScriptRun → Nat
    → State) (h_f : ∀ x0 x1 x2, (f x0 x1 x2).mem = x0.mem) : (State.onStep s p op phase f).mem = s.mem := by
  unfold State.onStep
  (try dsimp only); (repeat' split) <;> first | (simp; done) | (simp_all; done)

theorem State.onStep_wf (s : State) (p : Nat) (op : Nat) (phase : ScriptPhase) (f : State → ScriptRun → Nat → State)
    (h_f : ∀ x0 x1 x2, Memory.wf x0.mem = true → Memory.wf (f x0 x1 x2).mem = true) (hw : Memory.wf s.mem = true) :
    Memory.wf (State.onStep s p op phase f).mem = true := by
  unfold State.onStep
  repeat' first
      | with_reducible assumption
      | intro _
      | with_reducible apply h_f
      | with_reducible apply State.setAt_wf
      | with_reducible apply settleOps_wf
      | split
      | (simp only [])
      | (simp; done)
      | (simp [*])

@[simp] theorem State.setRun_mem (s : State) (p : Nat) (r : ScriptRun) : (State.setRun s p r).mem = s.mem := by
  unfold State.setRun; simp

theorem State.gotoStep_wf (s : State) (p : Nat) (r : ScriptRun) (n : Nat) (hw : Memory.wf s.mem = true) : Memory.wf
    (State.gotoStep s p r n).mem = true := by
  unfold State.gotoStep
  repeat' first
      | with_reducible assumption
      | intro _
      | with_reducible apply State.endScript_wf
      | with_reducible apply settleOps_wf
      | split
      | (simp only [])
      | (simp; done)
      | (simp [*])

theorem State.nextStep_wf (s : State) (p : Nat) (r : ScriptRun) (hw : Memory.wf s.mem = true) : Memory.wf
    (State.nextStep s p r).mem = true := by
  unfold State.nextStep
  repeat' first
      | with_reducible assumption
      | intro _
      | with_reducible apply State.gotoStep_wf
      | with_reducible apply settleOps_wf
      | split
      | (simp only [])
      | (simp; done)
      | (simp [*])

@[simp] theorem State.toBus_mem (s : State) (p : Nat) (r : ScriptRun) (bs : List Byte) : (State.toBus s p r bs).mem =
    s.mem := by
  unfold State.toBus; simp

@[simp] theorem State.detachStore_mem (s : State) (p : Nat) : (State.detachStore s p).mem = s.mem := by
  unfold State.detachStore
  (try dsimp only); (repeat' split) <;> simp

theorem State.storeLate_wf (s : State) (dest : Nat) (data : List Byte) (hw : Memory.wf s.mem = true) :
    Memory.wf (State.storeLate s dest data).mem = true :=
  State.masterAccess_wf _ _ _ _ _
    (fun x hx => State.masterAccess_wf _ _ _ _ _ (fun y hy => y.mem.write_wf _ _ _ _ hy) (fun _ hy => hy) hx) (fun _ hx => hx) hw

@[simp] theorem State.classed_mem (s : State) (p : Nat) (c : Nat) : (State.classed s p c).mem = s.mem := by
  unfold State.classed; simp

@[simp] theorem State.beginProbe_mem (s : State) (p : Nat) : (State.beginProbe s p).mem = s.mem := by
  unfold State.beginProbe; simp

theorem State.intTested_wf (s : State) (p : Nat) (floats : Bool) (hw : Memory.wf s.mem = true) : Memory.wf
    (State.intTested s p floats).mem = true := by
  unfold State.intTested
  repeat' first
      | with_reducible assumption
      | intro _
      | with_reducible apply State.setAt_wf
      | with_reducible apply State.incAt_wf
      | with_reducible apply State.onStep_wf
      | with_reducible apply State.endScript_wf
      | with_reducible apply settleOps_wf
      | split
      | (simp only [])
      | (simp; done)
      | (simp [*])

theorem State.railFails_wf (s : State) (p : Nat) (kind : Nat) (hw : Memory.wf s.mem = true) : Memory.wf
    (State.railFails s p kind).mem = true := by
  unfold State.railFails
  repeat' first
      | with_reducible assumption
      | intro _
      | with_reducible apply State.setAt_wf
      | with_reducible apply State.incAt_wf
      | with_reducible apply State.endScript_wf
      | with_reducible apply settleOps_wf
      | split
      | (simp only [])
      | (simp; done)
      | (simp [*])

@[simp] theorem State.clearPort_mem (s : State) (p : Nat) : (State.clearPort s p).mem = s.mem := by
  unfold State.clearPort; simp

@[simp] theorem State.faultClear_mem (s : State) (v : Word) : (State.faultClear s v).mem = s.mem := by
  unfold State.faultClear; simp

@[simp] theorem State.faultsDue_mem (s : State) : s.faultsDue.mem = s.mem := by
  unfold State.faultsDue; simp

theorem State.portsStop_wf (s : State) (st : Nat) (hw : Memory.wf s.mem = true) : Memory.wf (State.portsStop s
    st).mem = true := by
  unfold State.portsStop
  repeat' first
      | with_reducible assumption
      | intro _
      | with_reducible apply State.endScript_wf
      | with_reducible apply settleOps_wf
      | with_reducible apply each_wf
      | with_reducible apply when_wf
      | split
      | (simp only [])
      | (simp; done)
      | (simp [*])

@[simp] theorem State.portsProbe_mem (s : State) : s.portsProbe.mem = s.mem := by
  unfold State.portsProbe; simp

@[simp] theorem State.showInt_mem (s : State) (p : Nat) : (State.showInt s p).mem = s.mem := by
  unfold State.showInt; simp

theorem State.wakeScript_wf (s : State) (p : Nat) (hw : Memory.wf s.mem = true) : Memory.wf (State.wakeScript s
    p).mem = true := by
  unfold State.wakeScript
  repeat' first
      | with_reducible assumption
      | intro _
      | with_reducible apply State.onStep_wf
      | with_reducible apply State.nextStep_wf
      | with_reducible apply settleOps_wf
      | split
      | (simp only [])
      | (simp; done)
      | (simp [*])

/-! Ear -/

@[simp] theorem State.showClocks_mem (s : State) : s.showClocks.mem = s.mem := by
  unfold State.showClocks; simp

@[simp] theorem State.dropHist_mem (s : State) (a : Nat) : (State.dropHist s a).mem = s.mem := by
  unfold State.dropHist; simp

@[simp] theorem State.breakMel_mem (s : State) (a : Nat) (n : Nat) : (State.breakMel s a n).mem = s.mem := by
  unfold State.breakMel; simp

@[simp] theorem State.stopPdm_mem (s : State) : s.stopPdm.mem = s.mem := by
  unfold State.stopPdm; simp

@[simp] theorem State.stopClocks_mem (s : State) : s.stopClocks.mem = s.mem := by
  unfold State.stopClocks; simp

@[simp] theorem State.switchClk0_mem (s : State) (full : Bool) : (State.switchClk0 s full).mem = s.mem := by
  unfold State.switchClk0; simp

@[simp] theorem State.setCoef_mem (s : State) (i : Nat) (v : BitVec 16) : (State.setCoef s i v).mem = s.mem := by
  unfold State.setCoef; simp

theorem State.writeWindow_wf (s : State) (m : Nat) (st : Stream) (seq : Nat) (frame : List Byte) (hw : Memory.wf
    s.mem = true) : Memory.wf (State.writeWindow s m st seq frame).mem = true := by
  unfold State.writeWindow
  repeat' first
      | with_reducible assumption
      | intro _
      | with_reducible apply State.setAt_wf
      | with_reducible apply settleOps_wf
      | with_reducible apply MemState.write_wf
      | split
      | (simp only [])
      | (simp; done)
      | (simp [*])

@[simp] theorem State.keepHist_mem (s : State) (m : Nat) (xs : List (Option (BitVec 16))) : (State.keepHist s m
    xs).mem = s.mem := by
  unfold State.keepHist; simp

@[simp] theorem State.keepPre_mem (s : State) (m : Nat) (span : Nat) (settle : Bool) (xs : List (BitVec 16)) :
    (State.keepPre s m span settle xs).mem = s.mem := by
  unfold State.keepPre; simp

theorem State.takeFrame_wf (s : State) (m : Nat) (st : Stream) (xs : List Word) (hw : Memory.wf s.mem = true) :
    Memory.wf (State.takeFrame s m st xs).mem = true := by
  unfold State.takeFrame
  repeat' first
      | with_reducible assumption
      | intro _
      | with_reducible apply State.writeWindow_wf
      | with_reducible apply settleOps_wf
      | with_reducible apply when_wf
      | split
      | (simp only [])
      | (simp; done)
      | (simp [*])

@[simp] theorem State.earDrop_mem (s : State) : s.earDrop.mem = s.mem := by
  unfold State.earDrop; simp

@[simp] theorem State.takeMel_mem (s : State) (m : Nat) : (State.takeMel s m).mem = s.mem := by
  unfold State.takeMel; simp

theorem State.writeBlock_wf (s : State) (plain : List Byte) (hw : Memory.wf s.mem = true) : Memory.wf
    (State.writeBlock s plain).mem = true := by
  unfold State.writeBlock
  repeat' first
      | with_reducible assumption
      | intro _
      | with_reducible apply State.yardWrite_wf
      | with_reducible apply State.set_wf
      | with_reducible apply settleOps_wf
      | with_reducible apply MemState.write_wf
      | split
      | (simp only [])
      | (simp; done)
      | (simp [*])

theorem State.closeBlock_wf (s : State) (m : Nat) (hw : Memory.wf s.mem = true) : Memory.wf (State.closeBlock s
    m).mem = true := by
  unfold State.closeBlock
  repeat' first
      | with_reducible assumption
      | intro _
      | with_reducible apply State.writeBlock_wf
      | with_reducible apply State.settle_wf
      | with_reducible apply settleOps_wf
      | split
      | (simp only [])
      | (simp; done)
      | (simp [*])

@[simp] theorem State.endSession_mem (s : State) (cause : Nat) : (State.endSession s cause).mem = s.mem := by
  unfold State.endSession; simp

@[simp] theorem State.sessionEnds_mem (s : State) (cause : Nat) : (State.sessionEnds s cause).mem = s.mem := by
  unfold State.sessionEnds; simp

@[simp] theorem State.newSession_mem (s : State) : s.newSession.mem = s.mem := by
  unfold State.newSession; simp

@[simp] theorem State.startSession_mem (s : State) : s.startSession.mem = s.mem := by
  unfold State.startSession; simp

@[simp] theorem State.unloadEnds_mem (s : State) : s.unloadEnds.mem = s.mem := by
  unfold State.unloadEnds; simp

@[simp] theorem State.startUnload_mem (s : State) : s.startUnload.mem = s.mem := by
  unfold State.startUnload; simp

@[simp] theorem State.prerollCmd_mem (s : State) (v : Word) : (State.prerollCmd s v).mem = s.mem := by
  unfold State.prerollCmd; simp

@[simp] theorem State.calVoteEar_mem (s : State) : s.calVoteEar.mem = s.mem := by
  unfold State.calVoteEar; simp

@[simp] theorem State.setMicCal_mem (s : State) (m : Nat) (v : Nat) : (State.setMicCal s m v).mem = s.mem := by
  unfold State.setMicCal; simp

@[simp] theorem State.micCalsAbandon_mem (s : State) (pick : Nat → Bool) : (State.micCalsAbandon s pick).mem = s.mem
    := by
  unfold State.micCalsAbandon; simp

@[simp] theorem State.micCalsAgain_mem (s : State) : s.micCalsAgain.mem = s.mem := by
  unfold State.micCalsAgain; simp

theorem State.prerollMute_wf (s : State) (hw : Memory.wf s.mem = true) : Memory.wf (State.prerollMute s).mem = true :=
    by
  unfold State.prerollMute
  repeat' first
      | with_reducible assumption
      | intro _
      | with_reducible apply State.closeBlock_wf
      | with_reducible apply State.writeBlock_wf
      | with_reducible apply settleOps_wf
      | with_reducible apply when_wf
      | with_reducible apply each_wf
      | split
      | (simp only [])
      | (simp; done)
      | (simp [*])

theorem State.mute_wf (s : State) (hw : Memory.wf s.mem = true) : Memory.wf (State.mute s).mem = true := by
  unfold State.mute
  repeat' first
      | with_reducible assumption
      | intro _
      | with_reducible apply State.set_wf
      | with_reducible apply State.inc_wf
      | with_reducible apply State.prerollMute_wf
      | with_reducible apply settleOps_wf
      | split
      | (simp only [])
      | (simp; done)
      | (simp [*])

@[simp] theorem State.tryUnmute_mem (s : State) : s.tryUnmute.mem = s.mem := by
  unfold State.tryUnmute; simp

@[simp] theorem State.muteRelease_mem (s : State) : s.muteRelease.mem = s.mem := by
  unfold State.muteRelease; simp

theorem State.muteLedFails_wf (s : State) (shorted : Bool) (hw : Memory.wf s.mem = true) : Memory.wf
    (State.muteLedFails s shorted).mem = true := by
  unfold State.muteLedFails
  repeat' first
      | with_reducible assumption
      | intro _
      | with_reducible apply State.set_wf
      | with_reducible apply State.mute_wf
      | with_reducible apply settleOps_wf
      | split
      | (simp only [])
      | (simp; done)
      | (simp [*])

@[simp] theorem State.earStop_mem (s : State) : s.earStop.mem = s.mem := by
  unfold State.earStop; simp

@[simp] theorem State.micReject_mem (s : State) (m : Fin 16) (step : Nat) : (State.micReject s m step).mem = s.mem :=
    by
  unfold State.micReject; simp

/-! Alarms -/

@[simp] theorem State.haltFabric_mem (s : State) : s.haltFabric.mem = s.mem := by
  unfold State.haltFabric; simp

theorem State.alarmActions_wf (s : State) (hw : Memory.wf s.mem = true) : Memory.wf (State.alarmActions s).mem = true
    := by
  unfold State.alarmActions
  repeat' first
      | with_reducible assumption
      | intro _
      | with_reducible apply State.portsStop_wf
      | with_reducible apply settleOps_wf
      | split
      | (simp only [])
      | (simp; done)
      | (simp [*])

@[simp] theorem State.showPhases_mem (s : State) : s.showPhases.mem = s.mem := by
  unfold State.showPhases; simp

@[simp] theorem State.railStop_mem (s : State) : s.railStop.mem = s.mem := by
  unfold State.railStop; simp

theorem State.openDomains_wf (s : State) (hw : Memory.wf s.mem = true) : Memory.wf (State.openDomains s).mem = true :=
    by
  unfold State.openDomains
  repeat' first
      | with_reducible assumption
      | intro _
      | with_reducible apply State.penWiped_wf
      | with_reducible apply State.setLevel_wf
      | with_reducible apply settleOps_wf
      | with_reducible apply when_wf
      | with_reducible apply each_wf
      | split
      | (simp only [])
      | (simp; done)
      | (simp [*])

theorem State.withBoot_wf (s : State) (b : BootState) (hw : Memory.wf s.mem = true) :
    Memory.wf ({ s with boot := b } : State).mem = true := hw

theorem State.resetDue_wf (s : State) (cause : Nat) (hw : Memory.wf s.mem = true) : Memory.wf (State.resetDue s cause).mem = true := by
  unfold State.resetDue
  exact State.withBoot_wf _ _ (State.openDomains_wf s hw)

@[simp] theorem State.eraseVolatile_mem (s : State) : s.eraseVolatile.mem = s.mem := by
  unfold State.eraseVolatile; simp

@[simp] theorem State.detectRoot_mem (s : State) : s.detectRoot.mem = s.mem := by
  unfold State.detectRoot; simp

theorem State.alarmL3_wf (s : State) (took : Bool) (hw : Memory.wf s.mem = true) : Memory.wf (State.alarmL3 s
    took).mem = true := by
  unfold State.alarmL3
  repeat' first
      | with_reducible assumption
      | intro _
      | with_reducible apply State.alarmActions_wf
      | with_reducible apply State.set_wf
      | with_reducible apply settleOps_wf
      | split
      | (simp only [])
      | (simp; done)
      | (simp [*])

theorem State.alarm_wf (s : State) (src : Nat) (hw : Memory.wf s.mem = true) : Memory.wf (State.alarm s src).mem =
    true := by
  unfold State.alarm
  repeat' first
      | with_reducible assumption
      | intro _
      | with_reducible apply State.set_wf
      | with_reducible apply State.alarmL3_wf
      | with_reducible apply State.alarmActions_wf
      | with_reducible apply settleOps_wf
      | split
      | (simp only [])
      | (simp; done)
      | (simp [*])

@[simp] theorem State.dropIdentity_mem (s : State) : s.dropIdentity.mem = s.mem := by
  unfold State.dropIdentity; simp

@[simp] theorem State.dropGroup_mem (s : State) : s.dropGroup.mem = s.mem := by
  unfold State.dropGroup; simp

@[simp] theorem State.killSlot_mem (s : State) (k : Nat) : (State.killSlot s k).mem = s.mem := by
  unfold State.killSlot; simp

@[simp] theorem State.eraseKeys_mem (s : State) (killed : List (Fin 4)) : (State.eraseKeys s killed).mem = s.mem := by
  unfold State.eraseKeys; simp

theorem State.zeroiseOpen_wf (s : State) (hw : Memory.wf s.mem = true) : Memory.wf (State.zeroiseOpen s).mem = true :=
    by
  unfold State.zeroiseOpen
  repeat' first
      | with_reducible assumption
      | intro _
      | with_reducible apply State.openDomains_wf
      | with_reducible apply settleOps_wf
      | with_reducible apply when_wf
      | split
      | (simp only [])
      | (simp; done)
      | (simp [*])

/-! Keys -/

@[simp] theorem State.debugWrite_mem (s : State) (m : Master) (a : Nat) (f : State → State) (h_f : ∀ x0, (f x0).mem =
    x0.mem) : (State.debugWrite s m a f).mem = s.mem := by
  unfold State.debugWrite; simp [*]

theorem State.debugWrite_wf (s : State) (m : Master) (a : Nat) (f : State → State) (h_f : ∀ x0, Memory.wf x0.mem =
    true → Memory.wf (f x0).mem = true) (hw : Memory.wf s.mem = true) : Memory.wf (State.debugWrite s m a f).mem =
    true := by
  unfold State.debugWrite
  repeat' first
      | with_reducible assumption
      | intro _
      | with_reducible apply h_f
      | with_reducible apply State.writeAs_wf
      | with_reducible apply settleOps_wf
      | split
      | (simp only [])
      | (simp; done)
      | (simp [*])

@[simp] theorem State.lcRequest_mem (s : State) (v : Word) (killed : List (Fin 4)) : (State.lcRequest s v killed).mem
    = s.mem := by
  unfold State.lcRequest; simp

@[simp] theorem State.otpStage_mem (s : State) (k : Nat) (v : Word) : (State.otpStage s k v).mem = s.mem := by
  unfold State.otpStage; simp

@[simp] theorem State.keyRefused_mem (s : State) (r : Nat) : (State.keyRefused s r).mem = s.mem := by
  unfold State.keyRefused; simp

@[simp] theorem State.install_mem (s : State) : s.install.mem = s.mem := by
  unfold State.install
  (try dsimp only); (repeat' split) <;> simp

@[simp] theorem State.eraseGroupKey_mem (s : State) (failed : Bool) : (State.eraseGroupKey s failed).mem = s.mem := by
  unfold State.eraseGroupKey; simp

@[simp] theorem State.keyCmd_mem (s : State) (v : Word) (failed : Bool) : (State.keyCmd s v failed).mem = s.mem := by
  unfold State.keyCmd; simp

@[simp] theorem State.runKey_mem (s : State) (o : KeyOp) : (s.runKey o).mem = s.mem := by
  cases o <;> simp [State.runKey]

@[simp] theorem State.keyOp_mem (s : State) (o : KeyOp) : (State.keyOp s o).mem = s.mem := by
  unfold State.keyOp
  (try dsimp only); (repeat' split) <;> simp

@[simp] theorem State.keyIn_mem (s : State) (k : Nat) (v : Word) : (State.keyIn s k v).mem = s.mem := by
  unfold State.keyIn; simp

@[simp] theorem State.setIr_mem (s : State) (c : Nat) : (State.setIr s c).mem = s.mem := by
  unfold State.setIr; simp

theorem State.scanHolds_wf (s : State) (hw : Memory.wf s.mem = true) : Memory.wf (State.scanHolds s).mem = true := by
  unfold State.scanHolds
  repeat' first
      | with_reducible assumption
      | intro _
      | with_reducible apply State.portsStop_wf
      | with_reducible apply State.set_wf
      | with_reducible apply settleOps_wf
      | split
      | (simp only [])
      | (simp; done)
      | (simp [*])

@[simp] theorem State.jtag?_mem (s : State) (f : State → State) (h_f : ∀ x0, (f x0).mem = x0.mem) : (State.jtag? s
    f).mem = s.mem := by
  unfold State.jtag?; simp [*]

theorem State.jtag?_wf (s : State) (f : State → State) (h_f : ∀ x0, Memory.wf x0.mem = true → Memory.wf (f x0).mem =
    true) (hw : Memory.wf s.mem = true) : Memory.wf (State.jtag? s f).mem = true := by
  unfold State.jtag?
  repeat' first
      | with_reducible assumption
      | intro _
      | with_reducible apply h_f
      | with_reducible apply settleOps_wf
      | split
      | (simp only [])
      | (simp; done)
      | (simp [*])

theorem State.unlock_wf (s : State) (scope : Nat) (hw : Memory.wf s.mem = true) : Memory.wf (State.unlock s
    scope).mem = true := by
  unfold State.unlock
  repeat' first
      | with_reducible assumption
      | intro _
      | with_reducible apply State.penWiped_wf
      | with_reducible apply State.set_wf
      | with_reducible apply settleOps_wf
      | with_reducible apply when_wf
      | split
      | (simp only [])
      | (simp; done)
      | (simp [*])

theorem State.unlockFails_wf (s : State) (code : Nat) (hw : Memory.wf s.mem = true) : Memory.wf (State.unlockFails s
    code).mem = true := by
  unfold State.unlockFails
  repeat' first
      | with_reducible assumption
      | intro _
      | with_reducible apply State.set_wf
      | with_reducible apply State.alarm_wf
      | with_reducible apply settleOps_wf
      | with_reducible apply when_wf
      | split
      | (simp only [])
      | (simp; done)
      | (simp [*])

/-! Gate -/

@[simp] theorem State.freeOutbox_mem (s : State) : s.freeOutbox.mem = s.mem := by
  unfold State.freeOutbox; simp

@[simp] theorem State.tellPcie_mem (s : State) : s.tellPcie.mem = s.mem := by
  unfold State.tellPcie; simp

@[simp] theorem State.attach_mem (s : State) (o : Nat) : (State.attach s o).mem = s.mem := by
  unfold State.attach; simp

@[simp] theorem State.detach_mem (s : State) (o : Nat) : (State.detach s o).mem = s.mem := by
  unfold State.detach; simp

@[simp] theorem State.pcieFalls_mem (s : State) : s.pcieFalls.mem = s.mem := by
  unfold State.pcieFalls; simp

@[simp] theorem State.hostDrop_mem (s : State) : s.hostDrop.mem = s.mem := by
  unfold State.hostDrop; simp

@[simp] theorem State.consume_mem (s : State) (o : Nat) : (State.consume s o).mem = s.mem := by
  unfold State.consume; simp

@[simp] theorem State.firstFail_mem (s : State) (type : Nat) (step : Nat) (id : Nat) : (State.firstFail s type step
    id).mem = s.mem := by
  unfold State.firstFail; simp

theorem State.gateFail_wf (s : State) (p : Presented) (step : Nat) (id : Nat) (param : Nat) (hw : Memory.wf s.mem =
    true) : Memory.wf (State.gateFail s p step id param).mem = true := by
  unfold State.gateFail
  repeat' first
      | with_reducible assumption
      | intro _
      | with_reducible apply State.inc_wf
      | with_reducible apply State.alarm_wf
      | with_reducible apply settleOps_wf
      | split
      | (simp only [])
      | (simp; done)
      | (simp [*])

theorem State.gatePass_wf (s : State) (p : Presented) (i : Nat) (seq : Nat) (hw : Memory.wf s.mem = true) : Memory.wf
    (State.gatePass s p i seq).mem = true := by
  unfold State.gatePass
  repeat' first
      | with_reducible assumption
      | intro _
      | with_reducible apply State.set_wf
      | with_reducible apply State.setAt_wf
      | with_reducible apply State.yardWrite_wf
      | with_reducible apply settleOps_wf
      | with_reducible apply MemState.write_wf
      | split
      | (simp only [])
      | (simp; done)
      | (simp [*])

theorem State.gateCheck_wf (s : State) (p : Presented) (hw : Memory.wf s.mem = true) : Memory.wf (State.gateCheck s
    p).mem = true := by
  unfold State.gateCheck
  repeat' first
      | with_reducible assumption
      | intro _
      | with_reducible apply State.gateFail_wf
      | with_reducible apply State.setAt_wf
      | with_reducible apply State.gatePass_wf
      | with_reducible apply State.incAt_wf
      | with_reducible apply settleOps_wf
      | split
      | (simp only [])
      | (simp; done)
      | (simp [*])

theorem State.linkRefused_wf (s : State) (chip : Nat) (hw : Memory.wf s.mem = true) : Memory.wf (State.linkRefused s
    chip).mem = true := by
  unfold State.linkRefused
  repeat' first
      | with_reducible assumption
      | intro _
      | with_reducible apply State.inc_wf
      | with_reducible apply State.alarm_wf
      | with_reducible apply settleOps_wf
      | split
      | (simp only [])
      | (simp; done)
      | (simp [*])

theorem State.penAccess_wf (s : State) (who : Nat) (hw : Memory.wf s.mem = true) : Memory.wf (State.penAccess s
    who).mem = true := by
  unfold State.penAccess
  repeat' first
      | with_reducible assumption
      | intro _
      | with_reducible apply State.alarm_wf
      | with_reducible apply settleOps_wf
      | split
      | (simp only [])
      | (simp; done)
      | (simp [*])

/-! Rows -/

@[simp] theorem State.putRecord_mem (s : State) (st : Nat) (b : List Byte) : (State.putRecord s st b).mem = s.mem :=
    by
  unfold State.putRecord; simp

@[simp] theorem State.unvalidate_mem (s : State) (st : Nat) : (State.unvalidate s st).mem = s.mem := by
  unfold State.unvalidate; simp

@[simp] theorem State.putRows_mem (s : State) (st : Nat) (rows : List Nat) (new : Nat → List Byte) : (State.putRows s
    st rows new).mem = s.mem := by
  unfold State.putRows; simp

@[simp] theorem State.writeRows_mem (s : State) (st : Nat) (rows : List Nat) : (State.writeRows s st rows).mem =
    s.mem := by
  unfold State.writeRows; simp

@[simp] theorem State.spoilRows_mem (s : State) (st : Nat) (rows : List Nat) : (State.spoilRows s st rows).mem = s.mem
    := by
  unfold State.spoilRows; simp

@[simp] theorem State.setJob_mem (s : State) (st : Nat) (j : ProgJob) : (State.setJob s st j).mem = s.mem := by
  unfold State.setJob; simp

@[simp] theorem State.showCim_mem (s : State) : s.showCim.mem = s.mem := by
  unfold State.showCim; simp

@[simp] theorem State.haltRows_mem (s : State) (st : Nat) (stood : Bool) : (State.haltRows s st stood).mem = s.mem :=
    by
  unfold State.haltRows
  (try dsimp only); (repeat' split) <;> simp

@[simp] theorem State.dropJob_mem (s : State) (st : Nat) : (State.dropJob s st).mem = s.mem := by
  unfold State.dropJob; simp

@[simp] theorem State.stopProgram_mem (s : State) (st : Nat) : (State.stopProgram s st).mem = s.mem := by
  unfold State.stopProgram; simp

/-! Tiles -/

@[simp] theorem State.setStall_mem (s : State) (st : Nat) (x : StallSt) : (State.setStall s st x).mem = s.mem := by
  unfold State.setStall; simp

@[simp] theorem State.setNum_mem (s : State) (i : Nat) (x : NumSlot) : (State.setNum s i x).mem = s.mem := by
  unfold State.setNum; simp

@[simp] theorem State.showNum_mem (s : State) (i : Nat) : (State.showNum s i).mem = s.mem := by
  unfold State.showNum; simp

@[simp] theorem State.joinNum_mem (s : State) (i : Nat) : (State.joinNum s i).1.mem = s.mem := by
  unfold State.joinNum; simp

@[simp] theorem State.numLimit_mem (s : State) (i : Nat) (dir : Nat) : (State.numLimit s i dir).mem = s.mem := by
  unfold State.numLimit; simp

@[simp] theorem State.moveExp_mem (s : State) (i : Nat) (by_ : Int) (code : Nat) : (State.moveExp s i by_ code).mem =
    s.mem := by
  unfold State.moveExp; simp

@[simp] theorem State.adapt_mem (s : State) (i : Nat) (share : Nat) : (State.adapt s i share).mem = s.mem := by
  unfold State.adapt; simp

@[simp] theorem State.closeStep_mem (s : State) (i : Nat) (st : NumStep) : (State.closeStep s i st).mem = s.mem := by
  unfold State.closeStep; simp

theorem closeSteps_mem (n i : Nat) (s : State) : (closeSteps n i s).mem = s.mem := by
  induction n generalizing s with
  | zero => rfl
  | succ n ih =>
    unfold closeSteps
    dsimp only
    split
    · rw [ih]; simp
    · rfl

@[simp] theorem State.foldNum_mem (s : State) (ok : Bool) (t : TileNum) : (State.foldNum s ok t).mem = s.mem := by
  unfold State.foldNum; simp [closeSteps_mem]

@[simp] theorem State.resetNums_mem (s : State) : s.resetNums.mem = s.mem := by
  unfold State.resetNums; simp

@[simp] theorem State.dropEarly_mem (s : State) (st : Nat) : (State.dropEarly s st).mem = s.mem := by
  unfold State.dropEarly; simp

@[simp] theorem State.workVote_mem (s : State) (d : Nat) (on : Bool) : (State.workVote s d on).mem = s.mem := by
  unfold State.workVote; simp

@[simp] theorem State.rowVotes_mem (s : State) : s.rowVotes.mem = s.mem := by
  unfold State.rowVotes; simp

theorem MemState.overlay_wf (m : MemState) (ws : List TileWrite) (h : Memory.wf m = true) :
    Memory.wf (m.overlay ws) = true := by
  unfold MemState.overlay
  induction ws generalizing m with
  | nil => exact h
  | cons w ws ih => exact ih _ (m.write_wf _ _ _ _ h)

theorem State.publish_wf (s : State) (t : TileJob) (h : Memory.wf s.mem = true) : Memory.wf (State.publish s t).mem = true := by
  unfold State.publish
  refine each_wf _ _ _ (fun x n hx => by simpa using hx) ?_
  apply when_wf
  · intro x hx; simpa using hx
  · exact each_wf _ _ _ (fun x a hx => by simpa using hx) (s.mem.overlay_wf _ h)

theorem State.finishTile_wf (s : State) (t : TileJob) (status : Nat) (hw : Memory.wf s.mem = true) : Memory.wf
    (State.finishTile s t status).mem = true := by
  unfold State.finishTile
  repeat' first
      | with_reducible assumption
      | intro _
      | with_reducible apply State.publish_wf
      | with_reducible apply State.settle_wf
      | with_reducible apply State.endEntry_wf
      | with_reducible apply settleOps_wf
      | with_reducible apply each_wf
      | split
      | (simp only [])
      | (simp; done)
      | (simp [*])

theorem State.tileFailed_wf (s : State) (st : Nat) (t : TileJob) (status : Nat) (hw : Memory.wf s.mem = true) :
    Memory.wf (State.tileFailed s st t status).mem = true := by
  unfold State.tileFailed
  repeat' first
      | with_reducible assumption
      | intro _
      | with_reducible apply State.inc_wf
      | with_reducible apply State.finishTile_wf
      | with_reducible apply settleOps_wf
      | split
      | (simp only [])
      | (simp; done)
      | (simp [*])

@[simp] theorem State.putTile_mem (s : State) (st : Nat) (t : TileJob) : (State.putTile s st t).mem = s.mem := by
  unfold State.putTile; simp

theorem State.regate_wf (s : State) (st : Nat) (t : TileJob) (hw : Memory.wf s.mem = true) : Memory.wf (State.regate
    s st t).mem = true := by
  unfold State.regate
  repeat' first
      | with_reducible assumption
      | intro _
      | with_reducible apply State.satisfy_wf
      | with_reducible apply settleOps_wf
      | split
      | (simp only [])
      | (simp; done)
      | (simp [*])

theorem State.reissueOne_wf (s : State) (t0 : TileJob) (hw : Memory.wf s.mem = true) : Memory.wf (State.reissueOne s
    t0).mem = true := by
  unfold State.reissueOne
  repeat' first
      | with_reducible assumption
      | intro _
      | with_reducible apply State.regate_wf
      | with_reducible apply State.inc_wf
      | with_reducible apply State.tileFailed_wf
      | with_reducible apply settleOps_wf
      | split
      | (simp only [])
      | (simp; done)
      | (simp [*])

theorem State.serveReissues_wf (s : State) (hw : Memory.wf s.mem = true) : Memory.wf (State.serveReissues s).mem =
    true := by
  unfold State.serveReissues
  repeat' first
      | with_reducible assumption
      | intro _
      | with_reducible apply State.reissueOne_wf
      | with_reducible apply settleOps_wf
      | with_reducible apply each_wf
      | split
      | (simp only [])
      | (simp; done)
      | (simp [*])

theorem State.stallFailed_wf (s : State) (st : Nat) (t : TileJob) (status : Nat) (hw : Memory.wf s.mem = true) :
    Memory.wf (State.stallFailed s st t status).mem = true := by
  unfold State.stallFailed
  repeat' first
      | with_reducible assumption
      | intro _
      | with_reducible apply State.setAt_wf
      | with_reducible apply State.tileFailed_wf
      | with_reducible apply settleOps_wf
      | split
      | (simp only [])
      | (simp; done)
      | (simp [*])

theorem State.abandonTile_wf (s : State) (st : Nat) (t : TileJob) (watchdog : Bool) (hw : Memory.wf s.mem = true) :
    Memory.wf (State.abandonTile s st t watchdog).mem = true := by
  unfold State.abandonTile
  repeat' first
      | with_reducible assumption
      | intro _
      | with_reducible apply State.stallFailed_wf
      | with_reducible apply settleOps_wf
      | split
      | (simp only [])
      | (simp; done)
      | (simp [*])

theorem State.stallIdle_wf (s : State) (st : Nat) (hw : Memory.wf s.mem = true) : Memory.wf (State.stallIdle s
    st).mem = true := by
  unfold State.stallIdle
  repeat' first
      | with_reducible assumption
      | intro _
      | with_reducible apply State.serveReissues_wf
      | with_reducible apply settleOps_wf
      | split
      | (simp only [])
      | (simp; done)
      | (simp [*])

theorem State.endStallTile_wf (s : State) (st : Nat) (status : Nat) (hw : Memory.wf s.mem = true) : Memory.wf
    (State.endStallTile s st status).mem = true := by
  unfold State.endStallTile
  repeat' first
      | with_reducible assumption
      | intro _
      | with_reducible apply State.setAt_wf
      | with_reducible apply State.finishTile_wf
      | with_reducible apply State.stallIdle_wf
      | with_reducible apply settleOps_wf
      | split
      | (simp only [])
      | (simp; done)
      | (simp [*])

@[simp] theorem State.reservedLost_mem (s : State) : s.reservedLost.mem = s.mem := by
  unfold State.reservedLost; simp

theorem State.stopTile_wf (s : State) (st : Nat) (t : TileJob) (watchdog : Bool) (hw : Memory.wf s.mem = true) :
    Memory.wf (State.stopTile s st t watchdog).mem = true := by
  unfold State.stopTile
  repeat' first
      | with_reducible assumption
      | intro _
      | with_reducible apply State.setAt_wf
      | with_reducible apply State.finishTile_wf
      | with_reducible apply State.abandonTile_wf
      | with_reducible apply settleOps_wf
      | split
      | (simp only [])
      | (simp; done)
      | (simp [*])

theorem State.stopStall_wf (s : State) (st : Nat) (watchdog : Bool) (hw : Memory.wf s.mem = true) : Memory.wf
    (State.stopStall s st watchdog).mem = true := by
  unfold State.stopStall
  repeat' first
      | with_reducible assumption
      | intro _
      | with_reducible apply State.stopTile_wf
      | with_reducible apply settleOps_wf
      | split
      | (simp only [])
      | (simp; done)
      | (simp [*])

theorem State.fence_wf (s : State) (st : Nat) (cause : Nat) (hw : Memory.wf s.mem = true) : Memory.wf (State.fence s
    st cause).mem = true := by
  unfold State.fence
  repeat' first
      | with_reducible assumption
      | intro _
      | with_reducible apply State.setMaskBit_wf
      | with_reducible apply State.setAt_wf
      | with_reducible apply State.stopStall_wf
      | with_reducible apply State.serveReissues_wf
      | with_reducible apply State.loseStall_wf
      | with_reducible apply MemState.loseStall_wf
      | with_reducible apply settleOps_wf
      | with_reducible apply when_wf
      | split
      | (simp only [])
      | (simp; done)
      | (simp [*])

/-! Fabric -/

theorem State.rejectDesc_wf (s : State) (st : Nat) (status : Nat) (hw : Memory.wf s.mem = true) : Memory.wf
    (State.rejectDesc s st status).mem = true := by
  unfold State.rejectDesc
  repeat' first
      | with_reducible assumption
      | intro _
      | with_reducible apply State.inc_wf
      | with_reducible apply State.endStallTile_wf
      | with_reducible apply settleOps_wf
      | with_reducible apply when_wf
      | split
      | (simp only [])
      | (simp; done)
      | (simp [*])

theorem State.reachAll_wf (s : State) (e : Engine) (rs : List Region) (f g : State → State)
    (h_f : ∀ x0, Memory.wf x0.mem = true → Memory.wf (f x0).mem = true)
    (h_g : ∀ x0, Memory.wf x0.mem = true → Memory.wf (g x0).mem = true) (h : Memory.wf s.mem = true) :
    Memory.wf (State.reachAll s e rs f g).mem = true := by
  induction rs generalizing s with
  | nil => exact h_f s h
  | cons r rest ih =>
    unfold State.reachAll
    split
    · split
      · exact ih s h
      · refine State.reach_wf _ _ _ _ _ _ (fun x hx => ?_) h_g h
        exact State.reach_wf _ _ _ _ _ _ (fun y hy => ih y hy) h_g hx
    · exact State.access_wf _ _ _ _ _ (fun x hx => ih x hx) h_g h
    · exact ih s h

theorem State.reachStall_wf (s : State) (st : Nat) (rs : List Region) (f : State → State) (h_f : ∀ x0, Memory.wf
    x0.mem = true → Memory.wf (f x0).mem = true) (hw : Memory.wf s.mem = true) : Memory.wf (State.reachStall s st rs
    f).mem = true := by
  unfold State.reachStall
  repeat' first
      | with_reducible assumption
      | intro _
      | with_reducible apply h_f
      | with_reducible apply State.reachAll_wf
      | with_reducible apply State.endStallTile_wf
      | with_reducible apply settleOps_wf
      | split
      | (simp only [])
      | (simp; done)
      | (simp [*])

@[simp] theorem State.latch_mem (s : State) (t : TileJob) (d : Desc) : (State.latch s t d).1.mem = s.mem := by
  unfold State.latch
  (try dsimp only); (repeat' split) <;> simp

theorem State.startDesc_wf (s : State) (st : Nat) (t : TileJob) (d : Desc) (f : State → TileJob → Desc → State) (h_f :
    ∀ x0 x1 x2, Memory.wf x0.mem = true → Memory.wf (f x0 x1 x2).mem = true) (hw : Memory.wf s.mem = true) : Memory.wf
    (State.startDesc s st t d f).mem = true := by
  unfold State.startDesc
  repeat' first
      | with_reducible assumption
      | intro _
      | with_reducible apply h_f
      | with_reducible apply settleOps_wf
      | split
      | (simp only [])
      | (simp; done)
      | (simp [*])

theorem State.tableChecked_wf (s : State) (st : Nat) (t : TileJob) (d : Desc) (f : State → State) (h_f : ∀ x0,
    Memory.wf x0.mem = true → Memory.wf (f x0).mem = true) (hw : Memory.wf s.mem = true) : Memory.wf
    (State.tableChecked s st t d f).mem = true := by
  unfold State.tableChecked
  repeat' first
      | with_reducible assumption
      | intro _
      | with_reducible apply h_f
      | with_reducible apply State.reachStall_wf
      | with_reducible apply State.rejectDesc_wf
      | with_reducible apply settleOps_wf
      | split
      | (simp only [])
      | (simp; done)
      | (simp [*])

theorem State.onDesc_wf (s : State) (st : Nat) (op : Nat) (func : Nat) (f : State → TileJob → Desc → State) (h_f : ∀
    x0 x1 x2, Memory.wf x0.mem = true → Memory.wf (f x0 x1 x2).mem = true) (hw : Memory.wf s.mem = true) : Memory.wf
    (State.onDesc s st op func f).mem = true := by
  unfold State.onDesc
  repeat' first
      | with_reducible assumption
      | intro _
      | with_reducible apply h_f
      | with_reducible apply State.rejectDesc_wf
      | with_reducible apply State.tableChecked_wf
      | with_reducible apply State.startDesc_wf
      | with_reducible apply State.reach_wf
      | with_reducible apply State.endStallTile_wf
      | with_reducible apply settleOps_wf
      | split
      | (simp only [])
      | (simp; done)
      | (simp [*])

theorem State.descDone_wf (s : State) (st : Nat) (t : TileJob) (d : Desc) (hw : Memory.wf s.mem = true) : Memory.wf
    (State.descDone s st t d).mem = true := by
  unfold State.descDone
  repeat' first
      | with_reducible assumption
      | intro _
      | with_reducible apply State.publish_wf
      | with_reducible apply State.settle_wf
      | with_reducible apply settleOps_wf
      | split
      | (simp only [])
      | (simp; done)
      | (simp [*])

@[simp] theorem State.numFaults_mem (s : State) (st : Nat) (nonfinite : Nat) (past : Nat) : (State.numFaults s st
    nonfinite past).mem = s.mem := by
  unfold State.numFaults; simp

theorem State.putOutputs_wf (s : State) (st : Nat) (t : TileJob) (d : Desc) (taint : Nat) (nonfinite : Nat) (vs :
    List (List OutVal)) (hw : Memory.wf s.mem = true) : Memory.wf (State.putOutputs s st t d taint nonfinite vs).mem
    = true := by
  unfold State.putOutputs
  repeat' first
      | with_reducible assumption
      | intro _
      | with_reducible apply State.descDone_wf
      | with_reducible apply settleOps_wf
      | split
      | (simp only [])
      | (simp; done)
      | (simp [*])

theorem State.penReady_wf (s : State) (st : Nat) (d : Desc) (f : State → State) (h_f : ∀ x0, Memory.wf x0.mem = true
    → Memory.wf (f x0).mem = true) (hw : Memory.wf s.mem = true) : Memory.wf (State.penReady s st d f).mem = true :=
    by
  unfold State.penReady
  repeat' first
      | with_reducible assumption
      | intro _
      | with_reducible apply h_f
      | with_reducible apply State.endStallTile_wf
      | with_reducible apply settleOps_wf
      | split
      | (simp only [])
      | (simp; done)
      | (simp [*])

theorem State.runMatmul_wf (s : State) (st : Nat) (t : TileJob) (d : Desc) (hw : Memory.wf s.mem = true) : Memory.wf
    (State.runMatmul s st t d).mem = true := by
  unfold State.runMatmul
  repeat' first
      | with_reducible assumption
      | intro _
      | with_reducible apply State.putOutputs_wf
      | with_reducible apply settleOps_wf
      | split
      | (simp only [])
      | (simp; done)
      | (simp [*])

theorem State.runCim_wf (s : State) (st : Nat) (t : TileJob) (d : Desc) (hw : Memory.wf s.mem = true) : Memory.wf
    (State.runCim s st t d).mem = true := by
  unfold State.runCim
  repeat' first
      | with_reducible assumption
      | intro _
      | with_reducible apply State.putOutputs_wf
      | with_reducible apply settleOps_wf
      | with_reducible apply when_wf
      | split
      | (simp only [])
      | (simp; done)
      | (simp [*])

theorem State.runVector_wf (s : State) (st : Nat) (t : TileJob) (d : Desc) (hw : Memory.wf s.mem = true) : Memory.wf
    (State.runVector s st t d).mem = true := by
  unfold State.runVector
  repeat' first
      | with_reducible assumption
      | intro _
      | with_reducible apply State.putOutputs_wf
      | with_reducible apply settleOps_wf
      | split
      | (simp only [])
      | (simp; done)
      | (simp [*])

theorem State.vector_wf (s : State) (st : Nat) (func : Nat) (hw : Memory.wf s.mem = true) : Memory.wf (State.vector s
    st func).mem = true := by
  unfold State.vector
  repeat' first
      | with_reducible assumption
      | intro _
      | with_reducible apply State.onDesc_wf
      | with_reducible apply State.reachStall_wf
      | with_reducible apply State.penReady_wf
      | with_reducible apply State.runVector_wf
      | with_reducible apply settleOps_wf
      | split
      | (simp only [])
      | (simp; done)
      | (simp [*])

@[simp] theorem State.saturated11_mem (s : State) (st : Nat) (n : Nat) : (State.saturated11 s st n).mem = s.mem := by
  unfold State.saturated11; simp

theorem State.putBlock_wf (s : State) (st : Nat) (t : TileJob) (d : Desc) (taint : Nat) (codes : List (List Int))
    (bytes : List Byte) (hw : Memory.wf s.mem = true) : Memory.wf (State.putBlock s st t d taint codes bytes).mem =
    true := by
  unfold State.putBlock
  repeat' first
      | with_reducible assumption
      | intro _
      | with_reducible apply State.descDone_wf
      | with_reducible apply settleOps_wf
      | split
      | (simp only [])
      | (simp; done)
      | (simp [*])

theorem State.runBackward_wf (s : State) (st : Nat) (t : TileJob) (d : Desc) (hw : Memory.wf s.mem = true) :
    Memory.wf (State.runBackward s st t d).mem = true := by
  unfold State.runBackward
  repeat' first
      | with_reducible assumption
      | intro _
      | with_reducible apply State.putBlock_wf
      | with_reducible apply settleOps_wf
      | split
      | (simp only [])
      | (simp; done)
      | (simp [*])

theorem State.runUpdate_wf (s : State) (st : Nat) (t : TileJob) (d : Desc) (hw : Memory.wf s.mem = true) : Memory.wf
    (State.runUpdate s st t d).mem = true := by
  unfold State.runUpdate
  repeat' first
      | with_reducible assumption
      | intro _
      | with_reducible apply State.putBlock_wf
      | with_reducible apply settleOps_wf
      | split
      | (simp only [])
      | (simp; done)
      | (simp [*])

theorem State.takeEmit_wf (s : State) (st : Nat) (hw : Memory.wf s.mem = true) : Memory.wf (State.takeEmit s st).mem
    = true := by
  unfold State.takeEmit
  repeat' first
      | with_reducible assumption
      | intro _
      | with_reducible apply State.gateCheck_wf
      | with_reducible apply State.descDone_wf
      | with_reducible apply settleOps_wf
      | split
      | (simp only [])
      | (simp; done)
      | (simp [*])

theorem State.evalWindow_wf (s : State) (st : Nat) (w : WinDone) (hw : Memory.wf s.mem = true) : Memory.wf
    (State.evalWindow s st w).mem = true := by
  unfold State.evalWindow
  repeat' first
      | with_reducible assumption
      | intro _
      | with_reducible apply State.setAt_wf
      | with_reducible apply State.fence_wf
      | with_reducible apply settleOps_wf
      | with_reducible apply when_wf
      | split
      | (simp only [])
      | (simp; done)
      | (simp [*])

/-! Cim -/

@[simp] theorem State.showWear_mem (s : State) (st : Nat) : (State.showWear s st).mem = s.mem := by
  unfold State.showWear; simp

@[simp] theorem State.addWear_mem (s : State) (st : Nat) (rows : List Nat) : (State.addWear s st rows).mem = s.mem :=
    by
  unfold State.addWear; simp

@[simp] theorem State.subWear_mem (s : State) (st : Nat) (rows : List Nat) : (State.subWear s st rows).mem = s.mem :=
    by
  unfold State.subWear; simp

@[simp] theorem State.setMarks_mem (s : State) (st : Nat) (rows : List Nat) : (State.setMarks s st rows).mem = s.mem
    := by
  unfold State.setMarks; simp

@[simp] theorem State.beginProgram_mem (s : State) (st : Nat) : (State.beginProgram s st).mem = s.mem := by
  unfold State.beginProgram; simp

@[simp] theorem State.finishProgram_mem (s : State) (st : Nat) (j : ProgJob) : (State.finishProgram s st j).mem =
    s.mem := by
  unfold State.finishProgram; simp

theorem State.verifyFails_wf (s : State) (st : Nat) (j : ProgJob) (row : Nat) (hw : Memory.wf s.mem = true) :
    Memory.wf (State.verifyFails s st j row).mem = true := by
  unfold State.verifyFails
  repeat' first
      | with_reducible assumption
      | intro _
      | with_reducible apply State.fence_wf
      | with_reducible apply settleOps_wf
      | split
      | (simp only [])
      | (simp; done)
      | (simp [*])

@[simp] theorem State.rowRetries_mem (s : State) (st : Nat) (j : ProgJob) (l : List (BitVec 8 × Fin 4)) :
    (State.rowRetries s st j l).mem = s.mem := by
  unfold State.rowRetries; simp

theorem State.programEnds_wf (s : State) (st : Nat) (j : ProgJob) (m : ProgMeas) (hw : Memory.wf s.mem = true) :
    Memory.wf (State.programEnds s st j m).mem = true := by
  unfold State.programEnds
  repeat' first
      | with_reducible assumption
      | intro _
      | with_reducible apply State.verifyFails_wf
      | with_reducible apply settleOps_wf
      | split
      | (simp only [])
      | (simp; done)
      | (simp [*])

theorem State.timesOut_wf (s : State) (st : Nat) (j : ProgJob) (hw : Memory.wf s.mem = true) : Memory.wf
    (State.timesOut s st j).mem = true := by
  unfold State.timesOut
  repeat' first
      | with_reducible assumption
      | intro _
      | with_reducible apply State.draw_wf
      | with_reducible apply State.verifyFails_wf
      | with_reducible apply settleOps_wf
      | split
      | (simp only [])
      | (simp; done)
      | (simp [*])

theorem State.startProgram_wf (s : State) (st : Nat) (hw : Memory.wf s.mem = true) : Memory.wf (State.startProgram s
    st).mem = true := by
  unfold State.startProgram
  repeat' first
      | with_reducible assumption
      | intro _
      | with_reducible apply State.access_wf
      | with_reducible apply settleOps_wf
      | split
      | (simp only [])
      | (simp; done)
      | (simp [*])

@[simp] theorem State.interruptProgram_mem (s : State) (st : Nat) (clamp : Bool) : (State.interruptProgram s st
    clamp).mem = s.mem := by
  unfold State.interruptProgram
  (try dsimp only); (repeat' split) <;> simp

@[simp] theorem State.interruptRows_mem (s : State) (rows : List Nat) (clamp : Bool) : (State.interruptRows s rows
    clamp).mem = s.mem := by
  unfold State.interruptRows; simp

@[simp] theorem State.reverify_mem (s : State) (st : Nat) : (State.reverify s st).mem = s.mem := by
  unfold State.reverify
  (try dsimp only); (repeat' split) <;> simp

@[simp] theorem State.reverifyAll_mem (s : State) : s.reverifyAll.mem = s.mem := by
  unfold State.reverifyAll; simp

@[simp] theorem State.refuseCommit_mem (s : State) (w : WsetCfg) (st : Nat) (cause : Nat) : (State.refuseCommit s w
    st cause).mem = s.mem := by
  unfold State.refuseCommit; simp

@[simp] theorem State.commitJob_mem (s : State) (w : WsetCfg) (st : Nat) (taint : Nat) (rows : List Nat) (new : Nat →
    List Byte) : (State.commitJob s w st taint rows new).mem = s.mem := by
  unfold State.commitJob; simp

@[simp] theorem State.commitFrom_mem (s : State) (w : WsetCfg) (m : Nat) (k : Nat) (mode : Nat) : (State.commitFrom s
    w m k mode).mem = s.mem := by
  unfold State.commitFrom
  (try dsimp only); (repeat' split) <;> simp

theorem State.reachLoft_wf (s : State) (off : Nat) (len : Nat) (f : State → State) (g : State → State) (h_f : ∀ x0,
    Memory.wf x0.mem = true → Memory.wf (f x0).mem = true) (h_g : ∀ x0, Memory.wf x0.mem = true → Memory.wf (g x0).mem
    = true) (hw : Memory.wf s.mem = true) : Memory.wf (State.reachLoft s off len f g).mem = true := by
  unfold State.reachLoft
  repeat' first
      | with_reducible assumption
      | intro _
      | with_reducible apply h_f
      | with_reducible apply h_g
      | with_reducible apply State.reach_wf
      | with_reducible apply settleOps_wf
      | split
      | (simp only [])
      | (simp; done)
      | (simp [*])

@[simp] theorem State.commitUnrecorded_mem (s : State) : s.commitUnrecorded.mem = s.mem := by
  unfold State.commitUnrecorded
  split
  · with_reducible rfl
  · split
    · with_reducible rfl
    · rw [State.refuseCommit_mem]
      refine each_mem _ _ _ (fun x st => ?_)
      split
      · rw [State.stopProgram_mem, State.subWear_mem]
      · with_reducible rfl

@[simp] theorem State.wearRecorded_mem (s : State) (ok : Bool) : (State.wearRecorded s ok).mem = s.mem := by
  unfold State.wearRecorded; simp

theorem State.commitEnds_wf (s : State) (w : WsetCfg) (c : CommitSt) (hw : Memory.wf s.mem = true) : Memory.wf
    (State.commitEnds s w c).mem = true := by
  unfold State.commitEnds
  repeat' first
      | with_reducible assumption
      | intro _
      | with_reducible apply State.inc_wf
      | with_reducible apply State.serveReissues_wf
      | with_reducible apply settleOps_wf
      | with_reducible apply MemState.write_wf
      | split
      | (simp only [])
      | (simp; done)
      | (simp [*])

@[simp] theorem State.columnReject_mem (s : State) (st : Fin 96) (step : Nat) : (State.columnReject s st step).mem =
    s.mem := by
  unfold State.columnReject; simp

/-! Yard -/

@[simp] theorem State.setSlot_mem (s : State) (i : Nat) (x : YardSlot) : (State.setSlot s i x).mem = s.mem := by
  unfold State.setSlot; simp

@[simp] theorem State.syncVotes_mem (s : State) : s.syncVotes.mem = s.mem := by
  unfold State.syncVotes; simp

@[simp] theorem State.slotFault_mem (s : State) (i : Nat) (cause : Nat) : (State.slotFault s i cause).mem = s.mem :=
    by
  unfold State.slotFault; simp

@[simp] theorem State.startRun_mem (s : State) (i : Nat) (miss : Bool) : (State.startRun s i miss).mem = s.mem := by
  unfold State.startRun
  (try dsimp only); (repeat' split) <;> simp

@[simp] theorem State.trigger_mem (s : State) (k : Nat) (x : Nat) : (State.trigger s k x).mem = s.mem := by
  unfold State.trigger; simp

@[simp] theorem State.meet_mem (s : State) (k : Nat) (x : Nat) : (State.meet s k x).mem = s.mem := by
  unfold State.meet; simp

@[simp] theorem State.charge_mem (s : State) (i : Nat) (n : Nat) (f : State → State) (h_f : ∀ x0, (f x0).mem =
    x0.mem) : (State.charge s i n f).mem = s.mem := by
  unfold State.charge; simp [*]

theorem State.charge_wf (s : State) (i : Nat) (n : Nat) (f : State → State) (h_f : ∀ x0, Memory.wf x0.mem = true →
    Memory.wf (f x0).mem = true) (hw : Memory.wf s.mem = true) : Memory.wf (State.charge s i n f).mem = true := by
  unfold State.charge
  repeat' first
      | with_reducible assumption
      | intro _
      | with_reducible apply h_f
      | with_reducible apply State.inc_wf
      | with_reducible apply settleOps_wf
      | split
      | (simp only [])
      | (simp; done)
      | (simp [*])

@[simp] theorem State.instr_mem (s : State) (i : Nat) (op : Nat) (ok : Nat → Bool) (f : State → Nat → State) (h_f : ∀
    x0 x1, (f x0 x1).mem = x0.mem) : (State.instr s i op ok f).mem = s.mem := by
  unfold State.instr; simp [*]

theorem State.instr_wf (s : State) (i : Nat) (op : Nat) (ok : Nat → Bool) (f : State → Nat → State) (h_f : ∀ x0 x1,
    Memory.wf x0.mem = true → Memory.wf (f x0 x1).mem = true) (hw : Memory.wf s.mem = true) : Memory.wf (State.instr
    s i op ok f).mem = true := by
  unfold State.instr
  repeat' first
      | with_reducible assumption
      | intro _
      | with_reducible apply h_f
      | with_reducible apply settleOps_wf
      | split
      | (simp only [])
      | (simp; done)
      | (simp [*])

@[simp] theorem State.slotNext_mem (s : State) (i : Nat) (f : YardSlot → YardSlot) : (State.slotNext s i f).mem =
    s.mem := by
  unfold State.slotNext; simp

@[simp] theorem State.endWait_mem (s : State) (i : Nat) (k : Nat) (late : Bool) : (State.endWait s i k late).mem =
    s.mem := by
  unfold State.endWait; simp

theorem State.sampleNow_wf (s : State) (i : Nat) (w : Nat) (hw : Memory.wf s.mem = true) : Memory.wf (State.sampleNow
    s i w).mem = true := by
  unfold State.sampleNow
  repeat' first
      | with_reducible assumption
      | intro _
      | with_reducible apply State.startScript_wf
      | with_reducible apply settleOps_wf
      | split
      | (simp only [])
      | (simp; done)
      | (simp [*])

@[simp] theorem State.atData_mem (s : State) (i : Nat) (w : Nat) (f : State → Nat → State) (h_f : ∀ x0 x1, (f x0
    x1).mem = x0.mem) : (State.atData s i w f).mem = s.mem := by
  unfold State.atData; simp [*]

theorem State.atData_wf (s : State) (i : Nat) (w : Nat) (f : State → Nat → State) (h_f : ∀ x0 x1, Memory.wf x0.mem =
    true → Memory.wf (f x0 x1).mem = true) (hw : Memory.wf s.mem = true) : Memory.wf (State.atData s i w f).mem =
    true := by
  unfold State.atData
  repeat' first
      | with_reducible assumption
      | intro _
      | with_reducible apply h_f
      | with_reducible apply settleOps_wf
      | split
      | (simp only [])
      | (simp; done)
      | (simp [*])

@[simp] theorem State.alu_mem (s : State) (i : Nat) (op : Nat) (cycles : Nat) (f : Word → Word → Word) : (State.alu s
    i op cycles f).mem = s.mem := by
  unfold State.alu; simp

@[simp] theorem State.serveUnit_mem (s : State) (net : Bool) : (State.serveUnit s net).mem = s.mem := by
  unfold State.serveUnit
  (try dsimp only); (repeat' split) <;> simp

@[simp] theorem State.dropWakes_mem (s : State) (i : Nat) : (State.dropWakes s i).mem = s.mem := by
  unfold State.dropWakes; simp

@[simp] theorem State.detect_mem (s : State) (i : Nat) (cls : Nat) (margin : Nat) : (State.detect s i cls margin).mem
    = s.mem := by
  unfold State.detect; simp

theorem State.queueWake_wf (s : State) (i : Nat) (hw : Memory.wf s.mem = true) : Memory.wf (State.queueWake s i).mem
    = true := by
  unfold State.queueWake
  repeat' first
      | with_reducible assumption
      | intro _
      | with_reducible apply State.yardWrite_wf
      | with_reducible apply State.set_wf
      | with_reducible apply settleOps_wf
      | with_reducible apply when_wf
      | with_reducible apply MemState.write_wf
      | split
      | (simp only [])
      | (simp; done)
      | (simp [*])

@[simp] theorem State.stallWake_mem (s : State) (i : Nat) : (State.stallWake s i).mem = s.mem := by
  unfold State.stallWake; simp

theorem State.moveWake_wf (s : State) (i : Nat) (m : Mem) (off : Nat) (bytes : List Byte) (hw : Memory.wf s.mem =
    true) : Memory.wf (State.moveWake s i m off bytes).mem = true := by
  unfold State.moveWake
  repeat' first
      | with_reducible assumption
      | intro _
      | with_reducible apply State.set_wf
      | with_reducible apply settleOps_wf
      | with_reducible apply when_wf
      | with_reducible apply MemState.write_wf
      | split
      | (simp only [])
      | (simp; done)
      | (simp [*])

@[simp] theorem State.wakeClr_mem (s : State) (v : Word) : (State.wakeClr s v).mem = s.mem := by
  unfold State.wakeClr; simp

@[simp] theorem State.yardRest_mem (s : State) : s.yardRest.mem = s.mem := by
  unfold State.yardRest; simp

@[simp] theorem State.yardStart_mem (s : State) : s.yardStart.mem = s.mem := by
  unfold State.yardStart; simp

@[simp] theorem State.patMatch_mem (s : State) (p : Nat) : (State.patMatch s p).mem = s.mem := by
  unfold State.patMatch; simp

theorem State.intRises_wf (s : State) (p : Nat) (was : Bool) (hw : Memory.wf s.mem = true) : Memory.wf
    (State.intRises s p was).mem = true := by
  unfold State.intRises
  repeat' first
      | with_reducible assumption
      | intro _
      | with_reducible apply State.wakeScript_wf
      | with_reducible apply settleOps_wf
      | with_reducible apply when_wf
      | split
      | (simp only [])
      | (simp; done)
      | (simp [*])

/-! Entries -/

@[simp] theorem State.setChan_mem (s : State) (c : Nat) (l : List MoveJob) : (State.setChan s c l).mem = s.mem := by
  unfold State.setChan; simp

@[simp] theorem State.passIssue_mem (s : State) (i : Nat) : (State.passIssue s i).mem = s.mem := by
  unfold State.passIssue; simp

@[simp] theorem State.moveErr_mem (s : State) (i : Nat) (status : Nat) : (State.moveErr s i status).mem = s.mem := by
  unfold State.moveErr; simp

theorem State.invalidEntry_wf (s : State) (i : Nat) (e : List Byte) (hw : Memory.wf s.mem = true) : Memory.wf
    (State.invalidEntry s i e).mem = true := by
  unfold State.invalidEntry
  repeat' first
      | with_reducible assumption
      | intro _
      | with_reducible apply State.inc_wf
      | with_reducible apply State.penAccess_wf
      | with_reducible apply State.completeEntry_wf
      | with_reducible apply settleOps_wf
      | with_reducible apply when_wf
      | split
      | (simp only [])
      | (simp; done)
      | (simp [*])

theorem State.entryLost_wf (s : State) (i : Nat) (hw : Memory.wf s.mem = true) : Memory.wf (State.entryLost s i).mem =
    true := by
  unfold State.entryLost
  repeat' first
      | with_reducible assumption
      | intro _
      | with_reducible apply State.settle_wf
      | with_reducible apply settleOps_wf
      | split
      | (simp only [])
      | (simp; done)
      | (simp [*])

theorem State.atEntry_wf (s : State) (i : Nat) (f : State → List Byte → State) (h_f : ∀ x0 x1, Memory.wf x0.mem = true
    → Memory.wf (f x0 x1).mem = true) (hw : Memory.wf s.mem = true) : Memory.wf (State.atEntry s i f).mem = true := by
  unfold State.atEntry
  repeat' first
      | with_reducible assumption
      | intro _
      | with_reducible apply h_f
      | with_reducible apply State.reach_wf
      | with_reducible apply State.entryLost_wf
      | with_reducible apply settleOps_wf
      | split
      | (simp only [])
      | (simp; done)
      | (simp [*])

theorem State.onEntry_wf (s : State) (i : Nat) (k : Nat) (f : State → List Byte → State) (h_f : ∀ x0 x1, Memory.wf
    x0.mem = true → Memory.wf (f x0 x1).mem = true) (hw : Memory.wf s.mem = true) : Memory.wf (State.onEntry s i k
    f).mem = true := by
  unfold State.onEntry
  repeat' first
      | with_reducible assumption
      | intro _
      | with_reducible apply h_f
      | with_reducible apply State.atEntry_wf
      | with_reducible apply State.invalidEntry_wf
      | with_reducible apply settleOps_wf
      | split
      | (simp only [])
      | (simp; done)
      | (simp [*])

theorem State.gated_wf (s : State) (i : Nat) (e : List Byte) (f : State → State) (h_f : ∀ x0, Memory.wf x0.mem = true
    → Memory.wf (f x0).mem = true) (hw : Memory.wf s.mem = true) : Memory.wf (State.gated s i e f).mem = true := by
  unfold State.gated
  repeat' first
      | with_reducible assumption
      | intro _
      | with_reducible apply h_f
      | with_reducible apply State.satisfy_wf
      | with_reducible apply settleOps_wf
      | split
      | (simp only [])
      | (simp; done)
      | (simp [*])

theorem State.atOnce_wf (s : State) (i : Nat) (k : Nat) (f : State → List Byte → State) (h_f : ∀ x0 x1, Memory.wf
    x0.mem = true → Memory.wf (f x0 x1).mem = true) (hw : Memory.wf s.mem = true) : Memory.wf (State.atOnce s i k
    f).mem = true := by
  unfold State.atOnce
  repeat' first
      | with_reducible assumption
      | intro _
      | with_reducible apply h_f
      | with_reducible apply State.onEntry_wf
      | with_reducible apply State.gated_wf
      | with_reducible apply State.completeEntry_wf
      | with_reducible apply settleOps_wf
      | split
      | (simp only [])
      | (simp; done)
      | (simp [*])

theorem State.entryTally_wf (s : State) (i : Nat) (op : Nat) (k : TOp) (hw : Memory.wf s.mem = true) : Memory.wf
    (State.entryTally s i op k).mem = true := by
  unfold State.entryTally
  repeat' first
      | with_reducible assumption
      | intro _
      | with_reducible apply State.onEntry_wf
      | with_reducible apply State.gated_wf
      | with_reducible apply State.tallyOp_wf
      | with_reducible apply State.completeEntry_wf
      | with_reducible apply settleOps_wf
      | split
      | (simp only [])
      | (simp; done)
      | (simp [*])

@[simp] theorem State.tileIssued_mem (s : State) (i : Nat) (cls : Nat) : (State.tileIssued s i cls).mem = s.mem := by
  unfold State.tileIssued; simp

theorem State.issueTile_wf (s : State) (t0 : TileJob) (ready : State → State) (h_ready : ∀ x0, Memory.wf x0.mem =
    true → Memory.wf (ready x0).mem = true) (hw : Memory.wf s.mem = true) : Memory.wf (State.issueTile s t0
    ready).mem = true := by
  unfold State.issueTile
  repeat' first
      | with_reducible assumption
      | intro _
      | with_reducible apply h_ready
      | with_reducible apply State.serveReissues_wf
      | with_reducible apply State.regate_wf
      | with_reducible apply State.tileFailed_wf
      | with_reducible apply settleOps_wf
      | split
      | (simp only [])
      | (simp; done)
      | (simp [*])

theorem State.issueEntry_wf (s : State) (i : Nat) (e : List Byte) (t : TileJob) (hw : Memory.wf s.mem = true) :
    Memory.wf (State.issueEntry s i e t).mem = true := by
  unfold State.issueEntry
  repeat' first
      | with_reducible assumption
      | intro _
      | with_reducible apply State.issueTile_wf
      | with_reducible apply State.gated_wf
      | with_reducible apply settleOps_wf
      | split
      | (simp only [])
      | (simp; done)
      | (simp [*])

theorem State.dataTile_wf (s : State) (i : Nat) (m : Mem) (off : Nat) (bytes : List Byte) (taint : Nat) (hw :
    Memory.wf s.mem = true) : Memory.wf (State.dataTile s i m off bytes taint).mem = true := by
  unfold State.dataTile
  repeat' first
      | with_reducible assumption
      | intro _
      | with_reducible apply State.issueTile_wf
      | with_reducible apply settleOps_wf
      | with_reducible apply MemState.write_wf
      | split
      | (simp only [])
      | (simp; done)
      | (simp [*])

@[simp] theorem State.moveVotes_mem (s : State) : s.moveVotes.mem = s.mem := by
  unfold State.moveVotes; simp

theorem MemState.foldStore_wf (w : Mem) (rows : List (Nat × List Byte × Nat)) (m : MemState) (h : Memory.wf m = true)
    :
    Memory.wf (rows.foldl (fun m r => m.store w r.1 r.2.1) m) = true := by
  induction rows generalizing m with
  | nil => exact h
  | cons r l ih => exact ih _ (m.store_wf _ _ _ h)

theorem MemState.writeRows_wf (m : MemState) (w : Mem) (rows : List (Nat × List Byte × Nat)) (h : Memory.wf m = true)
    :
    Memory.wf (m.writeRows w rows) = true := by
  unfold MemState.writeRows
  dsimp only
  have h' := MemState.foldStore_wf w rows m h
  generalize rows.foldl (fun m r => m.store w r.1 r.2.1) m = m' at h'
  generalize (rows.map fun r => plotsOf r.1 r.2.1.length).flatten.eraseDups = l
  induction l generalizing m' with
  | nil => exact h'
  | cons p l ih =>
    refine ih _ ?_
    dsimp only
    split
    · exact m'.setPlot_wf _ _ _ h'
    · exact m'.setPlot_wf _ _ _ h'

@[simp] theorem State.moved_mem (s : State) (c : Nat) (j : MoveJob) (status : Nat) : (State.moved s c j status).mem =
    s.mem := by
  unfold State.moved; simp

@[simp] theorem State.moveFails_mem (s : State) (c : Nat) (j : MoveJob) (status : Nat) : (State.moveFails s c j
    status).mem = s.mem := by
  unfold State.moveFails; simp

theorem State.runMove_wf (s : State) (c op : Nat) (rows : State → List Byte → Mem → Nat → Nat → List (Nat × List Byte
    × Nat))
    (hw : Memory.wf s.mem = true) : Memory.wf (State.runMove s c op rows).mem = true := by
  unfold State.runMove
  repeat' first
    | with_reducible assumption
    | with_reducible apply State.moveFails_wf
    | with_reducible apply State.moveVotes_wf
    | with_reducible apply MemState.writeRows_wf
    | split
    | (simp only [])
    | (simp [*])

@[simp] theorem State.ringBell_mem (s : State) (m : Master) (v : Word) : (State.ringBell s m v).mem = s.mem := by
  unfold State.ringBell; simp

theorem State.tlyWrite_wf (s : State) (op : Nat) (t : Nat) (hw : Memory.wf s.mem = true) : Memory.wf (State.tlyWrite
    s op t).mem = true := by
  unfold State.tlyWrite
  repeat' first
      | with_reducible assumption
      | intro _
      | with_reducible apply State.tallyOp_wf
      | with_reducible apply State.set_wf
      | with_reducible apply settleOps_wf
      | split
      | (simp only [])
      | (simp; done)
      | (simp [*])

/-! Barn -/

@[simp] theorem State.setBay_mem (s : State) (b : Nat) (x : BaySt) : (State.setBay s b x).mem = s.mem := by
  unfold State.setBay; simp

@[simp] theorem State.showBays_mem (s : State) : s.showBays.mem = s.mem := by
  unfold State.showBays; simp

@[simp] theorem State.setOut_mem (s : State) (b : Nat) (line : Nat) (fixed : Bool) : (State.setOut s b line
    fixed).mem = s.mem := by
  unfold State.setOut; simp

@[simp] theorem State.setChanLine_mem (s : State) (b : Nat) (c : Nat) (line : Nat) : (State.setChanLine s b c
    line).mem = s.mem := by
  unfold State.setChanLine; simp

@[simp] theorem State.moveLine_mem (s : State) (b : Nat) (line : Nat) (fixed : Bool) : (State.moveLine s b line
    fixed).mem = s.mem := by
  unfold State.moveLine
  (try dsimp only); (repeat' split) <;> simp

@[simp] theorem State.putBay_mem (s : State) (b : Nat) (t : TileJob) : (State.putBay s b t).mem = s.mem := by
  unfold State.putBay; simp

theorem State.noBay_wf (s : State) (t : TileJob) (hw : Memory.wf s.mem = true) : Memory.wf (State.noBay s t).mem =
    true := by
  unfold State.noBay
  repeat' first
      | with_reducible assumption
      | intro _
      | with_reducible apply State.inc_wf
      | with_reducible apply State.finishTile_wf
      | with_reducible apply settleOps_wf
      | split
      | (simp only [])
      | (simp; done)
      | (simp [*])

@[simp] theorem State.barnVotes_mem (s : State) : s.barnVotes.mem = s.mem := by
  unfold State.barnVotes; simp

@[simp] theorem State.endHint_mem (s : State) : s.endHint.mem = s.mem := by
  unfold State.endHint; simp

theorem State.rebayOne_wf (s : State) (t : TileJob) (hw : Memory.wf s.mem = true) : Memory.wf (State.rebayOne s
    t).mem = true := by
  unfold State.rebayOne
  repeat' first
      | with_reducible assumption
      | intro _
      | with_reducible apply State.finishTile_wf
      | with_reducible apply State.noBay_wf
      | with_reducible apply settleOps_wf
      | split
      | (simp only [])
      | (simp; done)
      | (simp [*])

theorem State.serveBarn_wf (s : State) (hw : Memory.wf s.mem = true) : Memory.wf (State.serveBarn s).mem = true := by
  unfold State.serveBarn
  repeat' first
      | with_reducible assumption
      | intro _
      | with_reducible apply State.rebayOne_wf
      | with_reducible apply settleOps_wf
      | with_reducible apply each_wf
      | split
      | (simp only [])
      | (simp; done)
      | (simp [*])

@[simp] theorem State.abandonBay_mem (s : State) (b : Nat) (timeout : Bool) : (State.abandonBay s b timeout).mem =
    s.mem := by
  unfold State.abandonBay; simp

@[simp] theorem State.freeBay_mem (s : State) (b : Nat) : (State.freeBay s b).mem = s.mem := by
  unfold State.freeBay; simp

theorem State.endBayTile_wf (s : State) (b : Nat) (status : Nat) (hw : Memory.wf s.mem = true) : Memory.wf
    (State.endBayTile s b status).mem = true := by
  unfold State.endBayTile
  repeat' first
      | with_reducible assumption
      | intro _
      | with_reducible apply State.incAt_wf
      | with_reducible apply State.finishTile_wf
      | with_reducible apply State.serveBarn_wf
      | with_reducible apply settleOps_wf
      | split
      | (simp only [])
      | (simp; done)
      | (simp [*])

theorem State.rejectBay_wf (s : State) (b : Nat) (status : Nat) (hw : Memory.wf s.mem = true) : Memory.wf
    (State.rejectBay s b status).mem = true := by
  unfold State.rejectBay
  repeat' first
      | with_reducible assumption
      | intro _
      | with_reducible apply State.inc_wf
      | with_reducible apply State.endBayTile_wf
      | with_reducible apply settleOps_wf
      | split
      | (simp only [])
      | (simp; done)
      | (simp [*])

theorem State.onBay_wf (s : State) (b : Nat) (op : Nat) (f : State → TileJob → Desc → State) (h_f : ∀ x0 x1 x2,
    Memory.wf x0.mem = true → Memory.wf (f x0 x1 x2).mem = true) (hw : Memory.wf s.mem = true) : Memory.wf
    (State.onBay s b op f).mem = true := by
  unfold State.onBay
  repeat' first
      | with_reducible assumption
      | intro _
      | with_reducible apply h_f
      | with_reducible apply State.reach_wf
      | with_reducible apply State.rejectBay_wf
      | with_reducible apply State.endBayTile_wf
      | with_reducible apply settleOps_wf
      | split
      | (simp only [])
      | (simp; done)
      | (simp [*])

theorem State.bayDone_wf (s : State) (b : Nat) (t : TileJob) (d : Desc) (hw : Memory.wf s.mem = true) : Memory.wf
    (State.bayDone s b t d).mem = true := by
  unfold State.bayDone
  repeat' first
      | with_reducible assumption
      | intro _
      | with_reducible apply State.endBayTile_wf
      | with_reducible apply settleOps_wf
      | split
      | (simp only [])
      | (simp; done)
      | (simp [*])

@[simp] theorem State.loadMap_mem (s : State) (b : Nat) (m : Nat) : (State.loadMap s b m).mem = s.mem := by
  unfold State.loadMap; simp

theorem State.runBarn_wf (s : State) (b : Nat) (t : TileJob) (d : Desc) (hw : Memory.wf s.mem = true) : Memory.wf
    (State.runBarn s b t d).mem = true := by
  unfold State.runBarn
  repeat' first
      | with_reducible assumption
      | intro _
      | with_reducible apply State.bayDone_wf
      | with_reducible apply settleOps_wf
      | split
      | (simp only [])
      | (simp; done)
      | (simp [*])

theorem State.issueBarn_wf (s : State) (i : Nat) (e : List Byte) (t : TileJob) (hw : Memory.wf s.mem = true) :
    Memory.wf (State.issueBarn s i e t).mem = true := by
  unfold State.issueBarn
  repeat' first
      | with_reducible assumption
      | intro _
      | with_reducible apply State.gated_wf
      | with_reducible apply State.noBay_wf
      | with_reducible apply State.finishTile_wf
      | with_reducible apply State.serveBarn_wf
      | with_reducible apply settleOps_wf
      | split
      | (simp only [])
      | (simp; done)
      | (simp [*])

theorem State.tileEntry_wf (s : State) (i : Nat) (f : State → List Byte → TileJob → State) (h_f : ∀ x0 x1 x2,
    Memory.wf x0.mem = true → Memory.wf (f x0 x1 x2).mem = true) (hw : Memory.wf s.mem = true) : Memory.wf
    (State.tileEntry s i f).mem = true := by
  unfold State.tileEntry
  repeat' first
      | with_reducible assumption
      | intro _
      | with_reducible apply h_f
      | with_reducible apply State.onEntry_wf
      | with_reducible apply State.reach_wf
      | with_reducible apply settleOps_wf
      | split
      | (simp only [])
      | (simp; done)
      | (simp [*])

@[simp] theorem State.beginStep_mem (s : State) (b : Nat) (lost : Option Nat) : (State.beginStep s b lost).mem =
    s.mem := by
  unfold State.beginStep; simp

@[simp] theorem State.beginMove_mem (s : State) (b : Nat) : (State.beginMove s b).mem = s.mem := by
  unfold State.beginMove; simp

@[simp] theorem State.serveSteps_mem (s : State) : s.serveSteps.mem = s.mem := by
  unfold State.serveSteps
  (try dsimp only); (repeat' split) <;> simp

@[simp] theorem State.stepDue_mem (s : State) (b : Nat) : (State.stepDue s b).mem = s.mem := by
  unfold State.stepDue; simp

@[simp] theorem State.stepOver_mem (s : State) (b : Nat) (last : Nat) : (State.stepOver s b last).mem = s.mem := by
  unfold State.stepOver; simp

theorem State.endStep_wf (s : State) (b : Nat) (last : Nat) (hw : Memory.wf s.mem = true) : Memory.wf (State.endStep
    s b last).mem = true := by
  unfold State.endStep
  repeat' first
      | with_reducible assumption
      | intro _
      | with_reducible apply State.setAt_wf
      | with_reducible apply State.serveBarn_wf
      | with_reducible apply settleOps_wf
      | split
      | (simp only [])
      | (simp; done)
      | (simp [*])

theorem State.abandonStep_wf (s : State) (b : Nat) (hw : Memory.wf s.mem = true) : Memory.wf (State.abandonStep s
    b).mem = true := by
  unfold State.abandonStep
  repeat' first
      | with_reducible assumption
      | intro _
      | with_reducible apply State.endStep_wf
      | with_reducible apply settleOps_wf
      | split
      | (simp only [])
      | (simp; done)
      | (simp [*])

theorem State.abandonSteps_wf (s : State) (hw : Memory.wf s.mem = true) : Memory.wf (State.abandonSteps s).mem = true
    := by
  unfold State.abandonSteps
  repeat' first
      | with_reducible assumption
      | intro _
      | with_reducible apply State.abandonStep_wf
      | with_reducible apply settleOps_wf
      | with_reducible apply each_wf
      | split
      | (simp only [])
      | (simp; done)
      | (simp [*])

@[simp] theorem State.sweepAbandon_mem (s : State) : s.sweepAbandon.mem = s.mem := by
  unfold State.sweepAbandon; simp

@[simp] theorem State.calTaken_mem (s : State) (e : CalElem) : (State.calTaken s e).mem = s.mem := by
  unfold State.calTaken; simp

@[simp] theorem State.barnAgain_mem (s : State) : s.barnAgain.mem = s.mem := by
  unfold State.barnAgain; simp

@[simp] theorem State.firstLoss_mem (s : State) (stage : Nat) (b : Nat) (el : Nat) : (State.firstLoss s stage b
    el).mem = s.mem := by
  unfold State.firstLoss; simp

theorem State.takeOut_wf (s : State) (b : Nat) (hw : Memory.wf s.mem = true) : Memory.wf (State.takeOut s b).mem =
    true := by
  unfold State.takeOut
  repeat' first
      | with_reducible assumption
      | intro _
      | with_reducible apply State.abandonStep_wf
      | with_reducible apply State.set_wf
      | with_reducible apply State.serveBarn_wf
      | with_reducible apply settleOps_wf
      | split
      | (simp only [])
      | (simp; done)
      | (simp [*])

theorem State.lineLost_wf (s : State) (b : Nat) (n : Nat) (comb : Bool) (hw : Memory.wf s.mem = true) : Memory.wf
    (State.lineLost s b n comb).mem = true := by
  unfold State.lineLost
  repeat' first
      | with_reducible assumption
      | intro _
      | with_reducible apply State.abandonStep_wf
      | with_reducible apply State.set_wf
      | with_reducible apply State.takeOut_wf
      | with_reducible apply State.serveBarn_wf
      | with_reducible apply settleOps_wf
      | split
      | (simp only [])
      | (simp; done)
      | (simp [*])

@[simp] theorem State.maskColumn_mem (s : State) (b : Nat) (m : Nat) : (State.maskColumn s b m).mem = s.mem := by
  unfold State.maskColumn; simp

theorem State.loss_wf (s : State) (l : Loss) (hw : Memory.wf s.mem = true) : Memory.wf (State.loss s l).mem = true :=
    by
  unfold State.loss
  repeat' first
      | with_reducible assumption
      | intro _
      | with_reducible apply State.set_wf
      | with_reducible apply State.lineLost_wf
      | with_reducible apply State.abandonStep_wf
      | with_reducible apply settleOps_wf
      | with_reducible apply each_wf
      | split
      | (simp only [])
      | (simp; done)
      | (simp [*])

theorem State.losses_wf (s : State) (l : List Loss) (hw : Memory.wf s.mem = true) : Memory.wf (State.losses s l).mem
    = true := by
  unfold State.losses
  repeat' first
      | with_reducible assumption
      | intro _
      | with_reducible apply State.loss_wf
      | with_reducible apply settleOps_wf
      | with_reducible apply each_wf
      | split
      | (simp only [])
      | (simp; done)
      | (simp [*])

theorem State.unlockRing_wf (s : State) (r : Nat) (hw : Memory.wf s.mem = true) : Memory.wf (State.unlockRing s
    r).mem = true := by
  unfold State.unlockRing
  repeat' first
      | with_reducible assumption
      | intro _
      | with_reducible apply State.inc_wf
      | with_reducible apply State.lineLost_wf
      | with_reducible apply State.abandonStep_wf
      | with_reducible apply settleOps_wf
      | split
      | (simp only [])
      | (simp; done)
      | (simp [*])

@[simp] theorem State.combUp_mem (s : State) : s.combUp.mem = s.mem := by
  unfold State.combUp; simp

theorem State.barnUp_wf (s : State) (missing : List Nat) (hw : Memory.wf s.mem = true) : Memory.wf (State.barnUp s
    missing).mem = true := by
  unfold State.barnUp
  repeat' first
      | with_reducible assumption
      | intro _
      | with_reducible apply State.set_wf
      | with_reducible apply State.unlockRing_wf
      | with_reducible apply State.serveBarn_wf
      | with_reducible apply settleOps_wf
      | with_reducible apply each_wf
      | split
      | (simp only [])
      | (simp; done)
      | (simp [*])

@[simp] theorem State.setGains_mem (s : State) (k : Nat) (l : List (BitVec 16)) : (State.setGains s k l).mem = s.mem
    := by
  unfold State.setGains; simp

@[simp] theorem State.setPoints_mem (s : State) (l : List RingMeas) : (State.setPoints s l).mem = s.mem := by
  unfold State.setPoints; simp

theorem State.fullSweep_wf (s : State) (m : SweepMeas) (hw : Memory.wf s.mem = true) : Memory.wf (State.fullSweep s
    m).mem = true := by
  unfold State.fullSweep
  repeat' first
      | with_reducible assumption
      | intro _
      | with_reducible apply State.calPass_wf
      | with_reducible apply State.barnUp_wf
      | with_reducible apply settleOps_wf
      | split
      | (simp only [])
      | (simp; done)
      | (simp [*])

@[simp] theorem State.sweepRejected_mem (s : State) : s.sweepRejected.mem = s.mem := by
  unfold State.sweepRejected; simp

theorem State.barnFails_wf (s : State) (hw : Memory.wf s.mem = true) : Memory.wf (State.barnFails s).mem = true := by
  unfold State.barnFails
  repeat' first
      | with_reducible assumption
      | intro _
      | with_reducible apply State.set_wf
      | with_reducible apply State.serveBarn_wf
      | with_reducible apply settleOps_wf
      | split
      | (simp only [])
      | (simp; done)
      | (simp [*])

theorem State.combLost_wf (s : State) (hw : Memory.wf s.mem = true) : Memory.wf (State.combLost s).mem = true := by
  unfold State.combLost
  repeat' first
      | with_reducible assumption
      | intro _
      | with_reducible apply State.set_wf
      | with_reducible apply State.abandonStep_wf
      | with_reducible apply settleOps_wf
      | with_reducible apply when_wf
      | with_reducible apply each_wf
      | split
      | (simp only [])
      | (simp; done)
      | (simp [*])

@[simp] theorem State.loadMaps_mem (s : State) (b : List Byte) : (State.loadMaps s b).mem = s.mem := by
  unfold State.loadMaps; simp

@[simp] theorem State.toPart_mem (s : State) (b : Nat) (p : StepPart) : (State.toPart s b p).mem = s.mem := by
  unfold State.toPart; simp

theorem State.stepRejected_wf (s : State) (b : Nat) (last : Nat) (hw : Memory.wf s.mem = true) : Memory.wf
    (State.stepRejected s b last).mem = true := by
  unfold State.stepRejected
  repeat' first
      | with_reducible assumption
      | intro _
      | with_reducible apply State.endStep_wf
      | with_reducible apply State.takeOut_wf
      | with_reducible apply settleOps_wf
      | split
      | (simp only [])
      | (simp; done)
      | (simp [*])

/-! Regs -/

@[simp] theorem State.readReg_mem (s : State) (m : Master) (a : Nat) : (State.readReg s m a).1.mem = s.mem := by
  unfold State.readReg
  refine withReg_fst_mem _ _ _ (fun r i => ?_)
  split
  · rfl
  · split
    · rfl
    · exact when_mem _ _ _ (fun x => State.setReg_mem ..)

theorem State.atMem_wf (s : State) (a : Nat) (x : StalledAcc) (f : State → Mem → Nat → State) (g : State → State)
    (h_f : ∀ x0 x1 x2, Memory.wf x0.mem = true → Memory.wf (f x0 x1 x2).mem = true)
    (h_g : ∀ x0, Memory.wf x0.mem = true → Memory.wf (g x0).mem = true) (hw : Memory.wf s.mem = true) :
    Memory.wf (State.atMem s a x f g).mem = true := by
  unfold State.atMem
  split
  · dsimp only
    split
    · refine State.masterAccess_wf _ _ _ _ _ (fun y hy => ?_) h_g hw
      split
      · exact h_f _ _ _ hy
      · exact h_g _ hy
    · split
      · exact h_f _ _ _ hw
      · exact h_g _ hw
  · exact h_g _ hw

@[simp] theorem State.finishWrite_mem (s : State) (m : Master) : (State.finishWrite s m).mem = s.mem := by
  unfold State.finishWrite; simp

theorem State.memRead_wf (s : State) (m : Master) (a : Nat) (hw : Memory.wf s.mem = true) : Memory.wf (State.memRead s
    m a).mem = true := by
  unfold State.memRead
  repeat' first
      | with_reducible assumption
      | intro _
      | with_reducible apply State.atMem_wf
      | with_reducible apply settleOps_wf
      | split
      | (simp only [])
      | (simp; done)
      | (simp [*])

theorem State.memWrite_wf (s : State) (m : Master) (a : Nat) (v : Word) (hw : Memory.wf s.mem = true) : Memory.wf
    (State.memWrite s m a v).mem = true := by
  unfold State.memWrite
  repeat' first
      | with_reducible assumption
      | intro _
      | with_reducible apply State.atMem_wf
      | with_reducible apply MemState.write_wf
      | with_reducible apply settleOps_wf
      | split
      | (simp only [])
      | (simp; done)
      | (simp [*])

theorem State.readAs_wf (s : State) (m : Master) (a : Nat) (hw : Memory.wf s.mem = true) : Memory.wf (State.readAs s m
    a).mem = true := by
  unfold State.readAs
  repeat' first
      | with_reducible assumption
      | intro _
      | with_reducible apply State.memRead_wf
      | with_reducible apply settleOps_wf
      | split
      | (simp only [])
      | (simp; done)
      | (simp [*])

theorem State.warmReq_wf (s : State) (v : Word) (hw : Memory.wf s.mem = true) : Memory.wf (State.warmReq s v).mem =
    true := by
  unfold State.warmReq
  repeat' first
      | with_reducible assumption
      | intro _
      | with_reducible apply State.resetDue_wf
      | with_reducible apply settleOps_wf
      | split
      | (simp only [])
      | (simp; done)
      | (simp [*])

@[simp] theorem State.stwVotes_mem (s : State) (hi : Bool) (v : Word) : (State.stwVotes s hi v).mem = s.mem := by
  unfold State.stwVotes; simp

theorem State.writeWo_wf (s : State) (m : Master) (r : RegDef) (i : Nat) (v : Word) (hw : Memory.wf s.mem = true) :
    Memory.wf (State.writeWo s m r i v).mem = true := by
  unfold State.writeWo
  repeat' first
      | with_reducible assumption
      | intro _
      | with_reducible apply State.warmReq_wf
      | with_reducible apply State.tlyWrite_wf
      | with_reducible apply settleOps_wf
      | split
      | (simp only [])
      | (simp; done)
      | (simp [*])

theorem State.writeReg_wf (s : State) (m : Master) (a : Nat) (v : Word) (hw : Memory.wf s.mem = true) : Memory.wf
    (State.writeReg s m a v).mem = true := by
  unfold State.writeReg
  repeat' first
      | with_reducible assumption
      | intro _
      | with_reducible apply State.writeWo_wf
      | with_reducible apply State.setReg_wf
      | with_reducible apply State.set_wf
      | with_reducible apply settleOps_wf
      | with_reducible apply when_wf
      | with_reducible apply withReg_wf
      | split
      | (simp only [])
      | (simp; done)
      | (simp [*])

theorem State.writeAt_wf (s : State) (m : Master) (a : Nat) (v : Word) (hw : Memory.wf s.mem = true) : Memory.wf
    (State.writeAt s m a v).mem = true := by
  unfold State.writeAt
  repeat' first
      | with_reducible assumption
      | intro _
      | with_reducible apply State.writeReg_wf
      | with_reducible apply State.memWrite_wf
      | with_reducible apply settleOps_wf
      | split
      | (simp only [])
      | (simp; done)
      | (simp [*])

@[simp] theorem State.mbAnswer_mem (s : State) (seq : Byte) (cmd : Nat) (st : Nat) : (State.mbAnswer s seq cmd
    st).mem = s.mem := by
  unfold State.mbAnswer; simp

@[simp] theorem State.mbAct_mem (s : State) (seq : Byte) (cmd : Nat) (ok : Bool) (f : State → State) (h_f : ∀ x0, (f
    x0).mem = x0.mem) : (State.mbAct s seq cmd ok f).mem = s.mem := by
  unfold State.mbAct; simp [*]

theorem State.mbCmd_wf (s : State) (seq : Byte) (cmd : Nat) (hw : Memory.wf s.mem = true) : Memory.wf (State.mbCmd s
    seq cmd).mem = true := by
  unfold State.mbCmd
  repeat' first
      | with_reducible assumption
      | intro _
      | with_reducible apply State.warmReq_wf
      | with_reducible apply settleOps_wf
      | with_reducible apply when_wf
      | split
      | (simp only [])
      | (simp; done)
      | (simp [*])

@[simp] theorem State.ackTo_mem (s : State) (i : Nat) : (State.ackTo s i).mem = s.mem := by
  unfold State.ackTo; simp

@[simp] theorem State.recAck_mem (s : State) (v : Word) : (State.recAck s v).mem = s.mem := by
  unfold State.recAck; simp

theorem State.bar0Write_wf (s : State) (o : Nat) (v : Word) (hw : Memory.wf s.mem = true) : Memory.wf (State.bar0Write
    s o v).mem = true := by
  unfold State.bar0Write
  repeat' first
      | with_reducible assumption
      | intro _
      | with_reducible apply State.mbCmd_wf
      | with_reducible apply settleOps_wf
      | split
      | (simp only [])
      | (simp; done)
      | (simp [*])

theorem State.popNotify_wf (s : State) (hw : Memory.wf s.mem = true) : Memory.wf (State.popNotify s).1.mem = true :=
    by
  unfold State.popNotify
  repeat' first
      | with_reducible assumption
      | intro _
      | with_reducible apply State.notifyDone_wf
      | with_reducible apply State.settle_wf
      | with_reducible apply settleOps_wf
      | split
      | (simp only [])
      | (simp; done)
      | (simp [*])

theorem State.bar0Read_wf (s : State) (o : Nat) (hw : Memory.wf s.mem = true) : Memory.wf (State.bar0Read s o).mem =
    true := by
  unfold State.bar0Read
  repeat' first
      | with_reducible assumption
      | intro _
      | with_reducible apply State.answer_wf
      | with_reducible apply State.readAs_wf
      | with_reducible apply State.popNotify_wf
      | with_reducible apply settleOps_wf
      | split
      | (simp only [])
      | (simp; done)
      | (simp [*])

/-! Link -/

@[simp] theorem State.showLive_mem (s : State) (mask : Nat) : (State.showLive s mask).mem = s.mem := by
  unfold State.showLive; simp

@[simp] theorem State.armRing_mem (s : State) (i : Nat) (empty : Bool) : (State.armRing s i empty).mem = s.mem := by
  unfold State.armRing; simp

@[simp] theorem State.disarmRing_mem (s : State) (i : Nat) : (State.disarmRing s i).mem = s.mem := by
  unfold State.disarmRing; simp

@[simp] theorem State.rearmRing_mem (s : State) (i : Nat) : (State.rearmRing s i).mem = s.mem := by
  unfold State.rearmRing; simp

@[simp] theorem State.showHeld_mem (s : State) (p : Nat) : (State.showHeld s p).mem = s.mem := by
  unfold State.showHeld; simp

@[simp] theorem State.setHeld_mem (s : State) (p : Nat) (l : List TxFrame) : (State.setHeld s p l).mem = s.mem := by
  unfold State.setHeld; simp

@[simp] theorem State.enqueue_mem (s : State) (p : Nat) (f : TxFrame) : (State.enqueue s p f).mem = s.mem := by
  unfold State.enqueue; simp

@[simp] theorem State.countFrame_mem (s : State) : s.countFrame.mem = s.mem := by
  unfold State.countFrame; simp

@[simp] theorem State.sendTo_mem (s : State) (type : Nat) (taint : Nat) (channel : Nat) (dst : Nat) (payload : List
    Byte) : (State.sendTo s type taint channel dst payload).mem = s.mem := by
  unfold State.sendTo; simp

@[simp] theorem State.broadcast_mem (s : State) (type : Nat) (payload : List Byte) : (State.broadcast s type
    payload).mem = s.mem := by
  unfold State.broadcast; simp

@[simp] theorem State.moveFrames_mem (s : State) (p : Nat) : (State.moveFrames s p).mem = s.mem := by
  unfold State.moveFrames; simp

@[simp] theorem State.portDown_mem (s : State) (p : Nat) : (State.portDown s p).mem = s.mem := by
  unfold State.portDown; simp

@[simp] theorem State.linkKeyless_mem (s : State) : s.linkKeyless.mem = s.mem := by
  unfold State.linkKeyless; simp

@[simp] theorem State.linkDrop_mem (s : State) : s.linkDrop.mem = s.mem := by
  unfold State.linkDrop; simp

@[simp] theorem State.linkUp_mem (s : State) : s.linkUp.mem = s.mem := by
  unfold State.linkUp; simp

theorem State.armChannel_wf (s : State) (c : Nat) (hw : Memory.wf s.mem = true) : Memory.wf (State.armChannel s
    c).mem = true := by
  unfold State.armChannel
  repeat' first
      | with_reducible assumption
      | intro _
      | with_reducible apply State.setAt_wf
      | with_reducible apply State.satisfy_wf
      | with_reducible apply settleOps_wf
      | split
      | (simp only [])
      | (simp; done)
      | (simp [*])

@[simp] theorem State.linkVote_mem (s : State) (d : Nat) (v : Nat) : (State.linkVote s d v).mem = s.mem := by
  unfold State.linkVote; simp

@[simp] theorem State.linkReach_mem (s : State) (d : Nat) (f : State → State) (g : State → State) (h_f : ∀ x0, (f
    x0).mem = x0.mem) (h_g : ∀ x0, (g x0).mem = x0.mem) : (State.linkReach s d f g).mem = s.mem := by
  unfold State.linkReach; simp [*]

theorem State.linkReach_wf (s : State) (d : Nat) (f : State → State) (g : State → State) (h_f : ∀ x0, Memory.wf
    x0.mem = true → Memory.wf (f x0).mem = true) (h_g : ∀ x0, Memory.wf x0.mem = true → Memory.wf (g x0).mem = true)
    (hw : Memory.wf s.mem = true) : Memory.wf (State.linkReach s d f g).mem = true := by
  unfold State.linkReach
  repeat' first
      | with_reducible assumption
      | intro _
      | with_reducible apply h_f
      | with_reducible apply h_g
      | with_reducible apply settleOps_wf
      | split
      | (simp only [])
      | (simp; done)
      | (simp [*])

theorem State.endChannel_wf (s : State) (c : Nat) (last : Nat) (hw : Memory.wf s.mem = true) : Memory.wf
    (State.endChannel s c last).mem = true := by
  unfold State.endChannel
  repeat' first
      | with_reducible assumption
      | intro _
      | with_reducible apply State.setAt_wf
      | with_reducible apply State.armChannel_wf
      | with_reducible apply settleOps_wf
      | with_reducible apply when_wf
      | split
      | (simp only [])
      | (simp; done)
      | (simp [*])

theorem State.refuseChannel_wf (s : State) (c : Nat) (cause : Nat) (hw : Memory.wf s.mem = true) : Memory.wf
    (State.refuseChannel s c cause).mem = true := by
  unfold State.refuseChannel
  repeat' first
      | with_reducible assumption
      | intro _
      | with_reducible apply State.inc_wf
      | with_reducible apply State.endChannel_wf
      | with_reducible apply settleOps_wf
      | split
      | (simp only [])
      | (simp; done)
      | (simp [*])

theorem State.sendPlots_wf (s : State) (c n j : Nat) (hw : Memory.wf s.mem = true) : Memory.wf (s.sendPlots c n j).mem = true := by
  induction n generalizing s j with
  | zero => simpa [State.sendPlots] using hw
  | succ n ih =>
    unfold State.sendPlots
    (try dsimp only)
    split
    · exact ih _ _ (by simpa using hw)
    · exact State.refuseChannel_wf _ _ _ (State.linkRefused_wf _ _ hw)

theorem State.frameAcked_wf (s : State) (f : TxFrame) (hw : Memory.wf s.mem = true) : Memory.wf (State.frameAcked s
    f).mem = true := by
  unfold State.frameAcked
  repeat' first
      | with_reducible assumption
      | intro _
      | with_reducible apply State.incAt_wf
      | with_reducible apply State.endChannel_wf
      | with_reducible apply settleOps_wf
      | split
      | (simp only [])
      | (simp; done)
      | (simp [*])

@[simp] theorem State.resend_mem (s : State) (p : Nat) (n : Nat) : (State.resend s p n).mem = s.mem := by
  unfold State.resend; simp

@[simp] theorem State.forward_mem (s : State) (p : Nat) (type : Nat) (f : LinkFrame) : (State.forward s p type f).mem
    = s.mem := by
  unfold State.forward; simp

@[simp] theorem State.receive_mem (s : State) (p : Nat) (type : Nat) (f : LinkFrame) (act : State → State) (h_act : ∀
    x0, (act x0).mem = x0.mem) : (State.receive s p type f act).mem = s.mem := by
  unfold State.receive; simp [*]

theorem State.receive_wf (s : State) (p : Nat) (type : Nat) (f : LinkFrame) (act : State → State) (h_act : ∀ x0,
    Memory.wf x0.mem = true → Memory.wf (act x0).mem = true) (hw : Memory.wf s.mem = true) : Memory.wf (State.receive
    s p type f act).mem = true := by
  unfold State.receive
  repeat' first
      | with_reducible assumption
      | intro _
      | with_reducible apply h_act
      | with_reducible apply State.answer_wf
      | with_reducible apply State.inc_wf
      | with_reducible apply settleOps_wf
      | with_reducible apply when_wf
      | split
      | (simp only [])
      | (simp; done)
      | (simp [*])

@[simp] theorem State.importReject_mem (s : State) (f : LinkFrame) (cause : Nat) : (State.importReject s f cause).mem
    = s.mem := by
  unfold State.importReject; simp

theorem State.importData_wf (s : State) (plot : Nat) (f : LinkFrame) (hw : Memory.wf s.mem = true) : Memory.wf
    (State.importData s plot f).mem = true := by
  unfold State.importData
  repeat' first
      | with_reducible assumption
      | intro _
      | with_reducible apply settleOps_wf
      | with_reducible apply MemState.write_wf
      | split
      | (simp only [])
      | (simp; done)
      | (simp [*])

@[simp] theorem State.sendHeartbeat_mem (s : State) : s.sendHeartbeat.mem = s.mem := by
  unfold State.sendHeartbeat; simp

@[simp] theorem State.takeJob_mem (s : State) (j : JobCfg) (f : State → Nat → State) (h_f : ∀ x0 x1, (f x0 x1).mem =
    x0.mem) : (State.takeJob s j f).mem = s.mem := by
  unfold State.takeJob; simp [*]

theorem State.takeJob_wf (s : State) (j : JobCfg) (f : State → Nat → State) (h_f : ∀ x0 x1, Memory.wf x0.mem = true →
    Memory.wf (f x0 x1).mem = true) (hw : Memory.wf s.mem = true) : Memory.wf (State.takeJob s j f).mem = true := by
  unfold State.takeJob
  repeat' first
      | with_reducible assumption
      | intro _
      | with_reducible apply h_f
      | with_reducible apply settleOps_wf
      | with_reducible apply each_wf
      | split
      | (simp only [])
      | (simp; done)
      | (simp [*])

@[simp] theorem State.takeOver_mem (s : State) (j : JobCfg) : (State.takeOver s j).mem = s.mem := by
  unfold State.takeOver; simp

@[simp] theorem State.jobRings_mem (s : State) (j : JobCfg) (has : Bool) : (State.jobRings s j has).mem = s.mem := by
  unfold State.jobRings; simp

@[simp] theorem State.loseJob_mem (s : State) (j : JobCfg) (live : Bool) (has : Bool) : (State.loseJob s j live
    has).mem = s.mem := by
  unfold State.loseJob; simp

@[simp] theorem State.gainJob_mem (s : State) (new : Nat) (has : Bool) (prev : Option Nat) (j : JobCfg) :
    (State.gainJob s new has prev j).mem = s.mem := by
  unfold State.gainJob; simp

@[simp] theorem State.reown_mem (s : State) (new : Nat) (has : Bool) (prev : Option Nat) (j : JobCfg) : (State.reown s
    new has prev j).mem = s.mem := by
  unfold State.reown; simp

@[simp] theorem State.applyLive_mem (s : State) (before : Nat) (new : Nat) : (State.applyLive s before new).mem =
    s.mem := by
  unfold State.applyLive; simp

@[simp] theorem State.announce_mem (s : State) (new : Nat) : (State.announce s new).mem = s.mem := by
  unfold State.announce; simp

@[simp] theorem State.takeIn_mem (s : State) (chip : Nat) (digest : Nat) (joining : Bool) : (State.takeIn s chip digest
    joining).mem = s.mem := by
  unfold State.takeIn; simp

@[simp] theorem State.released_mem (s : State) (j : JobCfg) : (State.released s j).mem = s.mem := by
  unfold State.released; simp

/-! Host -/

theorem State.mailbox_wf (s : State) (seq : Byte) (cmd : Nat) (args : List Nat) (hw : Memory.wf s.mem = true) :
    Memory.wf (State.mailbox s seq cmd args).mem = true := by
  unfold State.mailbox
  repeat' first
      | with_reducible assumption
      | intro _
      | with_reducible apply State.mbCmd_wf
      | with_reducible apply settleOps_wf
      | split
      | (simp only [])
      | (simp; done)
      | (simp [*])

theorem State.windowWrite_wf (s : State) (off : Nat) (data : List Byte) (hw : Memory.wf s.mem = true) : Memory.wf
    (State.windowWrite s off data).mem = true := by
  unfold State.windowWrite
  repeat' first
      | with_reducible assumption
      | intro _
      | with_reducible apply settleOps_wf
      | with_reducible apply each_wf
      | with_reducible apply MemState.write_wf
      | split
      | (simp only [])
      | (simp; done)
      | (simp [*])

@[simp] theorem State.windowFails_mem (s : State) (off : Nat) (data : List Byte) : (State.windowFails s off data).mem
    = s.mem := by
  unfold State.windowFails; simp

theorem State.windowAccess_wf (s : State) (off : Nat) (data : List Byte) (hw : Memory.wf s.mem = true) :
    Memory.wf (State.windowAccess s off data).mem = true :=
  State.masterAccess_wf _ _ _ _ _
    (fun x hx => State.masterAccess_wf _ _ _ _ _ (fun y hy => State.windowWrite_wf y _ _ hy)
      (fun y hy => by rw [State.windowFails_mem]; exact hy) hx)
    (fun x hx => by rw [State.windowFails_mem]; exact hx) hw

theorem State.resume_wf (s : State) (x : StalledAcc) (hw : Memory.wf s.mem = true) : Memory.wf (s.resume x).mem = true := by
  cases x
  · exact hw
  · exact hw
  · exact State.memRead_wf _ _ _ hw
  · exact State.memWrite_wf _ _ _ _ hw
  · exact State.windowAccess_wf _ _ _ hw
  · exact State.storeLate_wf _ _ _ hw

theorem State.serveStalled_wf (s : State) (d : Nat) (hw : Memory.wf s.mem = true) : Memory.wf (State.serveStalled s
    d).mem = true := by
  unfold State.serveStalled
  repeat' first
      | with_reducible assumption
      | intro _
      | with_reducible apply State.resume_wf
      | with_reducible apply settleOps_wf
      | with_reducible apply each_wf
      | split
      | (simp only [])
      | (simp; done)
      | (simp [*])

@[simp] theorem State.portAnswers_mem (s : State) (o : SmallPort) (n : Nat) (f : State → State) (h_f : ∀ x0, (f
    x0).mem = x0.mem) : (State.portAnswers s o n f).mem = s.mem := by
  unfold State.portAnswers; simp [*]

theorem State.portAnswers_wf (s : State) (o : SmallPort) (n : Nat) (f : State → State) (h_f : ∀ x0, Memory.wf x0.mem
    = true → Memory.wf (f x0).mem = true) (hw : Memory.wf s.mem = true) : Memory.wf (State.portAnswers s o n f).mem =
    true := by
  unfold State.portAnswers
  repeat' first
      | with_reducible assumption
      | intro _
      | with_reducible apply h_f
      | with_reducible apply State.answer_wf
      | with_reducible apply settleOps_wf
      | split
      | (simp only [])
      | (simp; done)
      | (simp [*])

/-! Rail -/

@[simp] theorem State.showPeriod_mem (s : State) (p : RailPeriod) : (State.showPeriod s p).mem = s.mem := by
  unfold State.showPeriod; simp

@[simp] theorem State.leaveLight_mem (s : State) : s.leaveLight.mem = s.mem := by
  unfold State.leaveLight; simp

@[simp] theorem State.shed_mem (s : State) (n : Nat) : (State.shed s n).mem = s.mem := by
  unfold State.shed; simp

@[simp] theorem State.makeBlind_mem (s : State) (n : Nat) : (State.makeBlind s n).mem = s.mem := by
  unfold State.makeBlind; simp

@[simp] theorem State.shedBlind_mem (s : State) : s.shedBlind.mem = s.mem := by
  unfold State.shedBlind; simp

@[simp] theorem State.clampRail_mem (s : State) : s.clampRail.mem = s.mem := by
  unfold State.clampRail; simp

theorem State.phaseLoss_wf (s : State) (hw : Memory.wf s.mem = true) : Memory.wf (State.phaseLoss s).mem = true := by
  unfold State.phaseLoss
  repeat' first
      | with_reducible assumption
      | intro _
      | with_reducible apply State.set_wf
      | with_reducible apply State.resetDue_wf
      | with_reducible apply settleOps_wf
      | with_reducible apply when_wf
      | split
      | (simp only [])
      | (simp; done)
      | (simp [*])

@[simp] theorem State.isenReject_mem (s : State) (n : Fin 4) : (State.isenReject s n).mem = s.mem := by
  unfold State.isenReject; simp

@[simp] theorem State.isenEnds_mem (s : State) (n : Fin 4) (m : IsenMeas) : (State.isenEnds s n m).mem = s.mem := by
  unfold State.isenEnds; simp

@[simp] theorem State.softStart_mem (s : State) : s.softStart.mem = s.mem := by
  unfold State.softStart; simp

@[simp] theorem State.phaseCalibrated_mem (s : State) (n : Fin 4) : (State.phaseCalibrated s n).mem = s.mem := by
  unfold State.phaseCalibrated; simp

@[simp] theorem State.railUp_mem (s : State) : s.railUp.mem = s.mem := by
  unfold State.railUp; simp

@[simp] theorem State.railEnable_mem (s : State) (meas : List (Fin 4 × IsenMeas)) : (State.railEnable s meas).mem =
    s.mem := by
  unfold State.railEnable; simp

/-! Area -/

theorem State.beginWrite_wf (s : State) (b : Nat) (again : Bool) (h : Memory.wf s.mem = true) :
    Memory.wf (State.beginWrite s b again).mem = true := by
  unfold State.beginWrite
  apply MemState.nvmWrite_wf
  rw [Memory.wf_iff] at h ⊢
  obtain ⟨h1, h2, h3, h4, h5, h6, h7, h8⟩ := h
  exact ⟨h1, h2, h3, h4, tblWf_drop _ _ _ _ h5, h6, h7, h8⟩

theorem State.startWrite_wf (s : State) (hw : Memory.wf s.mem = true) : Memory.wf (State.startWrite s).mem = true :=
    by
  unfold State.startWrite
  repeat' first
      | with_reducible assumption
      | intro _
      | with_reducible apply State.beginWrite_wf
      | with_reducible apply settleOps_wf
      | with_reducible apply when_wf
      | split
      | (simp only [])
      | (simp; done)
      | (simp [*])

/-! Supply -/

@[simp] theorem State.showRail_mem (s : State) (rail : Rail) (code : Nat) (min? : Bool) : (State.showRail s rail code
    min?).mem = s.mem := by
  unfold State.showRail
  (try dsimp only); (repeat' split) <;> simp

@[simp] theorem State.sampleRails_mem (s : State) : s.sampleRails.mem = s.mem := by
  unfold State.sampleRails; simp

@[simp] theorem State.setWarn_mem (s : State) (rail : Rail) (b : Bool) : (State.setWarn s rail b).mem = s.mem := by
  unfold State.setWarn; simp

@[simp] theorem State.warn_mem (s : State) (rail : Rail) (code : Nat) : (State.warn s rail code).mem = s.mem := by
  unfold State.warn; simp

@[simp] theorem State.countBrace_mem (s : State) : s.countBrace.mem = s.mem := by
  unfold State.countBrace; simp

@[simp] theorem State.storm_mem (s : State) : s.storm.mem = s.mem := by
  unfold State.storm; simp

theorem State.braceHolds_wf (s : State) (hw : Memory.wf s.mem = true) : Memory.wf (State.braceHolds s).mem = true :=
    by
  unfold State.braceHolds
  repeat' first
      | with_reducible assumption
      | intro _
      | with_reducible apply State.abandonSteps_wf
      | with_reducible apply settleOps_wf
      | split
      | (simp only [])
      | (simp; done)
      | (simp [*])

theorem State.runDeferred_wf (s : State) (hw : Memory.wf s.mem = true) : Memory.wf s.runDeferred.mem = true := by
  unfold State.runDeferred
  refine each_wf _ _ _ (fun x d hx => ?_) hw
  cases d
  · simpa using hx
  · exact State.startWrite_wf _ hx
  · exact State.startProgram_wf _ _ hx

theorem State.braceEnds_wf (s : State) (hw : Memory.wf s.mem = true) : Memory.wf (State.braceEnds s).mem = true := by
  unfold State.braceEnds
  repeat' first
      | with_reducible assumption
      | intro _
      | with_reducible apply State.set_wf
      | with_reducible apply State.runDeferred_wf
      | with_reducible apply settleOps_wf
      | split
      | (simp only [])
      | (simp; done)
      | (simp [*])

theorem State.braceOver_wf (s : State) (low : Nat) (hw : Memory.wf s.mem = true) : Memory.wf (State.braceOver s
    low).mem = true := by
  unfold State.braceOver
  repeat' first
      | with_reducible assumption
      | intro _
      | with_reducible apply State.set_wf
      | with_reducible apply State.braceEnds_wf
      | with_reducible apply settleOps_wf
      | split
      | (simp only [])
      | (simp; done)
      | (simp [*])

@[simp] theorem State.classify_mem (s : State) (b : Bank) (c : Nat) : (State.classify s b c).mem = s.mem := by
  unfold State.classify; simp

@[simp] theorem State.nvmReads_mem (s : State) (b : Bool) : (State.nvmReads s b).mem = s.mem := by
  unfold State.nvmReads; simp

/-! Power -/

theorem State.notifyBusy_wf (s : State) (hw : Memory.wf s.mem = true) : Memory.wf (State.notifyBusy s).mem = true :=
    by
  unfold State.notifyBusy
  repeat' first
      | with_reducible assumption
      | intro _
      | with_reducible apply State.completeEntry_wf
      | with_reducible apply settleOps_wf
      | with_reducible apply each_wf
      | split
      | (simp only [])
      | (simp; done)
      | (simp [*])

theorem State.commitStep_wf (s : State) (q : ChipReq) (hw : Memory.wf s.mem = true) : Memory.wf (State.commitStep s
    q).mem = true := by
  unfold State.commitStep
  repeat' first
      | with_reducible assumption
      | intro _
      | with_reducible apply State.abandonSteps_wf
      | with_reducible apply settleOps_wf
      | with_reducible apply when_wf
      | split
      | (simp only [])
      | (simp; done)
      | (simp [*])

@[simp] theorem State.clearLatches_mem (s : State) : s.clearLatches.mem = s.mem := by
  unfold State.clearLatches; simp

theorem State.settleState_wf (s : State) (n : Nat) (hw : Memory.wf s.mem = true) : Memory.wf (State.settleState s
    n).mem = true := by
  unfold State.settleState
  repeat' first
      | with_reducible assumption
      | intro _
      | with_reducible apply State.set_wf
      | with_reducible apply State.braceOver_wf
      | with_reducible apply settleOps_wf
      | with_reducible apply when_wf
      | split
      | (simp only [])
      | (simp; done)
      | (simp [*])

theorem State.enterState_wf (s : State) (n : Nat) (cause : Nat) (fly : Option ChipReq) (hw : Memory.wf s.mem = true) :
    Memory.wf (State.enterState s n cause fly).mem = true := by
  unfold State.enterState
  repeat' first
      | with_reducible assumption
      | intro _
      | with_reducible apply State.settleState_wf
      | with_reducible apply settleOps_wf
      | split
      | (simp only [])
      | (simp; done)
      | (simp [*])

theorem State.rowReady_wf (s : State) (d : Nat) (hw : Memory.wf s.mem = true) : Memory.wf (State.rowReady s d).mem =
    true := by
  unfold State.rowReady
  repeat' first
      | with_reducible assumption
      | intro _
      | with_reducible apply State.stallIdle_wf
      | with_reducible apply settleOps_wf
      | with_reducible apply each_wf
      | with_reducible apply when_wf
      | split
      | (simp only [])
      | (simp; done)
      | (simp [*])

@[simp] theorem State.calsAgain_mem (s : State) : s.calsAgain.mem = s.mem := by
  unfold State.calsAgain; simp

theorem State.domainUp_wf (s : State) (d : Nat) (hw : Memory.wf s.mem = true) : Memory.wf (State.domainUp s d).mem =
    true := by
  unfold State.domainUp
  repeat' first
      | with_reducible assumption
      | intro _
      | with_reducible apply State.rowReady_wf
      | with_reducible apply State.serveReissues_wf
      | with_reducible apply State.serveBarn_wf
      | with_reducible apply settleOps_wf
      | split
      | (simp only [])
      | (simp; done)
      | (simp [*])

theorem State.ready_wf (s : State) (d : Nat) (lvl : Nat) (hw : Memory.wf s.mem = true) : Memory.wf (State.ready s d
    lvl).mem = true := by
  unfold State.ready
  repeat' first
      | with_reducible assumption
      | intro _
      | with_reducible apply State.setFlight_wf
      | with_reducible apply State.setLevel_wf
      | with_reducible apply State.domainUp_wf
      | with_reducible apply State.serveStalled_wf
      | with_reducible apply settleOps_wf
      | with_reducible apply when_wf
      | split
      | (simp only [])
      | (simp; done)
      | (simp [*])

@[simp] theorem State.cutTile_mem (s : State) (st : Nat) : (State.cutTile s st).mem = s.mem := by
  unfold State.cutTile
  (try dsimp only); (repeat' split) <;> simp

theorem State.rowDrop_wf (s : State) (d : Nat) (lvl : Nat) (hw : Memory.wf s.mem = true) : Memory.wf (State.rowDrop s
    d lvl).mem = true := by
  unfold State.rowDrop
  repeat' first
      | with_reducible assumption
      | intro _
      | with_reducible apply State.stopStall_wf
      | with_reducible apply settleOps_wf
      | with_reducible apply each_wf
      | with_reducible apply when_wf
      | split
      | (simp only [])
      | (simp; done)
      | (simp [*])

@[simp] theorem State.emptyRings_mem (s : State) (d : Nat) : (State.emptyRings s d).mem = s.mem := by
  unfold State.emptyRings; simp

@[simp] theorem State.coreDrop_mem (s0 : State) : s0.coreDrop.mem = s0.mem := by
  unfold State.coreDrop; simp

theorem State.domainDown_wf (s : State) (d : Nat) (lvl : Nat) (hw : Memory.wf s.mem = true) : Memory.wf
    (State.domainDown s d lvl).mem = true := by
  unfold State.domainDown
  repeat' first
      | with_reducible assumption
      | intro _
      | with_reducible apply State.rowDrop_wf
      | with_reducible apply State.portsStop_wf
      | with_reducible apply settleOps_wf
      | with_reducible apply when_wf
      | split
      | (simp only [])
      | (simp; done)
      | (simp [*])

@[simp] theorem State.railIdle_mem (s : State) : s.railIdle.mem = s.mem := by
  unfold State.railIdle; simp

theorem State.domainFails_wf (s : State) (d : Nat) (hw : Memory.wf s.mem = true) : Memory.wf (State.domainFails s
    d).mem = true := by
  unfold State.domainFails
  repeat' first
      | with_reducible assumption
      | intro _
      | with_reducible apply State.setMaskBit_wf
      | with_reducible apply State.setFlight_wf
      | with_reducible apply State.fence_wf
      | with_reducible apply State.setAt_wf
      | with_reducible apply State.serveBarn_wf
      | with_reducible apply State.serveReissues_wf
      | with_reducible apply State.serveStalled_wf
      | with_reducible apply settleOps_wf
      | with_reducible apply when_wf
      | with_reducible apply each_wf
      | split
      | (simp only [])
      | (simp; done)
      | (simp [*])

@[simp] theorem State.wakeActs_mem (s : State) (src : Nat) : (State.wakeActs s src).mem = s.mem := by
  unfold State.wakeActs; simp

@[simp] theorem State.levelWake_mem (s : State) (src : Nat) : (State.levelWake s src).mem = s.mem := by
  unfold State.levelWake; simp

@[simp] theorem State.wakeRises_mem (s : State) : s.wakeRises.mem = s.mem := by
  unfold State.wakeRises
  (try dsimp only); (repeat' split) <;> simp

@[simp] theorem State.readWake_mem (s : State) (was : Bool) : (State.readWake s was).mem = s.mem := by
  unfold State.readWake; simp

@[simp] theorem State.sampleWakes_mem (s : State) : s.sampleWakes.mem = s.mem := by
  unfold State.sampleWakes; simp

/-! Load -/

theorem State.writeLoad_wf (s : State) (b : List Byte) (r : List Byte) (hw : Memory.wf s.mem = true) : Memory.wf
    (State.writeLoad s b r).mem = true := by
  unfold State.writeLoad
  repeat' first
      | with_reducible assumption
      | intro _
      | with_reducible apply settleOps_wf
      | with_reducible apply when_wf
      | with_reducible apply MemState.write_wf
      | split
      | (simp only [])
      | (simp; done)
      | (simp [*])

@[simp] theorem State.loadHeads_mem (s : State) (b : List Byte) : (State.loadHeads s b).mem = s.mem := by
  unfold State.loadHeads; simp

@[simp] theorem State.ringFields_mem (s : State) (r : List Byte) : (State.ringFields s r).mem = s.mem := by
  unfold State.ringFields; simp

@[simp] theorem State.loadRing_mem (s : State) (r : List Byte) : (State.loadRing s r).mem = s.mem := by
  unfold State.loadRing; simp

@[simp] theorem State.loadTallies_mem (s : State) (b : List Byte) : (State.loadTallies s b).mem = s.mem := by
  unfold State.loadTallies; simp

@[simp] theorem State.restoreChains_mem (s : State) (b : List Byte) : (State.restoreChains s b).mem = s.mem := by
  unfold State.restoreChains; simp

theorem State.loadChains_wf (s : State) (b : List Byte) (hw : Memory.wf s.mem = true) : Memory.wf (State.loadChains s
    b).mem = true := by
  unfold State.loadChains
  repeat' first
      | with_reducible assumption
      | intro _
      | with_reducible apply State.writeLoad_wf
      | with_reducible apply State.set_wf
      | with_reducible apply settleOps_wf
      | with_reducible apply each_wf
      | split
      | (simp only [])
      | (simp; done)
      | (simp [*])

@[simp] theorem State.armHead_mem (s : State) (yard : Bool) (e : List Byte) : (State.armHead s yard e).mem = s.mem :=
    by
  unfold State.armHead; simp

@[simp] theorem State.loadHead_mem (s : State) (e : List Byte) : (State.loadHead s e).mem = s.mem := by
  unfold State.loadHead; simp

@[simp] theorem State.fillHead_mem (s : State) (e : List Byte) : (State.fillHead s e).mem = s.mem := by
  unfold State.fillHead; simp

@[simp] theorem State.policyFields_mem (s : State) (b : List Byte) : (State.policyFields s b).mem = s.mem := by
  unfold State.policyFields; simp

@[simp] theorem State.armHeads_mem (s : State) (b : List Byte) : (State.armHeads s b).mem = s.mem := by
  unfold State.armHeads; simp

@[simp] theorem State.restorePolicy_mem (s : State) (b : List Byte) : (State.restorePolicy s b).mem = s.mem := by
  unfold State.restorePolicy; simp

@[simp] theorem State.loadPolicy_mem (s : State) (b : List Byte) (cold : Bool) : (State.loadPolicy s b cold).mem =
    s.mem := by
  unfold State.loadPolicy; simp

@[simp] theorem State.loadAlarms_mem (s : State) (b : List Byte) : (State.loadAlarms s b).mem = s.mem := by
  unfold State.loadAlarms; simp

theorem State.yardLoad_wf (s : State) (off : Nat) (bs : List Byte) (hw : Memory.wf s.mem = true) : Memory.wf
    (State.yardLoad s off bs).mem = true := by
  unfold State.yardLoad
  repeat' first
      | with_reducible assumption
      | intro _
      | with_reducible apply settleOps_wf
      | with_reducible apply MemState.store_wf
      | split
      | (simp only [])
      | (simp; done)
      | (simp [*])

theorem State.loadWatchMem_wf (s : State) (b : List Byte) (hw : Memory.wf s.mem = true) : Memory.wf
    (State.loadWatchMem s b).mem = true := by
  unfold State.loadWatchMem
  repeat' first
      | with_reducible assumption
      | intro _
      | with_reducible apply State.yardLoad_wf
      | with_reducible apply settleOps_wf
      | with_reducible apply each_wf
      | split
      | (simp only [])
      | (simp; done)
      | (simp [*])

@[simp] theorem State.loadSlot_mem (s : State) (good : Bool) (e : List Byte) : (State.loadSlot s good e).mem = s.mem
    := by
  unfold State.loadSlot; simp

@[simp] theorem State.loadWatch_mem (s : State) (b : List Byte) (chains : List Byte) : (State.loadWatch s b
    chains).mem = s.mem := by
  unfold State.loadWatch; simp

theorem State.loadPatMem_wf (s : State) (b : List Byte) (watch : List Byte) (hw : Memory.wf s.mem = true) : Memory.wf
    (State.loadPatMem s b watch).mem = true := by
  unfold State.loadPatMem
  repeat' first
      | with_reducible assumption
      | intro _
      | with_reducible apply State.yardLoad_wf
      | with_reducible apply settleOps_wf
      | with_reducible apply each_wf
      | split
      | (simp only [])
      | (simp; done)
      | (simp [*])

@[simp] theorem State.loadPat_mem (s : State) (good : Bool) (e : List Byte) : (State.loadPat s good e).mem = s.mem :=
    by
  unfold State.loadPat; simp

@[simp] theorem State.loadPats_mem (s : State) (b : List Byte) (watch : List Byte) : (State.loadPats s b watch).mem =
    s.mem := by
  unfold State.loadPats; simp

@[simp] theorem State.loadScripts_mem (s : State) (b : List Byte) : (State.loadScripts s b).mem = s.mem := by
  unfold State.loadScripts; simp

@[simp] theorem State.loadSets_mem (s : State) (b : List Byte) : (State.loadSets s b).mem = s.mem := by
  unfold State.loadSets; simp

@[simp] theorem State.loadMapping_mem (s : State) (b : List Byte) (log : Bool) : (State.loadMapping s b log).mem =
    s.mem := by
  unfold State.loadMapping; simp

@[simp] theorem State.checkNums_mem (s : State) (log : Bool) : (State.checkNums s log).mem = s.mem := by
  unfold State.checkNums; simp

@[simp] theorem State.camOff_mem (s : State) (p : Nat) : (State.camOff s p).mem = s.mem := by
  unfold State.camOff; simp

@[simp] theorem State.checkCams_mem (s : State) : s.checkCams.mem = s.mem := by
  unfold State.checkCams; simp

@[simp] theorem State.checkReserved_mem (s : State) (log : Bool) : (State.checkReserved s log).mem = s.mem := by
  unfold State.checkReserved; simp

@[simp] theorem State.checkC0_mem (s : State) (log : Bool) : (State.checkC0 s log).mem = s.mem := by
  unfold State.checkC0; simp

/-! Start -/

@[simp] theorem State.keepRegs_mem (s : State) (keep : RegDef → Word) : (State.keepRegs s keep).mem = s.mem := by
  unfold State.keepRegs; simp

theorem State.keepParts_wf (s : State) (c : Nat) (h : Memory.wf s.mem = true) :
    Memory.wf (State.keepParts s c).mem = true := by
  unfold State.keepParts
  rw [Memory.wf_iff] at h ⊢
  obtain ⟨h1, h2, h3, h4, h5, h6, h7, h8⟩ := h
  refine ⟨h1, ?_, h3, h4, h5, h6, ?_, h8⟩
  · show TblWf zeroDefault (if clearsAon c then [] else s.mem.yard)
    split
    · exact tblWf_nil _
    · exact h2
  · show TblWf (fun _ => 0) (if clearsAon c then [] else s.mem.tYard)
    split
    · exact tblWf_nil _
    · exact h7

@[simp] theorem State.spanT0_mem (s : State) (c : Nat) : (State.spanT0 s c).mem = s.mem := by
  unfold State.spanT0; simp

@[simp] theorem State.bootT0_mem (s : State) (c : Nat) : (State.bootT0 s c).mem = s.mem := by
  unfold State.bootT0; simp

@[simp] theorem State.selectSlot_mem (s : State) : s.selectSlot.mem = s.mem := by
  unfold State.selectSlot; simp

@[simp] theorem State.showStart_mem (s : State) (env : StartEnv) (c : Nat) (prev : Nat) : (State.showStart s env c
    prev).mem = s.mem := by
  unfold State.showStart; simp

theorem State.beginStart_wf (s : State) (env : StartEnv) (hw : Memory.wf s.mem = true) : Memory.wf (State.beginStart s
    env).mem = true := by
  unfold State.beginStart
  repeat' first
      | with_reducible assumption
      | intro _
      | with_reducible apply State.openDomains_wf
      | with_reducible apply State.drainLog_wf
      | with_reducible apply State.keepParts_wf
      | with_reducible apply settleOps_wf
      | split
      | (simp only [])
      | (simp; done)
      | (simp [*])

theorem State.startOn_wf (s : State) (bad : List (Fin 24)) (ds : List Nat) (hw : Memory.wf s.mem = true) : Memory.wf
    (State.startOn s bad ds).mem = true := by
  unfold State.startOn
  repeat' first
      | with_reducible assumption
      | intro _
      | with_reducible apply State.domainFails_wf
      | with_reducible apply State.setLevel_wf
      | with_reducible apply State.domainUp_wf
      | with_reducible apply settleOps_wf
      | with_reducible apply each_wf
      | split
      | (simp only [])
      | (simp; done)
      | (simp [*])

@[simp] theorem State.countFail_mem (s : State) : s.countFail.mem = s.mem := by
  unfold State.countFail; simp

theorem State.startFails_wf (s : State) (hw : Memory.wf s.mem = true) : Memory.wf (State.startFails s).mem = true :=
    by
  unfold State.startFails
  repeat' first
      | with_reducible assumption
      | intro _
      | with_reducible apply State.resetDue_wf
      | with_reducible apply settleOps_wf
      | split
      | (simp only [])
      | (simp; done)
      | (simp [*])

theorem State.enterHold_wf (s : State) (bad : List (Fin 24)) (cause : Nat) (hw : Memory.wf s.mem = true) : Memory.wf
    (State.enterHold s bad cause).mem = true := by
  unfold State.enterHold
  repeat' first
      | with_reducible assumption
      | intro _
      | with_reducible apply State.set_wf
      | with_reducible apply State.startOn_wf
      | with_reducible apply settleOps_wf
      | split
      | (simp only [])
      | (simp; done)
      | (simp [*])

theorem State.powerLoss_wf (s0 : State) (h : Memory.wf s0.mem = true) : Memory.wf s0.powerLoss.mem = true := by
  have h := (congrArg Memory.wf (State.interruptRows_mem s0 (List.range 12) true)).trans h
  unfold State.powerLoss
  rw [Memory.wf_iff] at h ⊢
  obtain ⟨h1, h2, h3, h4, h5, h6, h7, h8⟩ := h
  refine ⟨tblWf_nil _, tblWf_nil _, tblWf_nil _, tblWf_nil _, h5, tblWf_nil _, tblWf_nil _, tblWf_nil _⟩

/-! Boot -/

@[simp] theorem State.stepDone_mem (s : State) (k : Nat) : (State.stepDone s k).mem = s.mem := by
  unfold State.stepDone; simp

@[simp] theorem State.stepBegun_mem (s : State) (k : Nat) : (State.stepBegun s k).mem = s.mem := by
  unfold State.stepBegun; simp

@[simp] theorem State.spanStarts_mem (s : State) (rc : Word) : (State.spanStarts s rc).mem = s.mem := by
  unfold State.spanStarts; simp

@[simp] theorem State.start2_mem (s : State) (env : StartEnv) : (State.start2 s env).mem = s.mem := by
  unfold State.start2; simp

@[simp] theorem State.makeIdentity_mem (s : State) : s.makeIdentity.mem = s.mem := by
  unfold State.makeIdentity
  (try dsimp only); (repeat' split) <;> simp

@[simp] theorem State.start3_mem (s : State) (env : StartEnv) : (State.start3 s env).mem = s.mem := by
  unfold State.start3; simp

theorem State.holdCheck_wf (s : State) (bad : List (Fin 24)) (hw : Memory.wf s.mem = true) : Memory.wf
    (State.holdCheck s bad).mem = true := by
  unfold State.holdCheck
  repeat' first
      | with_reducible assumption
      | intro _
      | with_reducible apply State.enterHold_wf
      | with_reducible apply settleOps_wf
      | split
      | (simp only [])
      | (simp; done)
      | (simp [*])

theorem State.start4_wf (s : State) (env : StartEnv) (hw : Memory.wf s.mem = true) : Memory.wf (State.start4 s
    env).mem = true := by
  unfold State.start4
  repeat' first
      | with_reducible assumption
      | intro _
      | with_reducible apply State.holdCheck_wf
      | with_reducible apply State.startFails_wf
      | with_reducible apply State.zeroYard_wf
      | with_reducible apply settleOps_wf
      | split
      | (simp only [])
      | (simp; done)
      | (simp [*])

@[simp] theorem State.setWear_mem (s : State) (rows : List Nat) (cycles : List Nat) : (State.setWear s rows
    cycles).mem = s.mem := by
  unfold State.setWear; simp

@[simp] theorem State.senseOffsets_mem (s : State) (l : List (BitVec 16)) (source : Nat) : (State.senseOffsets s l
    source).mem = s.mem := by
  unfold State.senseOffsets; simp

@[simp] theorem State.readBank_mem (s : State) (defaults : List Byte) : (State.readBank s defaults).mem = s.mem := by
  unfold State.readBank
  (try dsimp only); (repeat' split) <;> simp

theorem State.readImage_wf (s : State) (bad : List (Fin 24)) (slot : Nat) (h : List Byte) (hw : Memory.wf s.mem =
    true) : Memory.wf (State.readImage s bad slot h).mem = true := by
  unfold State.readImage
  repeat' first
      | with_reducible assumption
      | intro _
      | with_reducible apply State.set_wf
      | with_reducible apply State.startOn_wf
      | with_reducible apply settleOps_wf
      | with_reducible apply when_wf
      | split
      | (simp only [])
      | (simp; done)
      | (simp [*])

theorem State.coldRead_wf (s : State) (bad : List (Fin 24)) (hw : Memory.wf s.mem = true) : Memory.wf (State.coldRead
    s bad).mem = true := by
  unfold State.coldRead
  repeat' first
      | with_reducible assumption
      | intro _
      | with_reducible apply State.startFails_wf
      | with_reducible apply State.loadWatchMem_wf
      | with_reducible apply State.loadPatMem_wf
      | with_reducible apply State.readImage_wf
      | with_reducible apply settleOps_wf
      | split
      | (simp only [])
      | (simp; done)
      | (simp [*])

theorem State.convert_wf (s : State) (hw : Memory.wf s.mem = true) : Memory.wf (State.convert s).mem = true := by
  unfold State.convert
  repeat' first
      | with_reducible assumption
      | intro _
      | with_reducible apply State.set_wf
      | with_reducible apply State.keepParts_wf
      | with_reducible apply settleOps_wf
      | split
      | (simp only [])
      | (simp; done)
      | (simp [*])

theorem State.warmTamper_wf (s : State) (id : Nat) (hw : Memory.wf s.mem = true) : Memory.wf (State.warmTamper s
    id).mem = true := by
  unfold State.warmTamper
  repeat' first
      | with_reducible assumption
      | intro _
      | with_reducible apply State.alarm_wf
      | with_reducible apply State.startFails_wf
      | with_reducible apply settleOps_wf
      | split
      | (simp only [])
      | (simp; done)
      | (simp [*])

theorem State.warmRead_wf (s : State) (bad : List (Fin 24)) (hw : Memory.wf s.mem = true) : Memory.wf (State.warmRead
    s bad).mem = true := by
  unfold State.warmRead
  repeat' first
      | with_reducible assumption
      | intro _
      | with_reducible apply State.convert_wf
      | with_reducible apply State.warmTamper_wf
      | with_reducible apply State.readImage_wf
      | with_reducible apply settleOps_wf
      | split
      | (simp only [])
      | (simp; done)
      | (simp [*])

theorem State.start5_wf (s : State) (env : StartEnv) (hw : Memory.wf s.mem = true) : Memory.wf (State.start5 s
    env).mem = true := by
  unfold State.start5
  repeat' first
      | with_reducible assumption
      | intro _
      | with_reducible apply State.warmRead_wf
      | with_reducible apply State.coldRead_wf
      | with_reducible apply settleOps_wf
      | split
      | (simp only [])
      | (simp; done)
      | (simp [*])

theorem State.start6_wf (s : State) (env : StartEnv) (hw : Memory.wf s.mem = true) : Memory.wf (State.start6 s
    env).mem = true := by
  unfold State.start6
  repeat' first
      | with_reducible assumption
      | intro _
      | with_reducible apply State.startOn_wf
      | with_reducible apply State.zeroDomain_wf
      | with_reducible apply State.startFails_wf
      | with_reducible apply State.fence_wf
      | with_reducible apply settleOps_wf
      | with_reducible apply each_wf
      | with_reducible apply when_wf
      | split
      | (simp only [])
      | (simp; done)
      | (simp [*])

theorem State.programSet_wf (s : State) (env : StartEnv) (levels : List Byte) (w : WsetCfg) (st : Nat) (hw :
    Memory.wf s.mem = true) : Memory.wf (State.programSet s env levels w st).mem = true := by
  unfold State.programSet
  repeat' first
      | with_reducible assumption
      | intro _
      | with_reducible apply State.startOn_wf
      | with_reducible apply State.programEnds_wf
      | with_reducible apply settleOps_wf
      | with_reducible apply when_wf
      | split
      | (simp only [])
      | (simp; done)
      | (simp [*])

theorem State.start7_wf (s : State) (env : StartEnv) (hw : Memory.wf s.mem = true) : Memory.wf (State.start7 s
    env).mem = true := by
  unfold State.start7
  repeat' first
      | with_reducible assumption
      | intro _
      | with_reducible apply State.programSet_wf
      | with_reducible apply settleOps_wf
      | with_reducible apply each_wf
      | split
      | (simp only [])
      | (simp; done)
      | (simp [*])

theorem State.start8_wf (s : State) (env : StartEnv) (hw : Memory.wf s.mem = true) : Memory.wf (State.start8 s
    env).mem = true := by
  unfold State.start8
  repeat' first
      | with_reducible assumption
      | intro _
      | with_reducible apply State.startOn_wf
      | with_reducible apply State.barnFails_wf
      | with_reducible apply State.set_wf
      | with_reducible apply State.fullSweep_wf
      | with_reducible apply State.calReject_wf
      | with_reducible apply settleOps_wf
      | split
      | (simp only [])
      | (simp; done)
      | (simp [*])

@[simp] theorem State.startProbe_mem (s : State) (p : Nat) (l : List ProbeSample) : (State.startProbe s p l).mem =
    s.mem := by
  unfold State.startProbe; simp

theorem State.start9_wf (s : State) (env : StartEnv) (hw : Memory.wf s.mem = true) : Memory.wf (State.start9 s
    env).mem = true := by
  unfold State.start9
  repeat' first
      | with_reducible assumption
      | intro _
      | with_reducible apply State.startOn_wf
      | with_reducible apply settleOps_wf
      | with_reducible apply each_wf
      | with_reducible apply when_wf
      | split
      | (simp only [])
      | (simp; done)
      | (simp [*])

@[simp] theorem State.loadOffsets_mem (s : State) : s.loadOffsets.mem = s.mem := by
  unfold State.loadOffsets; simp

@[simp] theorem State.seal_mem (s : State) (h : List Byte) (ms : Nat) : (State.seal s h ms).mem = s.mem := by
  unfold State.seal; simp

theorem State.loadAll_wf (s : State) (bad : List (Fin 24)) (slot : Nat) (h : List Byte) (hw : Memory.wf s.mem = true)
    : Memory.wf (State.loadAll s bad slot h).mem = true := by
  unfold State.loadAll
  repeat' first
      | with_reducible assumption
      | intro _
      | with_reducible apply State.startOn_wf
      | with_reducible apply State.loadChains_wf
      | with_reducible apply State.setAt_wf
      | with_reducible apply settleOps_wf
      | with_reducible apply when_wf
      | with_reducible apply each_wf
      | split
      | (simp only [])
      | (simp; done)
      | (simp [*])

theorem State.start10_wf (s : State) (env : StartEnv) (hw : Memory.wf s.mem = true) : Memory.wf (State.start10 s
    env).mem = true := by
  unfold State.start10
  repeat' first
      | with_reducible assumption
      | intro _
      | with_reducible apply State.startFails_wf
      | with_reducible apply State.loadAll_wf
      | with_reducible apply settleOps_wf
      | split
      | (simp only [])
      | (simp; done)
      | (simp [*])

@[simp] theorem State.start11_mem (s : State) : s.start11.mem = s.mem := by
  unfold State.start11; simp

theorem State.dropNow_wf (s : State) (d : Nat) (hw : Memory.wf s.mem = true) : Memory.wf (State.dropNow s d).mem =
    true := by
  unfold State.dropNow
  repeat' first
      | with_reducible assumption
      | intro _
      | with_reducible apply State.domainDown_wf
      | with_reducible apply State.setLevel_wf
      | with_reducible apply settleOps_wf
      | with_reducible apply when_wf
      | split
      | (simp only [])
      | (simp; done)
      | (simp [*])

theorem State.awaken_wf (s : State) (hw : Memory.wf s.mem = true) : Memory.wf (State.awaken s).mem = true := by
  unfold State.awaken
  repeat' first
      | with_reducible assumption
      | intro _
      | with_reducible apply State.set_wf
      | with_reducible apply State.armChannel_wf
      | with_reducible apply State.setAt_wf
      | with_reducible apply settleOps_wf
      | with_reducible apply when_wf
      | with_reducible apply each_wf
      | split
      | (simp only [])
      | (simp; done)
      | (simp [*])

theorem State.applyHeld_wf (s : State) (held : List ChipReq) (warm : Bool) (hw : Memory.wf s.mem = true) : Memory.wf
    (State.applyHeld s held warm).mem = true := by
  unfold State.applyHeld
  repeat' first
      | with_reducible assumption
      | intro _
      | with_reducible apply State.resetDue_wf
      | with_reducible apply settleOps_wf
      | with_reducible apply each_wf
      | with_reducible apply when_wf
      | split
      | (simp only [])
      | (simp; done)
      | (simp [*])

theorem State.start12_wf (s : State) (hw : Memory.wf s.mem = true) : Memory.wf (State.start12 s).mem = true := by
  unfold State.start12
  repeat' first
      | with_reducible assumption
      | intro _
      | with_reducible apply State.depVotes_wf
      | with_reducible apply State.dropNow_wf
      | with_reducible apply State.awaken_wf
      | with_reducible apply State.enterState_wf
      | with_reducible apply State.applyHeld_wf
      | with_reducible apply settleOps_wf
      | with_reducible apply each_wf
      | split
      | (simp only [])
      | (simp; done)
      | (simp [*])

theorem State.startStep_wf (s : State) (env : StartEnv) (k : Nat) (hw : Memory.wf s.mem = true) : Memory.wf
    (State.startStep s env k).mem = true := by
  unfold State.startStep
  repeat' first
      | with_reducible assumption
      | intro _
      | with_reducible apply State.start4_wf
      | with_reducible apply State.start5_wf
      | with_reducible apply State.start6_wf
      | with_reducible apply State.start7_wf
      | with_reducible apply State.start8_wf
      | with_reducible apply State.start9_wf
      | with_reducible apply State.start10_wf
      | with_reducible apply State.start12_wf
      | with_reducible apply settleOps_wf
      | split
      | (simp only [])
      | (simp; done)
      | (simp [*])

theorem State.runStart_wf (env : StartEnv) (n : Nat) (s : State) (h : Memory.wf s.mem = true) :
    Memory.wf (State.runStart env n s).mem = true := by
  induction n generalizing s with
  | zero => exact h
  | succ n ih =>
    unfold State.runStart
    split
    · dsimp only; split
      · exact State.startStep_wf _ _ _ h
      · exact ih _ (State.startStep_wf _ _ _ h)
    · exact h

theorem State.starts_wf (s : State) (cold : Bool) (env : StartEnv) (hw : Memory.wf s.mem = true) : Memory.wf
    (State.starts s cold env).mem = true := by
  unfold State.starts
  repeat' first
      | with_reducible assumption
      | intro _
      | with_reducible apply State.beginStart_wf
      | with_reducible apply State.runStart_wf
      | with_reducible apply settleOps_wf
      | split
      | (simp only [])
      | (simp; done)
      | (simp [*])

/-! Nvm -/

theorem State.nvmForeign_wf (s : State) (writes : List (Nat × List Byte)) (h : Memory.wf s.mem = true) :
    Memory.wf (State.nvmForeign s writes).mem = true := by
  unfold State.nvmForeign
  generalize s.mem = m at h
  induction writes generalizing m with
  | nil => exact h
  | cons w ws ih => exact ih _ (m.nvmWrite_wf _ _ h)

theorem State.writeGood_wf (s : State) (b : Nat) (hw : Memory.wf s.mem = true) : Memory.wf (State.writeGood s b).mem
    = true := by
  unfold State.writeGood
  repeat' first
      | with_reducible assumption
      | intro _
      | with_reducible apply State.set_wf
      | with_reducible apply State.inc_wf
      | with_reducible apply settleOps_wf
      | with_reducible apply when_wf
      | with_reducible apply MemState.nvmWrite_wf
      | split
      | (simp only [])
      | (simp; done)
      | (simp [*])

@[simp] theorem State.writeBad_mem (s : State) (b : Nat) : (State.writeBad s b).mem = s.mem := by
  unfold State.writeBad; simp

@[simp] theorem State.restoreSaved_mem (s : State) (kib : Nat) : (State.restoreSaved s kib).mem = s.mem := by
  unfold State.restoreSaved; simp

@[simp] theorem State.restoreImage_mem (s : State) (slot : Nat) (h : List Byte) : (State.restoreImage s slot h).mem =
    s.mem := by
  unfold State.restoreImage; simp

theorem State.restoreTamper_wf (s : State) (id : Nat) (hw : Memory.wf s.mem = true) : Memory.wf (State.restoreTamper
    s id).mem = true := by
  unfold State.restoreTamper
  repeat' first
      | with_reducible assumption
      | intro _
      | with_reducible apply State.setAt_wf
      | with_reducible apply State.alarm_wf
      | with_reducible apply settleOps_wf
      | with_reducible apply each_wf
      | split
      | (simp only [])
      | (simp; done)
      | (simp [*])

/-! Steward -/

@[simp] theorem State.throttle_mem (s : State) (tj : Int) : (State.throttle s tj).mem = s.mem := by
  unfold State.throttle; simp

theorem State.stewardTick_wf (s : State) (tj : Byte) (losses : List Loss) (hw : Memory.wf s.mem = true) : Memory.wf
    (State.stewardTick s tj losses).mem = true := by
  unfold State.stewardTick
  repeat' first
      | with_reducible assumption
      | intro _
      | with_reducible apply State.set_wf
      | with_reducible apply State.losses_wf
      | with_reducible apply settleOps_wf
      | with_reducible apply when_wf
      | split
      | (simp only [])
      | (simp; done)
      | (simp [*])

/-! Idle -/

@[simp] theorem State.endIbis_mem (s : State) : s.endIbis.mem = s.mem := by
  unfold State.endIbis; simp

theorem State.idle_wf (s : State) (hw : Memory.wf s.mem = true) : Memory.wf (State.idle s).mem = true := by
  unfold State.idle
  repeat' first
      | with_reducible assumption
      | intro _
      | with_reducible apply State.serveReissues_wf
      | with_reducible apply settleOps_wf
      | split
      | (simp only [])
      | (simp; done)
      | (simp [*])

end Sys2Proof.Machine
end

