-- ==== Sys2Proof/WellFormed.lean ====
section
/-! DEFINITION. When a command's operands are ones the outside world can deliver: measurements and frames of the lengths the
chapters give them, places that exist. -/

namespace Sys2Proof

/-- The samples of a 1 ms frame of a stream (08 R238). -/
def frameLen : Stream → Nat
  | .lp16 => 16
  | .hq16 => 16
  | .hq48 => 48

/-- A sense-offset measurement has 16 codes, then 64 (06 R188). -/
def IsenMeas.wf (m : IsenMeas) : Bool := m.codes16.length == 16 && m.codes64.length == 64

/-- A period has a code and a duty for each of the four phases (06 R184, R185). -/
def RailPeriod.wf (p : RailPeriod) : Bool := p.codes.length == 4 && p.duties.length == 4

/-- A microphone's measurement has values, and names every microphone once (08 R251). -/
def MicMeas.wf (m : MicMeas) : Bool := 1 ≤ m.count && decide (m.levels.map (·.1)).Nodup

/-- A program-and-verify run names each retried row once (12 R351). -/
def ProgMeas.wf (m : ProgMeas) : Bool := decide (m.retried.map (·.1)).Nodup

/-- A sweep names rings that exist, each once, and measures `n` columns (13 R384). -/
def SweepMeas.wf (m : SweepMeas) (n : Nat) : Bool :=
  m.rings.all (fun r => decide (r.ring < 4224)) && decide (m.rings.map (·.ring)).Nodup && m.gains.length == n

/-- What a start finds names every phase, stall and port at most once, with measurements of the right form. -/
def StartEnv.wf (e : StartEnv) : Bool :=
  decide (e.isen.map (·.1)).Nodup && e.isen.all (fun p => p.2.wf) && decide (e.prog.map (·.1)).Nodup
    && e.prog.all (fun p => p.2.wf) && (match e.sweep with | some m => m.wf 128 | none => true)
    && decide (e.ports.map (·.1)).Nodup && e.ports.all fun p => p.2.length == 5

/-- The command's operands are well formed. -/
def Instr.wf : Instr → Bool
  | .coldStart env => env.wf
  | .warmStart env => env.wf
  | .nvmRelease writes => writes.all fun w => decide (w.1 + w.2.length ≤ 0x8100000)
  | .isenCal _ meas => meas.wf
  | .phaseOpen _ p => p.wf
  | .senseFailed _ p => p.wf
  | .ocLimit _ p => p.wf
  | .lightLoadEnter p => p.wf
  | .lightLoadExit p => p.wf
  | .railThrottleStep p => p.wf
  | .streamFrame _ stream samples => samples.length == frameLen stream
  | .probeDone _ samples => samples.length == 5
  | .busTransferDone _ _ data => decide (data.length ≤ 512)
  | .windowClose _ g => decide (g < 16)
  | .micCalEnd _ meas => meas.wf
  | .programmed _ meas => meas.wf
  | .columnCal _ meas => meas.sums.length == 256
  | .ringUnlock ring _ => decide (ring.toNat < 4224)
  | .darkLevelDone _ meas => meas.dark.length == 32 && meas.depth.length == 32
  | .lineSweepDone _ meas => meas.wf 32
  | .sweepDone meas => meas.wf 128
  | .relockDone missing gains => missing.all (fun r => decide (r.toNat < 4224)) && gains.length == 128
  | .dataFrame _ f => f.payload.length == 4104
  | .doorbellFrame _ f => f.payload.length == 8
  | .heartbeat _ f => f.payload.length == 32
  | .membership _ f => f.payload.length == 16
  | .release _ f => f.payload.length == 8
  | .refuse _ f => f.payload.length == 8
  | .dbgUnlock token => token.length == 144
  | .hostWindowWrite _ data => !data.isEmpty
  | .registerWrite _ _ _ | .rcRead _ _ | .faultingAccess _ _ _ _ | .spanCountRead _ | .tick _ _ | .stewardWdt
  | .calibrationRetry _ | .powerOn | .resetN | .sealTimeout | .warmReq _ _ | .nvmReq | .nvmGrant | .stateAreaWrite
  | .stateWriteDone _ | .stateWriteRetry | .calIntervalEnd | .coreRestore | .spanAlign _ | .rateWindow _
  | .xt32Lost _ | .xt32Stopped | .pllUnlock _ | .pllRelock _ | .stateRequest _ _ | .entryCommit | .stateEntered
  | .voteWrite _ _ _ | .domainHoldEnd _ | .domainReady _ | .domainDropped _ | .domainTimeout _ | .firstAccessWake _
  | .wakeIn _ | .sleepTimer | .wakeResample | .braceEnter _ _ | .braceExit _ _ _ _ | .dipLong | .coreBrownout _
  | .brownoutDelay | .aonBrownout | .stormEnd | .vsenseLocal | .softStartDone | .softStartRetry | .bankUndervolt _
  | .slotTimer _ | .halt _ | .wait _ | .waitEnd _ | .waitTimeout _ | .sample _ | .load _ | .yardStore _ | .movi _
  | .add _ | .sub _ | .mul _ | .and _ | .or _ | .shift _ | .cmp _ | .br _ | .loopn _ | .feat _ | .featDone | .net _
  | .netDone | .vote _ | .wake _ | .wakeQueueResume _ | .wakeQueueMove | .req _ | .record _ | .mark _ | .arm _
  | .clear _ | .cycleMaxExceeded _ | .wakeClr _ _ | .logWrite | .gateTake _ | .tokenRefill _ | .frameStart _ _ _
  | .linePacket _ _ | .frameEnd _ _ _ | .frameTimeout _ | .penTtl _ _ | .slotWipeDone _ _ | .penWipe | .clockSwitch _
  | .settleEnd _ | .logmelFrame _ | .patternEval _ | .refractEnd _ | .prerollBlock _ | .unload _ _ | .autoUnload
  | .prerollUnloaded | .prerollKeepEnd | .muteOn | .muteSwRelease | .muteOff | .muteLedTest _ | .micvddFault
  | .micCalStart _ _ | .tdmFraming | .probe _ | .probePeriod _ | .railGood _ _ _ | .railFault _ _
  | .railBackoffEnd _ | .failCountClear _ | .faultClr _ _ | .faultResetTimer _ | .scriptWrite _ | .scriptRead _
  | .waitInt _ | .waitIntTimeout _ | .delay _ | .delayEnd _ | .loop _ | .scriptStore _ | .signalTally _
  | .signalLine _ | .heldSignalApply _ | .intActive _ _ | .ibi _ _ | .busStuck _ _ _ | .intTest _ _ | .camActive
  | .camEnAssert | .camSettled | .camInactive | .camLedFault _ | .camLedTest _ | .nop _ | .matmul _ | .cimMatmul _
  | .vecRequant _ | .vecAdd _ | .vecMul _ | .vecMax _ | .vecMaxpool _ | .vecAvgpool _ | .vecLut _ | .vecSoftmax _
  | .backward _ | .update _ | .emit _ | .tileComplete _ | .eccCorrected _ _ | .eccUncorrectable _ _ | .descWatchdog _
  | .programStart _ | .programTimeout _ | .commitIntervalEnd _ | .commit _ | .commitDone _ | .cimCalPeriod _
  | .combLocked | .rotationStep _ | .pilotDone _ _ | .lineMoveDone _ _ | .combLockLoss | .bayWatchdog _ | .barnMatmul _
  | .barnLoad _ | .mapLoadDone _ _ | .barnHint _ | .hintExpiry | .mapFetch | .ringDoorbell _ _ | .entryNop _ | .tile _
  | .head _ | .move _ | .copy _ | .fill _ | .transpose _ | .moveDone _ | .entryTallyAdd _ | .entryTallySub _
  | .entryTallySet _ | .port _ | .waitNotify _ | .doorbell _ | .dataEntry _ | .tlyAdd _ _ | .tlySub _ _ | .tlySet _ _
  | .tileCut _ | .c0TokenRefill | .heartbeatLoss _ | .jobDrained _ | .mbVote _ _ _ | .mbState _ _ | .mbPortClear _ _
  | .mbAttach _ | .mbDetach _ | .mbWarm _ | .hostDoorbell _ | .recAck _ | .notify | .status _ | .readRecord _ _
  | .readReg _ _ | .outputDetached _ | .uartRecord | .pcieUp _ _ | .pcieDown | .dStateChange _ | .laneLocked _ _
  | .laneLost _ _ | .ack _ _ | .nak _ _ | .credit _ _ | .resendTimeout _ | .channelSend _ | .meshBreak | .coreGlitch
  | .aonGlitch | .rootClockFault _ | .tempSample _ | .zeroiseEraseDone _ | .l3FillDone | .zeroiseHoldEnd
  | .lcRequest _ _ _ | .otpStage _ _ _ | .keyInstall _ _ | .eraseGroup _ _ _ | .extest | .samplePreload | .idcode
  | .highz | .clamp | .bypass | .dbgChal | .dbgAp _ _ _ | .c0RunOver _ | .mailboxError _ _ | .uartCtsNLow
  | .tdmResync | .bankRestored _ _ | .micQuietCheckEnd _ _ _ => true

end Sys2Proof
end

