-- ==== Sys2Proof/Tests/Slice0.lean ====
section
/-! SUPPORT. Tests: states small enough to read, a witness for every statement that has hypotheses (witness_<statement>_<place of its
clause>), single steps with results from the spec, and an ill-formed command for each check of WellFormed. -/

namespace Sys2Proof.Tests

open Sys2Proof.Machine

set_option maxRecDepth 20000
set_option Elab.async false
/-- The part up in Run: every domain on, the span clock and the main PLL running, each domain voted on by the Steward. -/
def up : State :=
  let s : State := { State.reset with
    boot := { State.reset.boot with phase := .up }
    span := { State.reset.span with running := true, rootOn := true, count := 0x100000005 }
    pwr := { State.reset.pwr with level := (List.range 24).map fun d => (d, 2), votes := (List.range 24).map fun d => (16 * d, 2) } }
  s.set F.SPN_STATUS_PLL_LOCK 1

/-- The same in Doze, in Watch, in Rest. -/
def doze : State := { up with pwr := { up.pwr with state := 1 } }
def watch : State := { up with pwr := { up.pwr with state := 2 } }
def rest : State := { up with pwr := { up.pwr with state := 3 } }

/-- One register field after another. -/
def sets (s : State) (l : List (Fld × Nat)) : State := l.foldl (fun s x => s.set x.1 x.2) s
def setAts (s : State) (l : List (Fld × Nat × Nat)) : State := l.foldl (fun s x => s.setAt x.1 x.2.1 x.2.2) s

/-- Slot `i` of the Yard runs a program of these words from word 0. -/
def code (s : State) (i : Nat) (ws : List Nat) (x : YardSlot := { phase := .running }) (c : SlotCfg := {}) : State :=
  let s := s.setSlot i x
  let s := { s with yard := { s.yard with cfg := elPut {} s.yard.cfg i { c with length := ws.length, cycleMax := 4096, waitMax := 9 } } }
  (s.yardWrite (0x400 * i) (ws.map (leBytes 4)).flatten 0).set F.YRD_CFG_SLOT_EN 0xFFFF

/-- A start of cause `c` is in progress, its step `n` just ended. -/
def starting (c n : Nat) (warm : Bool) : State := { State.reset with boot := { State.reset.boot with phase := .inStart, cause := c, step := n, warm := warm } }

/-- The state of L3 while its actions run. -/
def zeroing : State := { up with boot := { up.boot with phase := .zeroise } }

/-- A hold of debug's JTAG, a SEALED part with a token's challenge read. -/
def held : State := { up with jtag := { up.jtag with hold := true } }

/-- The host has its link up, and debug is unlocked with every scope. -/
def hosted : State := (up.set F.PCI_STATUS_UP 1).set F.SEC_DBG_STATUS_UNLOCKED 1 |>.set F.SEC_DBG_STATUS_SCOPE 7

/-- The core rail runs; a PWM period of it with these ISEN codes, all duties the same. -/
def railed : State := up.set F.VRC_STATUS_RUNNING 1
def period (codes : List (BitVec 10)) (duty : BitVec 10 := 100) : RailPeriod := ⟨codes, List.replicate 4 duty, 700⟩

/-- A chip request to state `st` is pending, and in flight. -/
def asked (s : State) (st : Nat) : State := { s with pwr := { s.pwr with req := some { target := st, cause := 0 } } }
def flying (s : State) (st : Nat) : State := { s with pwr := { s.pwr with fly := some { target := st, cause := 2 }, level := [] } }

/-- A carry at the 2^40 boundary of the accumulator. -/
def carry : State := { up with span := { up.span with running := false, carrying := true, acc := 0xFFFFFFFFFF } }

/-- LOFT2 is off, and off with an access waiting. -/
def loftOff : State := { up with pwr := { up.pwr with level := elPut 0 up.pwr.level 14 0 } }
def loftRises : State := { loftOff with pwr := { loftOff.pwr with flight := [(14, 3)] } }
def loftFalls : State := { up with pwr := { up.pwr with flight := [(14, 1)] } }

/-- What a start's command brings. -/
def env (stop : Fin 13) : StartEnv where
  bootsel := 0
  chip := 5
  stopAt := stop
  failing := []
  isen := []
  rcCycles := 0
  killed := []
  aonBist := none
  loftBist := []
  stallBist := []
  prog := []
  sweep := none
  ports := []
  sealMs := 0

/-- Camera port `p` enabled and settled, of 1 line of 4 bytes a frame; with a frame in slot 0. -/
def camera (p : Nat) : State :=
  let s : State := { up with head := { up.head with settled := true } }
  setAts s [(F.CAM_PORTn_CFG_ENABLE, p, 1), (F.CAM_PORTn_SIZE_HEIGHT, p, 1), (F.CAM_PORTn_SIZE_WIDTH, p, 4)]
def framing (p lines : Nat) : State :=
  ((camera p).setCam p { frame := some ⟨0, lines⟩, next := 1 }).setPenSlot p 0 1

/-- A line packet of four bytes. -/
def line : CamPacket := { vc := 0, dt := 0x2A, hdr := .good, crcOk := true, payload := [1, 2, 3, 4] }

/-- Microphone `m` enabled with its clocks running, unmuted. -/
def listening (m : Nat) : State :=
  setAts (sets { up with ear := { up.ear with clk0 := true, clk1 := true } } [(F.EAR_STATUS_MUTED, 0), (F.EAR_TDM_CFG_SLOT_EN, 0xFF)])
    [(F.EAR_MICm_CFG_ENABLE, m, 1)]

/-- Pattern 7 listens to a microphone with one log-mel frame. -/
def pattern : State :=
  ({ up with ear := { up.ear with mel := [(0, [some [5]])] } } : State).setAt F.EAR_PATp_STAT_STATE 7 1

/-- A pre-roll session on microphone 0 is being coded, one block of samples waiting. -/
def coding : State :=
  sets { up with pwr := { up.pwr with state := 2 }, ear := { up.ear with coding := true, key := List.replicate 32 7, nonce := List.replicate 12 0, enc := [(0, { samples := List.replicate 960 5 })] } }
    [(F.EAR_PREROLL_CFG_PREROLL_MICS, 1), (F.EAR_PREROLL_STATUS_SESSION, 1)]
def coded : State :=
  sets { up with ear := { up.ear with key := List.replicate 32 7, nonce := List.replicate 12 0 } }
    [(F.EAR_PREROLL_CFG_AUTO_UNLOAD, 1), (F.EAR_PREROLL_STATUS_SESSION, 1), (F.EAR_PREROLL_STATUS_BLOCKS, 1), (F.EAR_PREROLL_STATUS_WR_BLOCK, 1)]

/-- Head `h` armed for a source slot, every type and field in bounds, with one token. -/
def headed (h src : Nat) : State :=
  let s : State := { up with gate := { up.gate with source := [(h, src)] } }
  sets (setAts s [(F.GATE_HEADi_CFG_ARMED, h, 1), (F.GATE_HEADi_CFG_TYPES, h, 0x1FF), (F.GATE_HEADi_CFG_FLAGS, h, 7), (F.GATE_HEADi_CFG_BURST, h, 4),
    (F.GATE_HEADi_LIMITS_TOKENS, h, 1), (F.GATE_HEADi_LIMITS_MAX_COUNT, h, 200), (F.GATE_HEADi_LIMITS_MAX_CLASS, h, 255)])
    [(F.GATE_CEIL_REC_TOKENS, 1), (F.GATE_CEIL_BYTE_TOKENS, 64)]

/-- A record of type 1, all fields 0. -/
def rec1 : List Byte := 1 :: List.replicate 31 0

/-- Port `p` is READY and runs script 0 of these step words. -/
def scripted (p : Nat) (ws : List Nat) (r : ScriptRun := { script := 0 }) (x : PortSt := {}) : State :=
  { up with head := { up.head with scripts := [(8 * p, ws)], ports := [(p, { x with run := some r })] } }.setAt F.SPT_PORTn_STATUS_STATE p 3

/-- Port `p` in a state, and runs nothing. -/
def ported (p st : Nat) : State := up.setAt F.SPT_PORTn_STATUS_STATE p st

/-- 64 bytes of a descriptor: the operation and LAST, one channel of one vector, and these fields (offset, bytes, value); its CRC last. -/
def desc (op : Nat) (fs : List (Nat × Nat × Nat)) : List Byte :=
  let put := fun (b : List Byte) (f : Nat × Nat × Nat) => b.take f.1 ++ leBytes f.2.1 f.2.2 ++ b.drop (f.1 + f.2.1)
  let b := ([(0, 1, op), (1, 1, 4), (8, 4, 0x40001000), (12, 4, 0x40002000), (16, 4, 0x40003000), (20, 4, 0x40004000), (24, 2, 1), (26, 2, 1),
    (28, 2, 1), (42, 2, 0xFFFF), (50, 2, 7)] ++ fs).foldl put (List.replicate 60 0)
  b ++ leBytes 4 (crc32 b).toNat

/-- Stall `st` runs a class-3 tile whose chain at Loft 0 holds these bytes. -/
def job : TileJob := { ring := 0, idx := 0, cls := 3, first := 0 }
def tiled (st : Nat) (b : List Byte) (j : TileJob := job) (x : StallSt := {}) : State :=
  { up with mem := up.mem.store .loft 0 b, fab := { up.fab with stalls := [(st, { x with tile := some j })] } }

/-- Stall 95 runs the tile of head-store slot 4, one EMIT `d` whose record lies at `off`: a type-1 one, with head 7 armed for it. -/
def emitDesc : List Byte := desc 15 [(16, 4, 0xA0000000)]
def emittingAt (d : List Byte) (off : Nat) (r : List Byte) : State :=
  let s := headed 7 4
  { s with mem := s.mem.store .loft off r
           disp := { s.disp with heads := [(4, d)] }
           fab := { s.fab with stalls := [(95, { tile := some { job with slot := some 4 } })] } }
def emitting : State := emittingAt emitDesc 0x1000 rec1

/-- The record at the end of the Loft, and of slot 0 of camera port 0, has 64 bytes. -/
def emitLast : List Byte := desc 15 [(8, 4, 0x40FFFFE0), (16, 4, 0xA0000000)]
def emitPen : List Byte := desc 15 [(1, 1, 5), (8, 4, 0x6000FFE0), (16, 4, 0xA0000000)]
def granted : TileJob := { job with slot := some 4, grant := true }
def emittingPen : State :=
  let s := setAts { emittingAt emitPen 0 [] with fab := { up.fab with stalls := [(95, { tile := some granted })] } }
    [(F.CAM_PORTn_CFG_ENABLE, 0, 1), (F.CAM_PORTn_SIZE_HEIGHT, 0, 1), (F.CAM_PORTn_SIZE_WIDTH, 0, 4)]
  ({ s with mem := s.mem.penWrite 0xFFE0 [0x83] }).setPenSlot 0 0 2

/-- A range-monitor window of group 7 on stall 95 has closed with `n` counts outside its envelope. -/
def window (cim : Bool) (n l2 : Nat) : State :=
  { up with fab := { up.fab with envs := [{ allowed := 0, drift1 := 4, drift2 := 8, max := [] }],
                                 stalls := [(95, { closed := [⟨7, 0, cim, [n]⟩], level2 := [(7, l2)] })] } }

/-- 64 bytes of a ring entry: kind, FLAGS, gate tally and value, DONE_TALLY and DONE_ADD, argument, body. -/
def ent (kind : Nat) (body : List Byte := []) (flags : Nat := 0) (gate : Nat := 0xFFFF) (val : Nat := 0) (done : Nat := 4095) (add : Nat := 65535) : List Byte :=
  leBytes 4 (kind + 256 * flags) ++ leBytes 2 gate ++ leBytes 2 done ++ leBytes 4 val ++ leBytes 2 add ++ leBytes 2 0xBEEF
    ++ body ++ List.replicate (48 - body.length) 0

/-- `s` with ring `r` armed at Loft 0x8000, of one entry there to be issued. -/
def ringIn (s : State) (r : Nat) (e : List Byte) : State :=
  setAts { s with mem := s.mem.store .loft 0x8000 e } [(F.RNG_RINGi_CFG_ARMED, r, 1), (F.RNG_RINGi_BASE_BASE, r, 0x40008000), (F.RNG_RINGi_PI_PI, r, 1)]
def ringed (r : Nat) (e : List Byte) : State := ringIn up r e

/-- The body of a TILE entry: its chain, its weight set, BARN. -/
def tileBody (barn : Nat) : List Byte := leBytes 4 0x40000000 ++ leBytes 2 0xFFFF ++ leBytes 1 barn

/-- The body of a MOVE of one plane: operation, element, source, destination, COUNT0, COUNT1, the two STRIDE1. -/
def moveBody (op el src dst c0 c1 ss ds : Nat) : List Byte :=
  leBytes 4 (op + 256 * el) ++ leBytes 4 src ++ leBytes 4 dst ++ leBytes 2 c0 ++ leBytes 2 c1 ++ leBytes 4 1 ++ leBytes 4 ss ++ leBytes 4 0
    ++ leBytes 4 ds ++ leBytes 4 0 ++ [1, 2, 3, 4] ++ List.replicate 8 0

/-- Channel 15 of the Mover stands at this descriptor. -/
def moving (b : List Byte) (ran : Bool := false) (status : Nat := 0) : State :=
  { up with disp := { up.disp with chans := [(15, [{ ring := 0, idx := 0, body := b, ran := ran, status := status }])] } }

/-- Stall 3 is to be programmed with one row of set 7. -/
def setSeven : WsetCfg :=
  { wset := 7, format := 5, flags := 0, stalls := 8, offset := 0, digest := 0, tally := 9, stateAddr := 0x40001000, scaleDst := 0x40002000, emulAddr := 0 }
def progJob : ProgJob := { rows := [255], origin := 1, wset := 7, format := 5, adapted := false, taint := 2, commits := 3 }
def programming : State := { up with cim := { up.cim with jobs := [(3, progJob)], targets := [(64 * (256 * 3 + 255) + 5, 3)] } }.setAt F.CIM_STALLs_STATE_PROGRAMMING 3 1
def committing (rowMax res : Nat) : State :=
  sets { up with cim := { up.cim with sets := [setSeven], waiting := [7], blocks := [(0x1000, (1, 1, 1))] } }
    [(F.CIM_BUDGET_ROW_MAX, rowMax), (F.CIM_BUDGET_RESERVE, 0), (F.STL_RESERVED_RES0, res)]
def committed : State := { up with cim := { up.cim with sets := [setSeven], commit := some { wset := 7, scales := [1, 2], levels := [], taint := 2 } } }
def column : State := setAts up [(F.CIM_STALLs_STATE_CAL_STATE, 95, 1), (F.CIM_STALLs_STATE_VALID, 95, 1)]

/-- The Barn is ready, bay `b` as given, the map store holds map 5; ring 0 has one TILE entry. -/
def barnEnt : List Byte := ent 1 (tileBody 1)
def barned (b : Nat) (x : BaySt) (d : List Byte := []) : State :=
  let s := ringIn { up with span := { up.span with barnLock := true }
                            barn := { up.barn with maps := [(5, List.replicate 1152 0)], bays := [(b, x)] } } 0 barnEnt
  let s := { s with mem := s.mem.store .loft 0 d }
  let s := if x.tile.isSome then { s with pwr := { s.pwr with votes := elPut 0 s.pwr.votes 275 2 } } else s
  let s := if x.part != .none then
      { s with pwr := { s.pwr with votes := elPut 0 (elPut 0 s.pwr.votes 266 2) 282 2 } } else s
  sets s [(F.BRN_STATUS_STATE, 4), (F.BRN_STATUS_MAPS_VALID, 1), (F.BRN_CFG_ROT_EN, 1), (F.IMG_STATUS_BARN_IMAGE, 1),
    (F.BRN_STATUS_COMB_LOCKED, 1)]
def barnDesc (op : Nat) (fs : List (Nat × Nat × Nat)) : List Byte := desc op ([(12, 4, 0), (20, 4, 0), (34, 2, 5)] ++ fs)

/-- A Barn wake: STATE, the comb's state. -/
def waking (st comb : Nat) (b : BarnState := {}) : State := sets { up with barn := b } [(F.BRN_STATUS_STATE, st), (F.BRN_STATUS_COMB_LOCKED, comb), (F.IMG_STATUS_BARN_IMAGE, 1)]

/-- The image with a Barn section, and its digest: one of no map, and one of another version. -/
def barnSec : List Byte := [1, 0, 0] ++ List.replicate 13 0
def badSec : List Byte := 9 :: List.replicate 15 0
def imaged (sec digest : List Byte) : State :=
  let m := up.mem.nvmWrite 0 (List.replicate 8 0 ++ [0, 0, 1, 0] ++ List.replicate 484 0 ++ [11, 0, 0, 0, 0, 4, 0, 0, 16, 0, 0, 0, 0, 0, 0, 0] ++ digest ++ List.replicate 96 0)
  sets { up with mem := m.nvmWrite 1024 sec } [(F.IMG_STATUS_BARN_IMAGE, 1)]

/-- An outbox of two records with outputs 0 and 3 attached, output `o` one behind. -/
def outbox : State := sets hosted [(F.PCI_REC_W, 2), (F.PCI_REC_ATTACHED, 15), (F.GATE_CFG_OUTPUTS, 15)]
def uarting (l : List Byte) : State := { outbox with host := { outbox.host with uart := l } }

/-- Chip 2 of the members 0, 2, 3 and 5, all live, both ports up, in trust group 9 with chip 3. -/
def linked : State :=
  let s : State := { up with fab := { up.fab with members := 45 }, link := { up.link with peers := [(3, (100, 20, 9))] } }
  let s := (s.setReg R.STL_LIVEk 0 45)
  setAts (sets s [(F.STL_GROUP_CHIP_ID, 2), (F.STL_GROUP_LEADER, 0), (F.SEC_KEYS_GROUP, 1), (F.LNK_CFG_PORT_EN, 3), (F.GATE_CFG_TRUST_GROUP, 9),
      (F.LNK_CFG_IMPORT_PLOT, 4090), (F.LNK_CFG_IMPORT_PLOTS, 6)])
    [(F.LNK_PORTp_STATUS_UP, 0, 1), (F.LNK_PORTp_STATUS_UP, 1, 1), (F.LNK_PORTp_STATUS_LOCKED, 1, 8), (F.LNK_PORTp_STATUS_LOCKED, 0, 3)]
def frame (src : BitVec 6) (dst : Byte) (payload : List Byte) : LinkFrame :=
  { lseq := 0xFFFF, crcOk := true, tagOk := true, taint := 2, channel := 15, src := src, dst := dst, hops := 2, ctr := 5, payload := payload }
def tx (type src lseq : Nat) : TxFrame :=
  { lseq := lseq, type := type, taint := 0, channel := 15, src := src, dst := 3, hops := 63, ctr := 0, count := 0, payload := [] }
/-- A plot for Loft plot `x`. -/
def plotTo (x : Nat) : List Byte := leBytes 4 (0x40000000 + 4096 * x) ++ leBytes 4 0 ++ List.replicate 4096 0xA5
def holding (l : List TxFrame) (resends : Nat := 0) : State :=
  { linked with link := { linked.link with held := [(1, l)], resends := elPut 0 [] 1 resends, sending := [15] } }
/-- Channel 15 may send its plot 4095 to plot `dst` of chip 3; the plot's taint. -/
def sending (dst taint chip : Nat) : State :=
  setAts { linked with link := { linked.link with ready := [15] }, mem := linked.mem.setPlot .loft 4095 taint }
    [(F.LNK_CHn_ADDR_SRC_PLOT, 15, 4095), (F.LNK_CHn_ADDR_DST_PLOT, 15, dst), (F.LNK_CHn_CFG_DST_CHIP, 15, chip), (F.LNK_CHn_CFG_ENABLE, 15, 1)]

/-- Job 7 of rings 2046 and 2047, whose owners are chips `a`, then `b`. -/
def job7 (a b : Nat) : JobCfg := { job := 7, firstRing := 2046, rings := 2, primary := a, fallback := [b] }
def grouped (j : JobCfg) (id : Nat) (draining : List Nat) (awaiting : List (Nat × Nat)) : State :=
  let s : State := { linked with fab := { linked.fab with jobs := [j], draining := draining, awaiting := awaiting, epoch := 6 } }
  sets (s.setReg R.RNG_RINGi_BASE 2047 0x40008000) [(F.STL_GROUP_CHIP_ID, id)]

/-- A group-key envelope of trust group 9 for identity key 1 and serial 0, whose group key is the bytes 0 to 31. -/
def envelope9 : List Word :=
  [0x90001, 0x0, 0x0, 0x0, 0xf2d1176b, 0x47422ce1, 0xe5e6bcf8, 0xf240a463, 0x817d0377, 0xa033eb2d, 0x4539a1f4, 0x96c298d8,
  0xe242e34f, 0x9b7f1afe, 0x4aebe78e, 0x169e0f7c, 0x5733ce2b, 0xce5e316b, 0x6840b6cb, 0xf551bf37, 0xacfdf8de, 0xbb0742cb,
  0x35bf786b, 0x6389b08d, 0xe19d422c, 0x71b48341, 0xe3923c7d, 0xb93d65d2, 0xd97a6027, 0xe0e836ac, 0xd711315e, 0xbc24752b]
def installing : State :=
  let s : State := { up with keys := { up.keys with identity := beBytes 32 1, idSlot := 0, keyin := envelope9.zipIdx.map fun p => (p.2, p.1) } }
  sets s [(F.SEC_LIFECYCLE_STATE, 1), (F.GATE_CFG_TRUST_GROUP, 9), (F.SEC_DBG_STATUS_UNLOCKED, 1), (F.SEC_DBG_STATUS_SCOPE, 7)]

/-- A debug token of scope 5 under the token key 1, and a SEALED part whose challenge it answers. -/
def token5 : List Byte :=
  [1, 0, 5] ++ List.replicate 13 0 ++ beBytes 32 p256Gx ++ beBytes 32 p256Gy
    ++ beBytes 32 48439561293906451759052585252797914202762949526041747995844080717082404635286
    ++ beBytes 32 16739711290160422076908202140638731132825752028167650818051739089265643914850
def challenged : State :=
  let s : State := { up with jtag := { up.jtag with challenge := (List.range 32).map (BitVec.ofNat 8) } }
  ([0x7ddb75d8, 0x362223ef, 0xc638c7ae, 0x803ebbb0, 0xf5d2f14, 0x24dff4d8, 0xf5eed6fe, 0x9f0db5cb].zipIdx.foldl
    (fun s p => s.setReg R.SEC_OTP_HASHk (8 + p.2) (BitVec.ofNat 32 p.1)) s).set F.SEC_LIFECYCLE_STATE 2

/-! Witnesses -/

theorem witness_StepRunsFront_1 : ∃ (s : State), s.pending = [] :=
  ⟨up, by decide +kernel⟩

theorem witness_StepKeepsInv : ∃ (s : State) (t : State), s.Inv ∧ step s = Host.Outcome.next t :=
  ⟨up, _, by decide +kernel, rfl⟩

theorem witness_IdleTick_0 : ∃ (s : State), s.pending = [] ∧ s.span.running = true ∧ s.fab.reissues = [] :=
  ⟨up, by decide +kernel⟩

theorem witness_IdleTick_1 : ∃ (s : State), s.pending = [] ∧ s.span.running = false ∧ s.span.carrying = false :=
  ⟨State.reset, by decide +kernel⟩

theorem witness_IdleTick_2 : ∃ (s : State), s.pending = [] ∧ s.span.running = false ∧ s.span.carrying = true :=
  ⟨carry, by decide +kernel⟩

theorem witness_RegisterWrite_0 : ∃ (s : State) (a : Word) (v : Word) (r : RegDef) (i : Nat), s.reaches Master.steward = true ∧ inRegs
    (BitVec.toNat a) = true ∧ BitVec.toNat a % 4 = 0 ∧ regAt (BitVec.toNat a) = some (r, i) ∧ r.wo = 0 ∧ r.base ≠ R.PWR_STW_VOTE0.base
    ∧ r.base ≠ R.PWR_STW_VOTE1.base ∧ r.base ≠ R.STW_ACCESS_INFO.base ∧ (r.base = R.PWR_SLEEP_TIMER.base → F.PWR_SLEEP_TIMER_MS.of v ≠
    0) :=
  ⟨up, 0x40000010, 0xFFFFFFFF, R.SPN_CFG, 0, by decide +kernel⟩

theorem witness_RegisterWrite_1 : ∃ (s : State) (v : Word), s.reaches Master.steward = true ∧ BitVec.getLsbD v 0 = true :=
  ⟨up.set F.STW_ACCESS_INFO_COUNT 9, 1, by decide +kernel⟩

theorem witness_RegisterWrite_2 : ∃ (s : State) (v : Word), s.reaches Master.steward = true ∧ F.PWR_SLEEP_TIMER_MS.of v = 0 :=
  ⟨up, 0, by decide +kernel⟩

theorem witness_RegisterRead : ∃ (s : State) (a : Word) (r : RegDef) (i : Nat), s.reaches Master.steward = true ∧ inRegs (BitVec.toNat
    a) = true ∧ BitVec.toNat a % 4 = 0 ∧ regAt (BitVec.toNat a) = some (r, i) ∧ r.base ≠ R.SPN_COUNT_LO.base ∧ r.base ≠
    R.SPN_COUNT_HI.base :=
  ⟨up.set F.MOV_COUNTS_DONE 7, 0x40120004, R.MOV_COUNTS, 0, by decide +kernel⟩

theorem witness_SpanCountRead_0 : ∃ (s : State) (m : Master), s.reaches m = true ∧ s.mayRead m R.SPN_COUNT_LO.base = true ∧ s.flag
    F.SPN_STATUS_ALIGNING = false :=
  ⟨up, .steward, by decide +kernel⟩

theorem witness_SpanCountRead_1 : ∃ (s : State) (m : Master), s.reaches m = true ∧ s.mayRead m R.SPN_COUNT_LO.base = true ∧ s.flag
    F.SPN_STATUS_ALIGNING = true :=
  ⟨hosted.set F.SPN_STATUS_ALIGNING 1, .host, by decide +kernel⟩

theorem witness_SpanCountRead_2 : ∃ (s : State) (m : Master), s.reaches m = true ∧ s.mayRead m R.SPN_COUNT_HI.base = true :=
  ⟨up, .steward, by decide +kernel⟩

theorem witness_FaultingAccess_0 : ∃ (s : State) (m : Master) (a : Word) (size : AccSize) (write : Bool), s.coreOn = true ∧ s.reaches
    m = true ∧ inRegs (BitVec.toNat a) = true ∧ size ≠ AccSize.b32 ∧ s.flag F.STW_ACCESS_INFO_VALID = false :=
  ⟨up, .steward, 0x40000001, .b8, false, by decide +kernel⟩

theorem witness_FaultingAccess_1 : ∃ (s : State) (m : Master) (a : Word) (size : AccSize) (write : Bool), s.coreOn = true ∧ s.reaches
    m = true ∧ inRegs (BitVec.toNat a) = true ∧ size ≠ AccSize.b32 ∧ s.flag F.STW_ACCESS_INFO_VALID = true :=
  ⟨(up.set F.STW_ACCESS_INFO_VALID 1).set F.STW_ACCESS_INFO_COUNT 255, .steward, 0x4018FFFC, .b16, true, by decide +kernel⟩

theorem witness_FaultingAccess_2 : ∃ (s : State) (a : Word), s.coreOn = true ∧ s.reaches Master.host = true ∧ inRegs (BitVec.toNat a)
    = true ∧ BitVec.toNat a % 4 = 0 ∧ s.flag F.STW_ACCESS_INFO_VALID = false :=
  ⟨hosted, 0x40000000, by decide +kernel⟩

theorem witness_DebugAccess_0 : ∃ (s : State) (a : Word) (r : RegDef) (i : Nat), s.powered = true ∧ s.bankOk 0 = true ∧ s.coreOn =
    true ∧ s.debugRegs = true ∧ inRegs (BitVec.toNat a) = true ∧ BitVec.toNat a % 4 = 0 ∧ regAt (BitVec.toNat a) = some (r, i) ∧
    r.base ≠ R.SPN_COUNT_LO.base ∧ r.base ≠ R.SPN_COUNT_HI.base :=
  ⟨hosted, 0x40120004, R.MOV_COUNTS, 0, by decide +kernel⟩

theorem witness_DebugAccess_1 : ∃ (s : State) (a : Word), s.powered = true ∧ s.bankOk 0 = true ∧ s.coreOn = true ∧ s.debugRegs = false
    ∧ inRegs (BitVec.toNat a) = true ∧ BitVec.toNat a % 4 = 0 ∧ s.flag F.STW_ACCESS_INFO_VALID = false :=
  ⟨up, 0x40120004, by decide +kernel⟩

theorem witness_StewardTick_0 : ∃ (s : State) (tj : Byte), s.flag F.SPN_STATUS_PLL_LOCK = true ∧ s.isUp = true ∧ s.coreOn = true :=
  ⟨up, 110, by decide +kernel⟩

theorem witness_StewardTick_1 : ∃ (s : State) (tj : Byte) (l : List Loss), s.flag F.SPN_STATUS_PLL_LOCK = false :=
  ⟨State.reset, 20, [], by decide +kernel⟩

theorem witness_StewardTick_2 : ∃ (s : State), s.isUp = true ∧ s.coreOn = true :=
  ⟨up, by decide +kernel⟩

theorem witness_StewardTick_3 : ∃ (s : State) (m : Fin 16), s.isUp = true ∧ s.coreOn = true ∧ s.pwr.state < 2 ∧ s.flag
    F.SUP_STATUS_BRACE = false ∧ s.calLevel (CalElem.mic m) ≠ 0 ∧ s.getAt F.EAR_MICm_STAT_CAL_STATE ↑m = 4 ∧ s.earLive = true ∧
    s.micOn ↑m = true ∧ s.micSettled ↑m = true :=
  ⟨({ listening 15 with cal := { up.cal with level := [(115, 2)] } } : State).setAt F.EAR_MICm_STAT_CAL_STATE 15 4, 15,
      by decide +kernel⟩

theorem witness_StewardTick_4 : ∃ (s : State) (st : Fin 96), s.isUp = true ∧ s.coreOn = true ∧ s.pwr.state < 2 ∧ s.calLevel
    (CalElem.column st) ≠ 0 ∧ s.getAt F.CIM_STALLs_STATE_CAL_STATE ↑st = 4 :=
  ⟨up.setAt F.CIM_STALLs_STATE_CAL_STATE 95 4 |> fun s => { s with cal := { s.cal with level := [(95, 2)] } }, 95,
      by decide +kernel⟩

theorem witness_StewardTick_5 : ∃ (s : State) (st : Fin 96), 2 ≤ s.pwr.state ∧ s.calLevel (CalElem.column st) ≠ 0 ∧ s.getAt
    F.CIM_STALLs_STATE_CAL_STATE ↑st = 4 :=
  ⟨watch.setAt F.CIM_STALLs_STATE_CAL_STATE 95 4 |> fun s => { s with cal := { s.cal with level := [(95, 2)] } }, 95, by decide +kernel⟩

theorem witness_StewardTick_6 : ∃ (s : State) (b : Fin 4) (e : CalElem), (e = CalElem.dark b ∨ e = CalElem.line b) ∧ s.calLevel e ≠ 0
    ∧ s.barnReady = true ∧ s.flag F.BRN_CFG_ROT_EN = true ∧ s.bayOut ↑b = false ∧ s.rotFixed ↑b = false ∧ s.flag F.SUP_STATUS_BRACE =
    false ∧ s.barn.due = [] ∧ s.wanted 17 = 2 ∧ (∀ (x : Nat), x < 4 → s.stepping x = false ∧ (s.bay x).lostLine = none) ∧ (s.bay
    ↑b).loading = none :=
  ⟨{ barned 3 {} with cal := { up.cal with level := [(123, 2)] } }, 3, .dark 3, by decide +kernel⟩

theorem witness_StewardTick_7 : ∃ (s : State) (n : Fin 4), s.calLevel (CalElem.isen n) ≠ 0 :=
  ⟨{ up with cal := { up.cal with level := [(153, 2)] } }, 3, by decide +kernel⟩

theorem witness_RateAndLoss_0 : ∃ (s : State) (c : BitVec 22), s.span.running = true ∧ 2046976 ≤ c.toNat ∧ c.toNat ≤ 2049024 :=
  ⟨up.set F.SPN_STATUS_XT_STOPPED 1, 2049024, by decide +kernel⟩

theorem witness_RateAndLoss_1 : ∃ (s : State) (c : BitVec 22), s.span.running = true ∧ (c.toNat < 2046976 ∨ 2049024 < c.toNat) :=
  ⟨up, 2046975, by decide +kernel⟩

theorem witness_RateAndLoss_2 : ∃ (s : State), s.span.running = true ∧ s.flag F.SPN_STATUS_XT_STOPPED = false ∧ ∀ (q : ChipReq),
    s.pwr.req = some q → q.target ≠ 3 :=
  ⟨up, by decide +kernel⟩

theorem witness_RateAndLoss_3 : ∃ (s : State) (q : ChipReq), s.span.running = true ∧ s.flag F.SPN_STATUS_XT_STOPPED = false ∧ s.isUp =
    true ∧ s.pwr.state < 2 ∧ s.pwr.req = some q ∧ q.target = 3 :=
  ⟨asked doze 3, { target := 3, cause := 0 }, by decide +kernel⟩

theorem witness_CarryAligns_0 : ∃ (s : State) (rc : Word), s.span.carrying = true ∧ s.span.rootOn = true :=
  ⟨carry, 100, by decide +kernel⟩

theorem witness_CarryAligns_1 : ∃ (s : State) (rc : Word), s.span.carrying = true ∧ ¬(s.isUp = true ∧ s.pwr.state = 3) :=
  ⟨carry, 100, by decide +kernel⟩

theorem witness_CarryAligns_2 : ∃ (s : State) (rc : Word), s.span.carrying = true ∧ s.isUp = true ∧ s.pwr.state = 3 ∧ s.ChipQuiet :=
  ⟨{ carry with pwr := rest.pwr }, 100, by decide +kernel⟩

theorem witness_PllLocks_0 : ∃ (s : State), s.flag F.SPN_STATUS_PLL_LOCK = true :=
  ⟨up, by decide +kernel⟩

theorem witness_PllLocks_1 : ∃ (s : State), s.span.barnLock = true :=
  ⟨{ up with span := { up.span with barnLock := true } }, by decide +kernel⟩

theorem witness_PllLocks_2 : ∃ (s : State), s.span.running = true ∧ s.pwr.nextState < 2 ∧ s.flag F.SPN_STATUS_PLL_LOCK = false :=
  ⟨up.set F.SPN_STATUS_PLL_LOCK 0, by decide +kernel⟩

theorem witness_PllLocks_3 : ∃ (s : State), s.level 17 = 2 :=
  ⟨up, by decide +kernel⟩

theorem witness_StateRequests_0 : ∃ (s : State) (v : Word), s.coreOn = true ∧ s.isUp = true ∧ s.ChipQuiet ∧ s.pwr.state <
    F.PWR_STATE_REQ_TARGET.of v ∧ F.PWR_STATE_REQ_TARGET.of v < 4 ∧ (F.PWR_STATE_REQ_TARGET.of v = 3 → s.flag F.SPN_STATUS_XT_STOPPED
    = false) :=
  ⟨up, 3, by decide +kernel⟩

theorem witness_StateRequests_1 : ∃ (s : State) (v : Word), s.coreOn = true ∧ s.isUp = true ∧ s.ChipQuiet ∧ F.PWR_STATE_REQ_TARGET.of
    v < s.pwr.state ∧ s.pwr.state < 3 :=
  ⟨watch, 0, by decide +kernel⟩

theorem witness_StateRequests_2 : ∃ (s : State) (v : Word), s.coreOn = true ∧ 4 ≤ F.PWR_STATE_REQ_TARGET.of v :=
  ⟨up, 4, by decide +kernel⟩

theorem witness_StateRequests_3 : ∃ (s : State) (v : Word), s.coreOn = true ∧ s.isUp = true ∧ s.alarmHold = false ∧
    F.STW_START_REQ_KEY.of v = 22354 ∧ BitVec.getLsbD v 0 = true :=
  ⟨up, 0x57520001, by decide +kernel⟩

theorem witness_StateRequests_4 : ∃ (s : State) (v : Word), s.coreOn = true ∧ (F.STW_START_REQ_KEY.of v ≠ 22354 ∨ BitVec.getLsbD v 0 =
    false) :=
  ⟨up, 0x57520000, by decide +kernel⟩

theorem witness_VotesAndAccess_0 : ∃ (s : State) (v : Word), s.reaches Master.steward = true :=
  ⟨up, 0xFFFFFFFE, by decide +kernel⟩

theorem witness_VotesAndAccess_1 : ∃ (s : State) (v : Word), s.reaches Master.steward = true :=
  ⟨up, 0x5555, by decide +kernel⟩

theorem witness_VotesAndAccess_2 : ∃ (s : State) (d : Fin 24), s.isUp = true ∧ ↑d ≤ 18 ∧ s.steadyAt (↑d) 2 = false ∧ s.failed ↑d =
    false :=
  ⟨loftOff, 14, by decide +kernel⟩

theorem witness_VotesAndAccess_3 : ∃ (s : State) (d : Fin 24), s.inFlight ↑d = none ∧ s.pendOf ↑d = some (s.wanted ↑d) ∧ s.wanted ↑d <
    s.level ↑d ∧ s.mayDrop (↑d) (s.wanted ↑d) = true :=
  ⟨{ up with pwr := { up.pwr with votes := [], pend := [(22, 1)] } }, 22, by decide +kernel⟩

theorem witness_DomainTransitions_0 : ∃ (s : State) (d : Fin 24) (lvl : Nat), isLoft ↑d = true ∧ s.inFlight ↑d = some lvl ∧ s.level ↑d
    < lvl ∧ ∀ (x : Nat × StalledAcc), x ∈ s.pwr.stalled → x.fst = ↑d → x.snd = StalledAcc.touch :=
  ⟨loftRises, 14, 2, by decide +kernel⟩

theorem witness_DomainTransitions_1 : ∃ (s : State) (d : Fin 24), isLoft ↑d = true ∧ s.inFlight ↑d = some 0 ∧ 0 < s.level ↑d :=
  ⟨loftFalls, 14, by decide +kernel⟩

theorem witness_DomainTransitions_2 : ∃ (s : State) (d : Fin 24) (lvl : Nat), s.inFlight ↑d = some lvl ∧ s.level ↑d < lvl ∧ ¬↑d ∈
    s.pwr.retry :=
  ⟨loftRises, 14, 2, by decide +kernel⟩

theorem witness_DomainTransitions_3 : ∃ (s : State) (d : Fin 24) (lvl : Nat), s.inFlight ↑d = some lvl ∧ s.level ↑d < lvl ∧ ↑d ∈
    s.pwr.retry ∧ 17 < ↑d ∧ s.fab.reissues = [] :=
  ⟨{ up with pwr := { up.pwr with level := elPut 0 up.pwr.level 20 0, flight := [(20, 3)], retry := [20] } }, 20, 2,
      by decide +kernel⟩

theorem witness_ChipTransitions_0 : ∃ (s : State) (q : ChipReq), s.isUp = true ∧ s.pwr.state ≤ 1 ∧ s.pwr.fly = none ∧ s.pwr.req = some
    q ∧ s.pwr.state < q.target ∧ s.disp.waiters = [] ∧ s.prepared q = true :=
  ⟨{ doze with pwr := { doze.pwr with req := some { target := 3, cause := 0 } } }, { target := 3, cause := 0 }, by decide +kernel⟩

theorem witness_ChipTransitions_1 : ∃ (s : State) (q : ChipReq), s.isUp = true ∧ s.pwr.state = 2 ∧ s.pwr.fly = none ∧ s.pwr.req = some
    q ∧ q.target = 3 ∧ s.prepared q = true :=
  ⟨asked watch 3, { target := 3, cause := 0 }, by decide +kernel⟩

theorem witness_ChipTransitions_2 : ∃ (s : State) (q : ChipReq), s.isUp = true ∧ s.pwr.state = 0 ∧ s.pwr.fly = none ∧ s.pwr.req = some
    q ∧ 0 < q.target ∧ s.tilesOut = true :=
  ⟨asked (tiled 95 []) 1, { target := 1, cause := 0 }, by decide +kernel⟩

theorem witness_ChipTransitions_3 : ∃ (s : State) (q : ChipReq), s.isUp = true ∧ s.pwr.fly = some q ∧ s.mayEnter = true ∧
    s.pwr.nextState ≤ 1 :=
  ⟨{ doze with pwr := { doze.pwr with fly := some { target := 0, cause := 2 } } }, { target := 0, cause := 2 }, by decide +kernel⟩

theorem witness_ChipTransitions_4 : ∃ (s : State) (q : ChipReq), s.isUp = true ∧ s.pwr.fly = some q ∧ s.pwr.req = none ∧ s.mayEnter =
    true ∧ s.pwr.nextState = 2 ∧ s.pwr.state < 2 ∧ s.flag F.EAR_PREROLL_STATUS_UNLOADING = false :=
  ⟨flying doze 2, { target := 2, cause := 2 }, by decide +kernel⟩

theorem witness_ChipTransitions_5 : ∃ (s : State) (q : ChipReq), s.isUp = true ∧ s.pwr.fly = some q ∧ s.mayEnter = true ∧
    s.pwr.nextState = 3 ∧ s.flag F.SUP_STATUS_BRACE = false :=
  ⟨{ watch with pwr := { watch.pwr with fly := some { target := 3, cause := 0 }, level := [] } }, { target := 3, cause := 0 },
      by decide +kernel⟩

theorem witness_WakeSources_0 : ∃ (s : State) (l : Bool), s.powered = true ∧ s.bankOk 0 = true ∧ s.get F.PWR_WAKE_CFG_WAKEIN_MODE = 3
    :=
  ⟨up.set F.PWR_WAKE_CFG_WAKEIN_MODE 3, true, by decide +kernel⟩

theorem witness_WakeSources_1 : ∃ (s : State) (l : Bool), s.isUp = true ∧ s.pwr.state = 2 ∧ s.ChipQuiet ∧ s.bankOk 0 = true ∧
    s.wakeActive = false ∧ s.get F.PWR_WAKE_CFG_WAKEIN_MODE = 0 ∧ s.wakeTarget 1 < 2 ∧ l ≠ s.flag F.PWR_WAKE_CFG_WAKEIN_POL :=
  ⟨watch.set F.PWR_WAKE_CFG_WAKEIN_MODE 0, true, by decide +kernel⟩

theorem witness_WakeSources_2 : ∃ (s : State), s.isUp = true ∧ s.pwr.state = 2 ∧ s.ChipQuiet ∧ s.pwr.timerArmed = true ∧ s.wakeTarget
    2 < 2 :=
  ⟨({ watch with pwr := { watch.pwr with timerArmed := true } } : State).set F.PWR_WAKE_CFG_TIMER_TARGET 1, by decide +kernel⟩

theorem witness_WakeSources_3 : ∃ (s : State), s.isUp = true ∧ s.pwr.state = 2 ∧ s.ChipQuiet ∧ s.flag F.PWR_WAKE_STATUS_TIMER_FIRED =
    true ∧ s.get F.PWR_WAKE_CFG_WAKEIN_MODE = 3 ∧ s.wakeTarget 2 < 2 :=
  ⟨sets watch [(F.PWR_WAKE_STATUS_TIMER_FIRED, 1), (F.PWR_WAKE_CFG_WAKEIN_MODE, 3), (F.PWR_WAKE_CFG_TIMER_TARGET, 1)],
      by decide +kernel⟩

theorem witness_WakeSources_4 : ∃ (s : State) (b : Bank) (v33 : Bool), s.powered = true ∧ b ≠ Bank.a ∧ s.bankOk (bankNo b) = false :=
  ⟨{ up with sup := { up.sup with bankLow := [1] } }, .nvm, by decide +kernel⟩

theorem witness_BraceCycle_0 : ∃ (s : State) (c : Byte), s.isUp = true ∧ s.pwr.state = 2 ∧ s.flag F.SUP_STATUS_BRACE = false ∧ 1000 +
    4 * BitVec.toNat c < 1660 ∧ s.cim.jobs = [] ∧ s.barn.bays = [] :=
  ⟨watch, 20, by decide +kernel⟩

theorem witness_BraceCycle_1 : ∃ (s : State) (c : Byte), s.isUp = true ∧ s.pwr.state ≠ 3 ∧ s.sup.armed = true ∧ s.flag
    F.SUP_STATUS_BRACE = true ∧ 500 + 2 * BitVec.toNat c < 700 :=
  ⟨({ up with sup := { up.sup with armed := true } } : State).set F.SUP_STATUS_BRACE 1, 20, by decide +kernel⟩

theorem witness_BraceCycle_2 : ∃ (s : State) (rail : Rail) (c : Byte), s.powered = true ∧ s.pwr.state ≠ 3 ∧ belowWarn rail
    (BitVec.toNat c) = false :=
  ⟨watch, .core, 255, by decide +kernel⟩

theorem witness_BraceCycle_3 : ∃ (s : State) (c : Byte) (a : Byte) (cn : Byte) (an : Byte), s.flag F.SUP_STATUS_BRACE = true ∧ 720 <
    500 + 2 * BitVec.toNat cn ∧ 1700 < 1000 + 4 * BitVec.toNat an ∧ s.cim.jobs = [] ∧ s.sup.deferred = [] ∧ s.barnReady = false :=
  ⟨up.set F.SUP_STATUS_BRACE 1, 150, 150, by decide +kernel⟩

theorem witness_BraceCycle_4 : ∃ (s : State) (c : Byte) (a : Byte) (cn : Byte) (an : Byte), s.flag F.SUP_STATUS_BRACE = true ∧ s.flag
    F.SUP_STATUS_CORE_WARN = true ∧ s.sup.armed = true ∧ 500 + 2 * BitVec.toNat cn ≤ 720 ∧ 1700 < 1000 + 4 * BitVec.toNat an :=
  ⟨({ up with sup := { up.sup with armed := true } } : State) |> fun s => sets s [(F.SUP_STATUS_BRACE, 1), (F.SUP_STATUS_CORE_WARN, 1)], 110, 176, 110, 176, by decide +kernel⟩

theorem witness_BraceCycle_5 : ∃ (s : State), s.flag F.SUP_STATUS_BRACE = true ∧ s.resets = true :=
  ⟨up.set F.SUP_STATUS_BRACE 1, by decide +kernel⟩

theorem witness_BraceCycle_6 : ∃ (s : State) (c : Byte), s.powered = true ∧ 500 + 2 * BitVec.toNat c ≤ 660 ∧ (s.sup.armed = true ∧
    s.resets = true ∨ s.dipJustDue = true) :=
  ⟨{ up with sup := { up.sup with armed := true } }, 9, by decide +kernel⟩

theorem witness_BraceCycle_7 : ∃ (s : State), s.boot.phase = BootPhase.browned :=
  ⟨{ up with boot := { up.boot with phase := .browned } }, by decide +kernel⟩

theorem witness_BraceCycle_8 : ∃ (s : State), s.flag F.SUP_STATUS_STORM = true :=
  ⟨up.set F.SUP_STATUS_STORM 1, by decide +kernel⟩

theorem witness_PhaseLosses_0 : ∃ (s : State) (n : Fin 4) (p : RailPeriod), s.flag F.VRC_STATUS_RUNNING = true ∧ s.get
    F.VRC_STATUS_SHED = 0 ∧ s.get F.VRC_STATUS_BLIND = 0 ∧ s.openPeriod p ↑n = true :=
  ⟨railed, 3, period [500, 500, 500, 256], by decide +kernel⟩

theorem witness_PhaseLosses_1 : ∃ (s : State) (n : Fin 4) (p : RailPeriod), s.flag F.VRC_STATUS_RUNNING = true ∧ s.get
    F.VRC_STATUS_SHED = 0 ∧ s.get F.VRC_STATUS_BLIND = 0 ∧ s.sensePeriod p ↑n = true :=
  ⟨railed, 3, period [500, 500, 500, 1003], by decide +kernel⟩

theorem witness_PhaseLosses_2 : ∃ (s : State) (p : RailPeriod), s.flag F.VRC_STATUS_RUNNING = true ∧ s.get F.VRC_STATUS_SHED = 1 ∧
    s.get F.VRC_STATUS_BLIND = 0 ∧ s.flag F.VRC_STATUS_CLAMP = false ∧ s.openPeriod p 1 = true :=
  ⟨railed.set F.VRC_STATUS_SHED 1, period [0, 256, 500, 500], by decide +kernel⟩

theorem witness_PhaseLosses_3 : ∃ (s : State) (p : RailPeriod), s.isUp = true ∧ s.flag F.VRC_STATUS_RUNNING = true ∧ s.get
    F.VRC_STATUS_SHED = 3 ∧ s.get F.VRC_STATUS_BLIND = 0 ∧ s.openPeriod p 2 = true :=
  ⟨setAts (railed.set F.VRC_STATUS_SHED 3) [(F.VRC_PHASEn_STATE, 0, 1), (F.VRC_PHASEn_STATE, 1, 1)], period [0, 0, 256, 500], by decide +kernel⟩

theorem witness_PhaseLosses_4 : ∃ (s : State) (p : RailPeriod), s.flag F.VRC_STATUS_RUNNING = true ∧ s.flag F.VRC_CFG_LIGHT_EN = true
    ∧ s.flag F.VRC_STATUS_LIGHT = false ∧ s.totalAmps p < 3 * s.ampDen :=
  ⟨railed.set F.VRC_CFG_LIGHT_EN 1, period [256, 256, 256, 256], by decide +kernel⟩

theorem witness_PhaseLosses_5 : ∃ (s : State) (n : Fin 4) (p : RailPeriod), s.flag F.VRC_STATUS_RUNNING = true ∧ s.flag
    F.VRC_STATUS_LIGHT = true ∧ 4 * s.ampDen ≤ s.totalAmps p :=
  ⟨sets railed [(F.VRC_STATUS_LIGHT, 1), (F.VRC_STATUS_SHED, 8)], 2, period [500, 500, 500, 500], by decide +kernel⟩

theorem witness_OvercurrentCount_0 : ∃ (s : State) (n : Fin 5) (p : RailPeriod), s.flag F.VRC_STATUS_RUNNING = true ∧ s.truncates p ↑n
    = true ∧ elGet 0 s.log.windows 788 = s.span.count.toNat / 1024 + 1 :=
  ⟨{ railed with log := { up.log with windows := [(788, 4194305)] } }, 4, period [800, 800, 800, 800], by decide +kernel⟩

theorem witness_OvercurrentCount_1 : ∃ (s : State) (n : Fin 5) (p : RailPeriod), s.flag F.VRC_STATUS_RUNNING = true ∧ s.truncates p ↑n
    = true ∧ s.span.running = true ∧ s.log.intake.length < 32 ∧ elGet 0 s.log.windows 788 ≠ s.span.count.toNat / 1024 + 1 :=
  ⟨railed, 0, period [800, 0, 0, 0], by decide +kernel⟩

theorem witness_OvercurrentCount_2 : ∃ (s : State) (n : Fin 5) (p : RailPeriod), s.flag F.VRC_STATUS_RUNNING = true ∧ s.truncates p ↑n
    = false :=
  ⟨railed, 0, period [700, 0, 0, 0], by decide +kernel⟩

theorem witness_RailControl_0 : ∃ (s : State) (p : RailPeriod), s.flag F.VRC_STATUS_RUNNING = true ∧ ↑(s.get F.VRC_STATUS_BUDGET_A) *
    s.ampDen ≤ s.totalAmps p :=
  ⟨railed.set F.VRC_STATUS_SHARE 1, period [800, 800, 800, 800], by decide +kernel⟩

theorem witness_RailControl_1 : ∃ (s : State) (p : RailPeriod), s.flag F.VRC_STATUS_RUNNING = true ∧ 10 * s.totalAmps p < 9 * ↑(s.get
    F.VRC_STATUS_BUDGET_A) * s.ampDen :=
  ⟨railed.set F.VRC_STATUS_SHARE 16, period [300, 300, 300, 300], by decide +kernel⟩

theorem witness_RailControl_2 : ∃ (s : State), s.flag F.VRC_STATUS_RUNNING = true ∧ s.flag F.VRC_STATUS_VSENSE_LOCAL = false :=
  ⟨up.set F.VRC_STATUS_RUNNING 1, by decide +kernel⟩

theorem witness_RailControl_3 : ∃ (s : State), s.powered = true ∧ s.flag F.VRC_STATUS_RUNNING = true ∧ s.sup.armed = false :=
  ⟨railed, by decide +kernel⟩

theorem witness_RailControl_4 : ∃ (s : State), s.powered = true ∧ s.flag F.VRC_STATUS_RUNNING = true ∧ s.sup.armed = false :=
  ⟨railed, by decide +kernel⟩

theorem witness_RailControl_5 : ∃ (s : State) (n : Fin 4) (c : BitVec 10), s.powered = true ∧ s.flag F.SUP_STATUS_BRACE = false ∧
    (s.railWanted = true ∧ s.flag F.VRC_STATUS_RUNNING = false ∨ s.flag F.VRC_STATUS_RUNNING = true ∧ s.flag F.VRC_STATUS_LIGHT = true
    ∧ s.getAt F.VRC_PHASEn_STATE ↑n ≠ 0) ∧ 176 ≤ c.toNat ∧ c.toNat ≤ 336 :=
  ⟨up, 3, 336, by decide +kernel⟩

theorem witness_RailControl_6 : ∃ (s : State) (b : Bank), s.powered = true ∧ s.bankOk (bankNo b) = true ∧ b ≠ Bank.a ∧ b ≠ Bank.phy :=
  ⟨up, .nvm, by decide +kernel⟩

theorem witness_AlarmLevels_0 : ∃ (s : State), s.powered = true ∧ s.NotAtRest ∧ s.alarmLevel 0 = 1 :=
  ⟨up.set F.SEC_ALARM_LEVEL_LEVEL 1, by decide +kernel⟩

theorem witness_AlarmLevels_1 : ∃ (s : State), s.powered = true ∧ s.NotAtRest ∧ s.sup.armed = true ∧ s.alarmLevel 1 = 1 :=
  ⟨({ up with sup := { up.sup with armed := true } } : State).set F.SEC_ALARM_LEVEL_LEVEL 4, by decide +kernel⟩

theorem witness_AlarmLevels_2 : ∃ (s : State), s.powered = true ∧ s.NotAtRest ∧ s.alarmLevel 2 = 1 :=
  ⟨up.set F.SEC_ALARM_LEVEL_LEVEL 16, by decide +kernel⟩

theorem witness_AlarmLevels_3 : ∃ (s : State), s.powered = true ∧ s.pwr.state ≠ 3 ∧ s.flag F.SPN_STATUS_XT_STOPPED = false ∧
    s.alarmLevel 3 = 1 :=
  ⟨up.set F.SEC_ALARM_LEVEL_LEVEL 64, by decide +kernel⟩

theorem witness_AlarmLevels_4 : ∃ (s : State), s.powered = true ∧ s.pwr.state ≠ 3 ∧ s.flag F.SPN_STATUS_XT_STOPPED = false ∧
    s.alarmLevel 3 = 1 ∧ s.span.running = true :=
  ⟨up.set F.SEC_ALARM_LEVEL_LEVEL 64, by decide +kernel⟩

theorem witness_AlarmLevels_5 : ∃ (s : State) (c : Byte), s.powered = true ∧ s.NotAtRest ∧ s.keys.hot = true ∧ tempOut c = true ∧
    s.alarmLevel 4 = 1 :=
  ⟨({ up with keys := { up.keys with hot := true } } : State).set F.SEC_ALARM_LEVEL_LEVEL 256, 126, by decide +kernel⟩

theorem witness_AlarmLevels_6 : ∃ (s : State) (c : Byte), s.powered = true ∧ (s.keys.hot = false ∨ tempOut c = false) :=
  ⟨up, 125, by decide +kernel⟩

theorem witness_AlarmLevels_7 : ∃ (s : State), s.isUp = true ∧ s.pwr.state = 3 ∧ s.alarmLevel 0 = 1 :=
  ⟨rest.set F.SEC_ALARM_LEVEL_LEVEL 1, by decide +kernel⟩

theorem witness_AlarmLevels_8 : ∃ (s : State), s.powered = true ∧ s.alarmLevel 0 = 2 ∧ s.get F.SEC_ALARM_STATUS_LEVEL < 2 ∧ ∀ (p :
    Nat), p < 8 → (s.port p).run = none :=
  ⟨up.set F.SEC_ALARM_LEVEL_LEVEL 2, by decide +kernel⟩

theorem witness_AlarmLevels_9 : ∃ (s : State), s.powered = true ∧ s.alarmLevel 0 = 3 ∧ s.get F.SEC_ALARM_STATUS_LEVEL = 2 :=
  ⟨sets up [(F.SEC_ALARM_LEVEL_LEVEL, 3), (F.SEC_ALARM_STATUS_LEVEL, 2)], by decide +kernel⟩

theorem witness_ZeroiseSequence_0 : ∃ (s : State) (l : List (Fin 4)), s.boot.phase = BootPhase.zeroise ∧ s.keys.erased = false :=
  ⟨{ zeroing with keys := { zeroing.keys with identity := [7], group := [9] } }, [0, 3], by decide +kernel⟩

theorem witness_ZeroiseSequence_1 : ∃ (s : State), s.Inv ∧ s.boot.phase = BootPhase.zeroise ∧ s.keys.filled = false ∧ s.keys.erased =
    false ∧ s.flag F.PEN_STATUS_WIPING = false :=
  ⟨zeroing, by decide +kernel⟩

theorem witness_ZeroiseSequence_2 : ∃ (s : State), s.boot.phase = BootPhase.zeroise ∧ s.keys.filled = false ∧ s.keys.erased = true ∧
    s.flag F.PEN_STATUS_WIPING = false :=
  ⟨{ zeroing with keys := { zeroing.keys with erased := true } }, by decide +kernel⟩

theorem witness_ZeroiseSequence_3 : ∃ (s : State) (l : List (Fin 4)), s.boot.phase = BootPhase.zeroise ∧ s.keys.filled = true ∧
    s.keys.erased = false :=
  ⟨{ zeroing with keys := { zeroing.keys with filled := true } }, [], by decide +kernel⟩

theorem witness_ZeroiseSequence_4 : ∃ (s : State), s.boot.phase = BootPhase.zeroise ∧ s.keys.filled = true ∧ s.keys.erased = true ∧
    s.flag F.IMG_BOOT_HOLD = false :=
  ⟨{ zeroing with keys := { zeroing.keys with filled := true, erased := true } }, by decide +kernel⟩

theorem witness_ZeroiseSequence_5 : ∃ (s : State), s.boot.phase = BootPhase.zeroise ∧ s.keys.filled = true ∧ s.keys.erased = true ∧
    s.flag F.IMG_BOOT_HOLD = true :=
  ⟨({ zeroing with keys := { zeroing.keys with filled := true, erased := true } } : State).set F.IMG_BOOT_HOLD 1, by decide +kernel⟩

theorem witness_KeysAndLifecycle_0 : ∃ (s : State) (k : Fin 16) (v : Word), s.coreOn = true ∧ s.debugRegs = true ∧ s.get
    F.SEC_LIFECYCLE_STATE = 0 ∧ s.flag F.SEC_LIFECYCLE_PENDING = false :=
  ⟨hosted, 15, 0xFFFFFFFF, by decide +kernel⟩

theorem witness_KeysAndLifecycle_1 : ∃ (s : State) (v : Word), s.coreOn = true ∧ s.debugRegs = true ∧ s.secured = false ∧ s.flag
    F.SUP_STATUS_BRACE = false ∧ s.flag F.SEC_LIFECYCLE_PENDING = false ∧ s.get F.SEC_LIFECYCLE_STATE = 1 ∧ F.SEC_LC_REQ_KEY.of v =
    19523 ∧ F.SEC_LC_REQ_TARGET.of v = 2 :=
  ⟨hosted.set F.SEC_LIFECYCLE_STATE 1, 0x4C430002, by decide +kernel⟩

theorem witness_KeysAndLifecycle_2 : ∃ (s : State) (v : Word) (h : Nat → Word), s.coreOn = true ∧ s.debugRegs = true ∧ s.secured =
    false ∧ s.flag F.SUP_STATUS_BRACE = false ∧ s.flag F.SEC_LIFECYCLE_PENDING = false ∧ s.get F.SEC_LIFECYCLE_STATE = 0 ∧
    F.SEC_LC_REQ_KEY.of v = 19523 ∧ F.SEC_LC_REQ_TARGET.of v = 1 ∧ s.keys.staged = List.map (fun (k : Nat) => (k, h k)) (List.range
    16) ∧ ∃ (k : Nat), k < 8 ∧ h k ≠ 0 :=
  ⟨{ hosted with keys := { hosted.keys with staged := (List.range 16).map fun k => (k, 7) } }, 0x4C430001, fun _ => 7,
      by decide +kernel⟩

theorem witness_KeysAndLifecycle_3 : ∃ (s : State) (v : Word) (l : List (Fin 4)), s.coreOn = true ∧ s.debugRegs = true ∧ s.secured =
    false ∧ s.flag F.SUP_STATUS_BRACE = false ∧ s.flag F.SEC_LIFECYCLE_PENDING = false ∧ s.get F.SEC_LIFECYCLE_STATE = 1 ∧
    F.SEC_LC_REQ_KEY.of v = 19523 ∧ F.SEC_LC_REQ_TARGET.of v = 3 :=
  ⟨hosted.set F.SEC_LIFECYCLE_STATE 1, 0x4C430003, [1, 2], by decide +kernel⟩

theorem witness_KeysAndLifecycle_4 : ∃ (s : State) (v : Word) (key : List Byte) (slot : Nat), s.coreOn = true ∧ s.debugRegs = true ∧
    s.secured = false ∧ s.flag F.SUP_STATUS_BRACE = false ∧ s.get F.SEC_LIFECYCLE_STATE = 1 ∧ s.keys.identity ≠ [] ∧
    F.SEC_KEY_CMD_KEY.of v = 19273 ∧ BitVec.getLsbD v 0 = true ∧ BitVec.getLsbD v 1 = false ∧ fieldAt s.envelope 0 2 = 1 ∧ fieldAt
    s.envelope 2 2 ≠ 0 ∧ fieldAt s.envelope 2 2 = s.get F.GATE_CFG_TRUST_GROUP ∧ zeroAt s.envelope 4 12 = true ∧ unwrap
    s.keys.identity s.serial s.envelope = some key ∧ s.liveSlot 2 = some slot :=
  ⟨installing, 0x4B490001, (List.range 32).map (BitVec.ofNat 8), 2, by decide +kernel⟩

theorem witness_KeysAndLifecycle_5 : ∃ (s : State) (v : Word), s.coreOn = true ∧ s.debugRegs = true ∧ s.secured = false ∧ s.flag
    F.SUP_STATUS_BRACE = false ∧ s.get F.SEC_LIFECYCLE_STATE = 1 ∧ s.keys.identity = [] ∧ F.SEC_KEY_CMD_KEY.of v = 19273 ∧
    BitVec.getLsbD v 0 = true ∧ BitVec.getLsbD v 1 = false :=
  ⟨hosted.set F.SEC_LIFECYCLE_STATE 1, 0x4B490001, by decide +kernel⟩

theorem witness_KeysAndLifecycle_6 : ∃ (s : State) (v : Word) (failed : Bool), s.coreOn = true ∧ s.debugRegs = true ∧ s.secured =
    false ∧ s.flag F.SUP_STATUS_BRACE = false ∧ F.SEC_KEY_CMD_KEY.of v = 19273 ∧ BitVec.getLsbD v 0 = false ∧ BitVec.getLsbD v 1 =
    true :=
  ⟨hosted, 0x4B490002, true, by decide +kernel⟩

theorem witness_KeysAndLifecycle_7 : ∃ (s : State) (v : Word) (l : List (Fin 4)), s.coreOn = true ∧ s.debugRegs = true ∧ s.flag
    F.SUP_STATUS_BRACE = true :=
  ⟨hosted.set F.SUP_STATUS_BRACE 1, 0x4C430002, [], by decide +kernel⟩

theorem witness_JtagPort_0 : ∃ (s : State), s.powered = true ∧ s.bankOk 0 = true ∧ s.jtag.hold = true :=
  ⟨held, by decide +kernel⟩

theorem witness_JtagPort_1 : ∃ (s : State) (q : Instr × Nat), s.powered = true ∧ s.bankOk 0 = true ∧ s.jtag.hold = false ∧ (∀ (p :
    Nat), p < 8 → (s.port p).run = none) ∧ q ∈ [(Instr.extest, 0), (Instr.samplePreload, 1), (Instr.highz, 3), (Instr.clamp, 4)] :=
  ⟨up, (.highz, 3), by decide +kernel⟩

theorem witness_JtagPort_2 : ∃ (s : State), s.powered = true ∧ s.bankOk 0 = true :=
  ⟨up, by decide +kernel⟩

theorem witness_JtagPort_3 : ∃ (s : State) (token : List Byte), s.powered = true ∧ s.bankOk 0 = true ∧ s.secured = false ∧ s.tooSoon =
    false ∧ s.get F.SEC_LIFECYCLE_STATE ≠ 2 ∧ s.level 18 = 0 :=
  ⟨{ up with pwr := { up.pwr with level := elPut 0 up.pwr.level 18 0 } }, [1, 2, 3], by decide +kernel⟩

theorem witness_JtagPort_4 : ∃ (s : State) (token : List Byte), s.powered = true ∧ s.bankOk 0 = true ∧ s.secured = false ∧ s.tooSoon =
    false ∧ s.get F.SEC_LIFECYCLE_STATE = 2 ∧ s.tokenGood token = true :=
  ⟨challenged, token5, by decide +kernel⟩

theorem witness_JtagPort_5 : ∃ (s : State) (token : List Byte), s.powered = true ∧ s.bankOk 0 = true ∧ s.secured = false ∧ s.tooSoon =
    false ∧ s.get F.SEC_LIFECYCLE_STATE = 2 ∧ s.tokenGood token = false ∧ s.get F.SEC_DBG_STATUS_FAILS < 2 :=
  ⟨up.set F.SEC_LIFECYCLE_STATE 2, [], by decide +kernel⟩

theorem witness_JtagPort_6 : ∃ (s : State) (token : List Byte), s.powered = true ∧ s.bankOk 0 = true ∧ s.secured = false ∧ s.tooSoon =
    true ∧ s.get F.SEC_DBG_STATUS_FAILS < 2 :=
  ⟨{ up with jtag := { up.jtag with failedAt := some (up.span.count - 1023999) } }, [], by decide +kernel⟩

theorem witness_PowerAndReset_1 : ∃ (s : State), s.powered = true :=
  ⟨up, by decide +kernel⟩

theorem witness_PowerAndReset_2 : ∃ (s : State), s.powered = true ∧ s.bankOk 0 = true ∧ s.boot.phase ≠ BootPhase.zeroise :=
  ⟨up, by decide +kernel⟩

theorem witness_PowerAndReset_3 : ∃ (s : State), s.boot.phase = BootPhase.inStart ∧ s.flag F.IMG_STATUS_SEALED = false ∧ s.startSlot =
    0 :=
  ⟨starting 0 9 false, by decide +kernel⟩

theorem witness_StartsBegin_0 : ∃ (s : State) (env : StartEnv), s.boot.phase = BootPhase.due ∧ coldCause s.boot.cause = true ∧
    env.stopAt = 1 :=
  ⟨{ up with boot := { up.boot with phase := .due, cause := 4 } }, env 1, by decide +kernel⟩

theorem witness_StartsBegin_1 : ∃ (s : State) (env : StartEnv), s.boot.phase = BootPhase.due ∧ coldCause s.boot.cause = false ∧
    s.boot.cause < 256 ∧ env.stopAt = 1 :=
  ⟨{ up with boot := { up.boot with phase := .due, cause := 5 } }, env 1, by decide +kernel⟩

theorem witness_StartsBegin_2 : ∃ (s : State) (env : StartEnv), s.boot.phase = BootPhase.inStart ∧ s.boot.warm = false ∧ s.boot.step =
    3 ∧ env.stopAt = 4 ∧ env.aonBist = none ∧ env.failing = [] ∧ s.get F.SEC_LIFECYCLE_STATE = 0 ∧ s.failed 23 = false ∧ s.failed 21 =
    false :=
  ⟨starting 0 3 false, env 4, by decide +kernel⟩

theorem witness_StartsBegin_3 : ∃ (s : State) (env : StartEnv), s.boot.phase = BootPhase.inStart ∧ s.boot.warm = false ∧ s.boot.step =
    4 ∧ env.stopAt = 5 ∧ s.startSlot = 0 ∧ headValid (s.imgHead 0) = false :=
  ⟨starting 0 4 false, env 5, by decide +kernel⟩

theorem witness_StartsBegin_4 : ∃ (s : State) (env : StartEnv), s.boot.phase = BootPhase.inStart ∧ s.boot.step = 9 ∧ env.stopAt = 10 ∧
    5000 < env.sealMs ∧ s.failed 23 = false ∧ s.startSlot = 1 :=
  ⟨(starting 5 9 true).set F.IMG_CAUSE_SLOT 1, { env 10 with sealMs := 5001 }, by decide +kernel⟩

theorem witness_StartsBegin_5 : ∃ (s : State) (env : StartEnv), s.boot.phase = BootPhase.inStart ∧ s.boot.step = 11 ∧ env.stopAt = 12
    ∧ s.failed 23 = false ∧ s.pwr.wakeReq = none ∧ s.pwr.held = [] ∧ s.pwr.fly = none ∧ s.pwr.req = none ∧ s.boot.warmHeld = false ∧
    s.get F.IMG_STATUS_START_STATE = 0 :=
  ⟨{ up with boot := { up.boot with phase := .inStart, step := 11 } }, env 12, by decide +kernel⟩

theorem witness_NvmAndStateArea_0 : ∃ (s : State), s.bankOk 0 = true ∧ s.flag F.IMG_STATUS_SEALED = true :=
  ⟨up.set F.IMG_STATUS_SEALED 1, by decide +kernel⟩

theorem witness_NvmAndStateArea_1 : ∃ (s : State), s.flag F.IMG_STATUS_SEALED = false :=
  ⟨up, by decide +kernel⟩

theorem witness_NvmAndStateArea_2 : ∃ (s : State), s.isUp = true ∧ s.flag F.STW_NVM_REQ = true ∧ s.flag F.STW_NVM_GRANTED = false ∧
    s.boot.writing = none :=
  ⟨sets up [(F.STW_NVM_REQ, 1), (F.STW_NVM_GRANTS, 255)], by decide +kernel⟩

theorem witness_NvmAndStateArea_3 : ∃ (s : State) (a : Nat) (bs : List Byte), s.boot.phase ≠ BootPhase.hold ∧ s.flag F.STW_NVM_GRANTED
    = true ∧ a + bs.length ≤ 135266304 :=
  ⟨sets up [(F.STW_NVM_REQ, 1), (F.STW_NVM_GRANTED, 1)], 0x80FFFFF, [7], by decide +kernel⟩

theorem witness_NvmAndStateArea_4 : ∃ (s : State) (l : List (Nat × List Byte)), s.flag F.STW_NVM_GRANTED = false :=
  ⟨sets up [(F.STW_NVM_REQ, 1)], [(0, [1])], by decide +kernel⟩

theorem witness_NvmAndStateArea_5 : ∃ (s : State), s.nvmFree = true ∧ s.boot.retryBank = none ∧ s.boot.wearDue = true :=
  ⟨({ up with boot := { up.boot with wearDue := true, newest := some 0 } } : State).set F.IMG_STATUS_SEALED 1, by decide +kernel⟩

theorem witness_NvmAndStateArea_6 : ∃ (s : State) (b : Fin 2), s.boot.writing = some ↑b ∧ s.bankOk 1 = true ∧ s.boot.wrote = false :=
  ⟨{ up with boot := { up.boot with writing := some 1 } }, 1, by decide +kernel⟩

theorem witness_NvmAndStateArea_7 : ∃ (s : State) (b : Fin 2), s.boot.writing = some ↑b ∧ s.boot.again = false ∧ s.boot.wrote = false
    :=
  ⟨{ up with boot := { up.boot with writing := some 1 } }, 1, by decide +kernel⟩

theorem witness_NvmAndStateArea_8 : ∃ (s : State) (b : Fin 2), s.boot.retryBank = some ↑b ∧ s.nvmFree = true :=
  ⟨({ up with boot := { up.boot with retryBank := some 1 } } : State).set F.IMG_STATUS_SEALED 1, 1, by decide +kernel⟩

theorem witness_NvmAndStateArea_9 : ∃ (s : State), s.boot.calChanged = false :=
  ⟨up, by decide +kernel⟩

theorem witness_NvmAndStateArea_10 : ∃ (s : State), s.boot.calChanged = true ∧ s.flag F.SUP_STATUS_BRACE = false :=
  ⟨{ up with boot := { up.boot with calChanged := true } }, by decide +kernel⟩

theorem witness_NvmAndStateArea_11 : ∃ (s : State), s.isUp = true ∧ s.level 23 ≠ 2 ∧ s.inFlight 23 = some 2 ∧ s.pwr.restored = false ∧
    s.flag F.STW_NVM_GRANTED = false ∧ s.bankOk 1 = true ∧ ∀ (id : Nat), id ∈ [3, 4, 9, 10, 12, 13] → s.secGood (s.get
    F.IMG_BOOT_ACTIVE_SLOT) (s.imgHead (s.get F.IMG_BOOT_ACTIVE_SLOT)) id = true :=
  ⟨{ up with mem := { up.mem with nvm := (List.range 640).map fun a => (a, 0) }, pwr := { up.pwr with level := elPut 0 up.pwr.level 23 0, flight := [(23, 3)] } },
      by decide +kernel⟩

theorem witness_YardArithmetic_0 : ∃ (s : State) (i : Fin 16) (w : Nat) (q : Instr × Nat × Nat × (Word → Word → Word)), aluOk w = true
    ∧ q ∈ [(Instr.add i, 6, 1, fun (a b : Word) => a + b), (Instr.sub i, 7, 1, fun (a b : Word) => a - b), (Instr.mul i, 8, 4, fun (a
    b : Word) => a * b), (Instr.and i, 9, 1, fun (a b : Word) => a &&& b), (Instr.or i, 10, 1, fun (a b : Word) => a ||| b)] ∧
    s.atInstr i q.snd.fst q.snd.snd.fst w :=
  ⟨code up 15 [0x08710000], 15, 0x08710000, (.mul 15, 8, 4, fun a b => a * b), by decide +kernel, by simp, by decide +kernel⟩

theorem witness_YardArithmetic_1 : ∃ (s : State) (i : Fin 16) (w : Nat), s.atInstr i 5 1 w ∧ dOf w < 8 ∧ sOf w ≤ 2 :=
  ⟨code up 15 [0x0571FFFF], 15, 0x0571FFFF, by decide +kernel⟩

theorem witness_YardArithmetic_2 : ∃ (s : State) (i : Fin 16) (w : Nat), s.atInstr i 11 1 w ∧ dOf w < 8 ∧ sOf w = 0 ∧ immOf w < 64 ∧
    immOf w ≠ 32 :=
  ⟨code up 0 [0x0B00003F], 0, 0x0B00003F, by decide +kernel⟩

theorem witness_YardArithmetic_3 : ∃ (s : State) (i : Fin 16) (w : Nat), s.atInstr i 12 1 w ∧ aluOk w = true :=
  ⟨code up 3 [0x0C08FFFF], 3, 0x0C08FFFF, by decide +kernel⟩

theorem witness_YardArithmetic_4 : ∃ (s : State) (i : Fin 16), s.yardRuns = true ∧ s.slotReady ↑i = true ∧ (s.slotCfg ↑i).length ≤
    (s.slot ↑i).pc :=
  ⟨code up 3 [], 3, by decide +kernel⟩

theorem witness_YardArithmetic_5 : ∃ (s : State) (i : Fin 16), s.yardRuns = true ∧ s.slotReady ↑i = true ∧ (s.slot ↑i).pc < (s.slotCfg
    ↑i).length ∧ 24 ≤ opOf (s.slotWord ↑i) :=
  ⟨code up 3 [0x18000000], 3, by decide +kernel⟩

theorem witness_YardControl_0 : ∃ (s : State) (i : Fin 16), s.yardRuns = true ∧ bitOf (s.get F.YRD_CFG_SLOT_EN) ↑i = true ∧ s.getAt
    F.YRD_SLOTn_PERIOD_PERIOD ↑i ≠ 0 ∧ (s.slot ↑i).phase = SlotPhase.idle :=
  ⟨(code up 3 [0] { phase := .idle }).setAt F.YRD_SLOTn_PERIOD_PERIOD 3 1, 3, by decide +kernel⟩

theorem witness_YardControl_1 : ∃ (s : State) (i : Fin 16), s.yardRuns = true ∧ bitOf (s.get F.YRD_CFG_SLOT_EN) ↑i = true ∧ s.getAt
    F.YRD_SLOTn_PERIOD_PERIOD ↑i ≠ 0 ∧ (s.slot ↑i).phase ≠ SlotPhase.idle ∧ (s.slot ↑i).phase ≠ SlotPhase.faulted :=
  ⟨(code up 3 [0]).setAt F.YRD_SLOTn_PERIOD_PERIOD 3 1, 3, by decide +kernel⟩

theorem witness_YardControl_2 : ∃ (s : State) (i : Fin 16) (w : Nat), s.atInstr i 0 1 w ∧ onlyOp w = true :=
  ⟨code up 3 [0], 3, 0, by decide +kernel⟩

theorem witness_YardControl_3 : ∃ (s : State) (i : Fin 16) (w : Nat), s.atInstr i 1 1 w ∧ dOf w = 2 ∧ sOf w = 0 ∧ immOf w ≠ 0 :=
  ⟨code up 3 [0x01200001], 3, 0x01200001, by decide +kernel⟩

theorem witness_YardControl_4 : ∃ (s : State) (i : Fin 16) (w : Nat), s.atInstr i 1 1 w ∧ dOf w = 2 ∧ sOf w = 0 ∧ immOf w = 0 :=
  ⟨code up 3 [0x01200000], 3, 0x01200000, by decide +kernel⟩

theorem witness_YardControl_5 : ∃ (s : State) (i : Fin 16) (n : Nat), s.yardRuns = true ∧ (s.slot ↑i).phase = SlotPhase.waiting 2 n :=
  ⟨code up 3 [0x01200001] { phase := .waiting 2 1 }, 3, 1, by decide +kernel⟩

theorem witness_YardControl_6 : ∃ (s : State) (i : Fin 16) (k : Nat) (n : Nat), s.yardRuns = true ∧ (s.slot ↑i).phase =
    SlotPhase.waiting k n ∧ k ≠ 2 :=
  ⟨code up 3 [0x01000001] { phase := .waiting 0 1 }, 3, 0, 1, by decide +kernel⟩

theorem witness_YardControl_7 : ∃ (s : State) (i : Fin 16) (w : Nat), s.atInstr i 13 2 w ∧ dOf w ≤ 11 ∧ sOf w = 0 ∧ immOf w < 256 ∧
    (s.slot ↑i).cond (dOf w) = true :=
  ⟨code up 3 [0x0D0000FF], 3, 0x0D0000FF, by decide +kernel⟩

theorem witness_YardControl_8 : ∃ (s : State) (i : Fin 16) (w : Nat), s.atInstr i 13 1 w ∧ dOf w ≤ 11 ∧ sOf w = 0 ∧ immOf w < 256 ∧
    (s.slot ↑i).cond (dOf w) = false :=
  ⟨code up 3 [0x0D1000FF], 3, 0x0D1000FF, by decide +kernel⟩

theorem witness_YardControl_9 : ∃ (s : State) (i : Fin 16) (w : Nat), s.atInstr i 14 1 w ∧ dOf w = 0 ∧ sOf w = 0 ∧ 256 ≤ immOf w ∧
    (s.slot ↑i).loopLeft = 0 ∧ (immOf w % 256 ≠ 0 → (s.slot ↑i).pc + 1 + immOf w / 256 ≤ (s.slotCfg ↑i).length) :=
  ⟨code up 3 [0x0E000102, 0], 3, 0x0E000102, by decide +kernel⟩

theorem witness_YardControl_10 : ∃ (s : State) (i : Fin 16) (w : Nat), s.atInstr i 21 1 w ∧ dOf w = 0 ∧ sOf w = 0 :=
  ⟨code up 3 [0x1500FFFF], 3, 0x1500FFFF, by decide +kernel⟩

theorem witness_YardControl_11 : ∃ (s : State) (i : Fin 16) (j : Fin 16) (w : Nat), s.atInstr i 22 1 w ∧ dOf w = 0 ∧ sOf w = 0 ∧ immOf
    w = ↑j ∧ i ≠ j ∧ bitOf (s.get F.YRD_CFG_SLOT_EN) ↑j = true ∧ (s.slot ↑j).phase = SlotPhase.idle :=
  ⟨code up 3 [0x1600000F], 3, 15, 0x1600000F, by decide +kernel⟩

theorem witness_YardControl_12 : ∃ (s : State) (i : Fin 16) (w : Nat), s.atInstr i 22 1 w ∧ dOf w = 0 ∧ sOf w = 0 ∧ immOf w = ↑i :=
  ⟨code up 3 [0x16000003], 3, 0x16000003, by decide +kernel⟩

theorem witness_YardControl_13 : ∃ (s : State) (i : Fin 16) (w : Nat), s.atInstr i 23 1 w ∧ onlyOp w = true ∧ s.slotFlag (↑i) 2 = true
    :=
  ⟨(code up 3 [0x17000000] { phase := .running, det := { active := true } }).setAt F.YRD_SLOTn_TRIG_FLAGS 3 4, 3, 0x17000000,
      by decide +kernel⟩

theorem witness_YardControl_14 : ∃ (s : State) (i : Fin 16), s.yardRuns = true ∧ (s.slot ↑i).phase = SlotPhase.running ∧ (s.slotCfg
    ↑i).cycleMax ≤ (s.slot ↑i).cycles :=
  ⟨code up 3 [0] { phase := .running, cycles := 4096 }, 3, by decide +kernel⟩

theorem witness_YardDataAndUnits_0 : ∃ (s : State) (i : Fin 16) (w : Nat), s.atInstr i 3 2 w ∧ regsOk w = true ∧ s.dataAddr (↑i) w % 4
    = 0 ∧ inData (s.dataAddr (↑i) w) 4 = true :=
  ⟨code up 3 [0x03120004] { phase := .running, g := [(2, 0x8000)] }, 3, 0x03120004, by decide +kernel⟩

theorem witness_YardDataAndUnits_1 : ∃ (s : State) (i : Fin 16) (w : Nat), s.atInstr i 4 2 w ∧ regsOk w = true ∧ s.dataAddr (↑i) w % 4
    = 0 ∧ inData (s.dataAddr (↑i) w) 4 = true :=
  ⟨code up 3 [0x0412FFFC] { phase := .running, g := [(2, 0x20000), (1, 77)], taint := 1 }, 3, 0x0412FFFC, by decide +kernel⟩

theorem witness_YardDataAndUnits_2 : ∃ (s : State) (i : Fin 16) (w : Nat), s.atInstr i 4 0 w ∧ regsOk w = true ∧ (s.dataAddr (↑i) w %
    4 ≠ 0 ∨ inData (s.dataAddr (↑i) w) 4 = false) :=
  ⟨code up 3 [0x04120000] { phase := .running, g := [(2, 0x20000)] }, 3, 0x04120000, by decide +kernel⟩

theorem witness_YardDataAndUnits_3 : ∃ (s : State) (i : Fin 16) (p : Fin 8) (w : Nat), s.atInstr i 2 2 w ∧ dOf w = ↑p ∧ sOf w = 0 ∧
    immOf w < 8 ∧ s.portReady ↑p = true ∧ s.portIdle ↑p = true ∧ s.scriptOf (↑p) (immOf w) ≠ [] :=
  ⟨({ (code up 3 [0x02700007]) with head := { up.head with scripts := [(63, [0])] } } : State).setAt F.SPT_PORTn_STATUS_STATE 7 3,
      3, 7, 0x02700007, by decide +kernel⟩

theorem witness_YardDataAndUnits_4 : ∃ (s : State) (i : Fin 16) (p : Fin 8) (w : Nat), s.atInstr i 2 2 w ∧ dOf w = ↑p ∧ sOf w = 0 ∧
    immOf w < 8 ∧ (s.portReady ↑p = false ∨ s.portIdle ↑p = false) :=
  ⟨code up 3 [0x02700007], 3, 7, 0x02700007, by decide +kernel⟩

theorem witness_YardDataAndUnits_5 : ∃ (s : State) (i : Fin 16) (w : Nat), s.atInstr i 15 ((s.featDesc (↑i) (immOf w)).cycles (dOf w))
    w ∧ dOf w ≤ 5 ∧ sOf w = 0 ∧ immOf w < 8 ∧ (s.featDesc (↑i) (immOf w)).ok (dOf w) = true ∧ (s.featDesc (↑i) (immOf w)).inSpace (dOf
    w) = true :=
  ⟨(code up 3 [0x0F300000]).yardWrite 0x7180 ([0, 0x80, 0, 0, 0, 0x90, 0, 0, 0, 0xA0, 0, 0, 2, 0, 1, 0]) 0, 3, 0x0F300000,
      by decide +kernel⟩

theorem witness_YardDataAndUnits_6 : ∃ (s : State) (i : Fin 16), s.yardRuns = true ∧ s.yard.featUnit = some ↑i ∧ (s.slot ↑i).phase =
    SlotPhase.operating false :=
  ⟨{ ((code up 3 [0x0F300000] { phase := .operating false }).yardWrite 0x7180 ([0, 0x80, 0, 0, 0, 0x90, 0, 0, 0, 0xA0, 0, 0, 2, 0, 1, 0]) 0) with yard := { (code up 3 [0x0F300000] { phase := .operating false }).yard with featUnit := some 3 } },
      3, by decide +kernel⟩

theorem witness_YardDataAndUnits_7 : ∃ (s : State) (i : Fin 16) (w : Nat) (base : Nat) (layers : Nat), s.atInstr i 16 (netCycles s.mem
    base layers) w ∧ dOf w = 0 ∧ sOf w < 8 ∧ s.slotNet ↑i = some (base, layers) ∧ inData (BitVec.toNat ((s.slot ↑i).gReg (sOf w)))
    (netIn s.mem base) = true ∧ inData (immOf w) (netOut s.mem base layers) = true :=
  ⟨{ (code up 3 [0x10008000] { phase := .running, g := [(0, 0x8000)] } { net := 0 }) with yard := { (code up 3 [0x10008000] { phase := .running, g := [(0, 0x8000)] } { net := 0 }).yard with netUnit := some 4 } },
      3, 0x10008000, 0x20000, 1, by decide +kernel⟩

theorem witness_YardDataAndUnits_8 : ∃ (s : State) (i : Fin 16) (k : Fin 16), k < i ∧ (s.slot ↑k).phase = SlotPhase.running :=
  ⟨code up 3 [0x12000000], 4, 3, by decide +kernel⟩

theorem witness_YardDataAndUnits_9 : ∃ (s : State) (i : Fin 16) (base : Nat) (layers : Nat), s.yardRuns = true ∧ s.yard.netUnit = some
    ↑i ∧ (s.slot ↑i).phase = SlotPhase.operating true ∧ s.slotNet ↑i = some (base, layers) :=
  ⟨{ (code up 3 [0x10008000] { phase := .operating true, g := [(0, 0x8000)] } { net := 0 }) with yard := { (code up 3 [0x10008000] { phase := .operating true, g := [(0, 0x8000)] } { net := 0 }).yard with netUnit := some 3 } },
      3, 0x20000, 1, by decide +kernel⟩

theorem witness_YardVotesAndWakes_0 : ∃ (s : State) (i : Fin 16) (w : Nat), s.atInstr i 17 1 w ∧ dOf w ≤ 2 ∧ sOf w = 0 ∧ immOf w < 24
    :=
  ⟨code up 3 [0x11200017], 3, 0x11200017, by decide +kernel⟩

theorem witness_YardVotesAndWakes_1 : ∃ (s : State) (i : Fin 16) (w : Nat), s.atInstr i 18 3 w ∧ onlyOp w = true ∧ s.queued < 64 ∧
    s.yard.stalled = [] :=
  ⟨(code up 3 [0x12000000] { phase := .running } { wakeVotes := 0x800000000002 }).set F.YRD_WAKE_QUEUED 63, 3, 0x12000000,
      by decide +kernel⟩

theorem witness_YardVotesAndWakes_2 : ∃ (s : State) (i : Fin 16) (w : Nat), s.atInstr i 18 3 w ∧ onlyOp w = true ∧ (64 ≤ s.queued ∨
    s.yard.stalled ≠ []) :=
  ⟨(code up 3 [0x12000000] { phase := .running }).set F.YRD_WAKE_QUEUED 64, 3, 0x12000000, by decide +kernel⟩

theorem witness_YardVotesAndWakes_3 : ∃ (s : State) (i : Fin 16) (rest : List Nat), s.yardRuns = true ∧ (s.slot ↑i).phase =
    SlotPhase.wakeStalled ∧ s.queued < 64 ∧ s.yard.stalled = ↑i :: rest :=
  ⟨(code { up with yard := { up.yard with stalled := [3] } } 3 [0x12000000] { phase := .wakeStalled }).set F.YRD_WAKE_QUEUED 63, 3, [], by decide +kernel⟩

theorem witness_YardVotesAndWakes_4 : ∃ (s : State) (i : Nat) (off : Nat), s.coreOn = true ∧ s.isUp = true ∧ 0 < s.queued ∧ s.queued ≤
    64 ∧ fieldAt (s.yardRead (24576 + 64 * s.yard.wakeRd) 64) 14 2 = i ∧ i < 2048 ∧ s.armed i = true ∧ s.getAt F.RNG_RINGi_CFG_OWNER i
    = 0 ∧ ringDiff (s.pi i) (s.di i) < s.ringSize i ∧ s.entryAt i (s.pi i) = some (Mem.loft, off) ∧ s.steadyAt (12 + off / 4194304) 2
    = true :=
  ⟨setAts (up.set F.YRD_WAKE_QUEUED 1) [(F.RNG_RINGi_CFG_ARMED, 0, 1), (F.RNG_RINGi_BASE_BASE, 0, 0x40000000), (F.RNG_RINGi_PI_PI, 0, 131071), (F.RNG_RINGi_DI_DI, 0, 131071)],
      0, 960, by decide +kernel⟩

theorem witness_YardVotesAndWakes_5 : ∃ (s : State) (i : Fin 16) (w : Nat), s.atInstr i 19 1 w ∧ dOf w < 4 ∧ sOf w = 0 ∧ immOf w = 0 ∧
    s.ChipQuiet ∧ s.pwr.state < dOf w ∧ (dOf w = 3 → s.flag F.SPN_STATUS_XT_STOPPED = false) :=
  ⟨code up 3 [0x13300000], 3, 0x13300000, by decide +kernel⟩

theorem witness_YardVotesAndWakes_6 : ∃ (s : State) (v : Word), s.reaches Master.steward = true :=
  ⟨(code up 3 [0] { phase := .idle, wakes := [(23, 2)] }).setAt F.YRD_SLOTn_TRIG_FLAGS 3 4, 8, by decide +kernel⟩

theorem witness_GateAndLog_0 : ∃ (s : State) (i : Fin 16) (w : Nat) (a : Nat) (n : Nat) (h : Nat),
    let p := { bytes := s.yardRead a n, taint := (s.slot ↑i).taint ||| s.mem.taint Mem.yard a n, adapted := false, yard := true, slot
        := ↑i, remapped := false }
    s.atInstr i 20 (if n = 64 then 20 else 12) w ∧ dOf w = 0 ∧ sOf w < 8 ∧ immOf w = 0 ∧ a = BitVec.toNat ((s.slot ↑i).gReg (sOf w)) ∧
      n = recLen (byteAt (s.yardRead a 1) 0) ∧ inData a 1 = true ∧ inData a n = true ∧ s.gateOpen = true ∧ s.headOf p = some h ∧
      s.gateStep p h = 7 :=
  ⟨(code (headed 35 3) 3 [0x14000000] { phase := .running, g := [(0, 0x8000)] }).yardWrite 0x8000 rec1 0, 3, 0x14000000, 0x8000,
      32, 35, by decide +kernel⟩

theorem witness_GateAndLog_1 : ∃ (s : State) (i : Fin 16) (w : Nat) (a : Nat) (n : Nat), s.atInstr i 20 (if n = 64 then 20 else 12) w
    ∧ dOf w = 0 ∧ sOf w < 8 ∧ immOf w = 0 ∧ a = BitVec.toNat ((s.slot ↑i).gReg (sOf w)) ∧ n = recLen (byteAt (s.yardRead a 1) 0) ∧
    inData a 1 = true ∧ inData a n = true ∧ s.gateOpen = false :=
  ⟨({ (code up 3 [0x14000000] { phase := .running, g := [(0, 0x8000)] }) with host := { up.host with freed := 192 } } : State).yardWrite 0x8000 rec1 0,
      3, 0x14000000, 0x8000, 32, by decide +kernel⟩

theorem witness_GateAndLog_2 : ∃ (s : State) (hd : Fin 48) (st : Nat) (h : Nat) (t0 : TileJob),
    let p : Presented :=
      { bytes := t0.record, taint := t0.recTaint, adapted := t0.adapted, yard := false, slot := hd, remapped := s.remapped t0.ring }
    s.gateOpen = true ∧ s.isUp = true ∧ s.coreOn = true ∧
      (List.range 96).find? (fun x => match (s.stall x).tile with
        | some t => t.slot == some hd.val && t.record != []
        | none => false) = some st ∧
      (s.stall st).tile = some t0 ∧ s.endsTile t0 t0.pos = true ∧ s.headOf p = some h ∧ s.gateStep p h = 7 :=
  ⟨{ headed 7 4 with fab := { up.fab with stalls := [(95, { tile := some { job with slot := some 4, record := rec1 } })] } }, 4, 95, 7, { job with slot := some 4, record := rec1 }, by decide +kernel⟩

theorem witness_GateAndLog_5 : ∃ (s : State) (i : Fin 48), s.getAt F.GATE_HEADi_CFG_ARMED ↑i = 1 :=
  ⟨headed 47 3, 47, by decide +kernel⟩

theorem witness_GateAndLog_6 : ∃ (s : State) (e : Event) (rest : List Event), s.span.running = true ∧ s.log.intake = e :: rest :=
  ⟨({ up with log := { up.log with intake := [⟨5, 6, 7, 8⟩] } } : State).set F.LOG_NEXT_INDEX 255, ⟨5, 6, 7, 8⟩, [],
      by decide +kernel⟩

theorem witness_PenSlots_0 : ∃ (s : State) (p : Fin 2) (vc : BitVec 2) (h : PktHdr), s.camReady ↑p = true ∧ s.headerFits (↑p) vc h ∧
    s.flag F.PEN_STATUS_WIPING = false ∧ (s.cam ↑p).frame = none ∧ (s.cam ↑p).next < 4 ∧ s.penSlot (↑p) (s.cam ↑p).next = 0 :=
  ⟨camera 1, 1, 0, .good, by decide +kernel⟩

theorem witness_PenSlots_1 : ∃ (s : State) (p : Fin 2) (vc : BitVec 2) (h : PktHdr), s.camReady ↑p = true ∧ s.headerFits (↑p) vc h ∧
    (s.cam ↑p).frame = none ∧ s.penSlot (↑p) (s.cam ↑p).next ≠ 0 :=
  ⟨(camera 1).setPenSlot 1 0 2, 1, 0, .good, by decide +kernel⟩

theorem witness_PenSlots_2 : ∃ (s : State) (p : Fin 2) (vc : BitVec 2) (h : PktHdr) (f : FrameIn), s.camReady ↑p = true ∧ s.headerFits
    (↑p) vc h ∧ s.flag F.PEN_STATUS_WIPING = false ∧ (s.cam ↑p).frame = some f ∧ f.slot < 4 ∧ (s.cam ↑p).next < 4 ∧ f.slot ≠ (s.cam
    ↑p).next ∧ s.penSlot (↑p) (s.cam ↑p).next = 0 :=
  ⟨framing 0 1, 0, 0, .good, ⟨0, 1⟩, by decide +kernel⟩

theorem witness_PenSlots_3 : ∃ (s : State) (p : Fin 2) (vc : BitVec 2) (h : PktHdr) (f : FrameIn), s.camReady ↑p = true ∧ s.headerFits
    (↑p) vc h ∧ (s.cam ↑p).frame = some f ∧ f.slot < 4 ∧ f.lines = s.getAt F.CAM_PORTn_SIZE_HEIGHT ↑p ∧ s.TallyQuiet (s.getAt
    F.PEN_CAMn_CFG_TALLY ↑p) :=
  ⟨framing 0 1, 0, 0, .good, ⟨0, 1⟩, by decide +kernel⟩

theorem witness_PenSlots_4 : ∃ (s : State) (p : Fin 2) (vc : BitVec 2) (h : PktHdr) (f : FrameIn), s.camReady ↑p = true ∧ s.headerFits
    (↑p) vc h ∧ (s.cam ↑p).frame = some f ∧ f.slot < 4 ∧ f.lines ≠ s.getAt F.CAM_PORTn_SIZE_HEIGHT ↑p :=
  ⟨framing 0 0, 0, 0, .good, ⟨0, 0⟩, by decide +kernel⟩

theorem witness_PenSlots_5 : ∃ (s : State) (p : Fin 2) (k : Fin 4), s.penSlot ↑p ↑k = 2 :=
  ⟨(camera 0).setPenSlot 0 3 2, 0, 3, by decide +kernel⟩

theorem witness_PenSlots_6 : ∃ (s : State) (p : Fin 2) (k : Fin 4), s.penSlot ↑p ↑k = 3 ∧ s.flag F.PEN_STATUS_WIPING = false :=
  ⟨({ (camera 0) with mem := { up.mem with pen := [(0x2FFFF, 1), (0x30000, 2), (0x40000, 3)] } } : State).setPenSlot 0 3 3, 0, 3,
      by decide +kernel⟩

theorem witness_PenSlots_7 : ∃ (s : State), s.flag F.PEN_STATUS_WIPING = true :=
  ⟨({ (framing 0 0) with mem := { up.mem with pen := [(0x1FFFFF, 1)] } } : State).set F.PEN_STATUS_WIPING 1, by decide +kernel⟩

theorem witness_CameraPackets_0 : ∃ (s : State) (p : Fin 2) (k : CamPacket) (f : FrameIn), s.camReady ↑p = true ∧ s.headerFits (↑p)
    k.vc k.hdr ∧ (s.isDvp ↑p = true ∨ k.dt.toNat = dtCode (s.getAt F.CAM_PORTn_CFG_DT ↑p) ∧ k.crcOk = true) ∧ (s.cam ↑p).frame = some
    f ∧ k.payload.length = s.lineBytes ↑p ∧ f.lines < s.getAt F.CAM_PORTn_SIZE_HEIGHT ↑p :=
  ⟨framing 1 0, 1, line, ⟨0, 0⟩, by decide +kernel⟩

theorem witness_CameraPackets_1 : ∃ (s : State) (p : Fin 2) (k : CamPacket), s.camReady ↑p = true ∧ s.headerFits (↑p) k.vc k.hdr ∧
    s.isDvp ↑p = false ∧ k.dt.toNat ≠ dtCode (s.getAt F.CAM_PORTn_CFG_DT ↑p) :=
  ⟨framing 1 0, 1, { line with dt := 0x2B }, by decide +kernel⟩

theorem witness_CameraPackets_2 : ∃ (s : State) (p : Fin 2) (k : CamPacket) (f : FrameIn), s.camReady ↑p = true ∧ s.headerFits (↑p)
    k.vc k.hdr ∧ s.isDvp ↑p = false ∧ k.dt.toNat = dtCode (s.getAt F.CAM_PORTn_CFG_DT ↑p) ∧ k.crcOk = false ∧ (s.cam ↑p).frame = some
    f ∧ f.slot < 4 :=
  ⟨framing 1 0, 1, { line with crcOk := false }, ⟨0, 0⟩, by decide +kernel⟩

theorem witness_CameraPackets_3 : ∃ (s : State) (p : Fin 2) (k : CamPacket) (f : FrameIn), s.camReady ↑p = true ∧ s.headerFits (↑p)
    k.vc k.hdr ∧ (s.isDvp ↑p = true ∨ k.dt.toNat = dtCode (s.getAt F.CAM_PORTn_CFG_DT ↑p) ∧ k.crcOk = true) ∧ (s.cam ↑p).frame = some
    f ∧ f.slot < 4 ∧ k.payload.length ≠ s.lineBytes ↑p :=
  ⟨framing 1 0, 1, { line with payload := [1, 2, 3] }, ⟨0, 0⟩, by decide +kernel⟩

theorem witness_CameraPackets_4 : ∃ (s : State) (p : Fin 2) (k : CamPacket) (f : FrameIn), s.camReady ↑p = true ∧ s.isDvp ↑p = false ∧
    k.hdr = PktHdr.fatal ∧ (s.cam ↑p).frame = some f ∧ f.slot < 4 :=
  ⟨framing 1 0, 1, { line with hdr := .fatal }, ⟨0, 0⟩, by decide +kernel⟩

theorem witness_CameraPackets_5 : ∃ (s : State) (p : Fin 2) (f : FrameIn), (s.cam ↑p).frame = some f ∧ f.slot < 4 :=
  ⟨framing 1 0, 1, ⟨0, 0⟩, by decide +kernel⟩

theorem witness_CameraIndicator_0 : ∃ (s : State), s.camWants 0 = true ∨ s.camWants 1 = true :=
  ⟨camera 1, by decide +kernel⟩

theorem witness_CameraIndicator_1 : ∃ (s : State), s.flag F.CAM_STATUS_LED_ON = true ∧ s.head.ledHold = false ∧ (s.camWants 0 = true ∨
    s.camWants 1 = true) :=
  ⟨(camera 1).set F.CAM_STATUS_LED_ON 1, by decide +kernel⟩

theorem witness_CameraIndicator_2 : ∃ (s : State), s.flag F.CAM_STATUS_CAM_EN = true :=
  ⟨(camera 1).set F.CAM_STATUS_CAM_EN 1, by decide +kernel⟩

theorem witness_CameraIndicator_3 : ∃ (s : State), s.camWants 0 = false ∧ s.camWants 1 = false :=
  ⟨up, by decide +kernel⟩

theorem witness_CameraIndicator_4 : ∃ (s : State) (k : LedPath), s.flag F.CAM_STATUS_LED_ON = true ∧ k ≠ LedPath.good ∧ (s.cam
    0).frame = none ∧ (s.cam 1).frame = none :=
  ⟨(camera 1).set F.CAM_STATUS_LED_ON 1, .shorted, by decide +kernel⟩

theorem witness_CameraIndicator_5 : ∃ (s : State) (k : LedPath) (f : FrameIn), s.flag F.CAM_STATUS_LED_ON = true ∧ k ≠ LedPath.good ∧
    (s.cam 0).frame = some f ∧ f.slot < 4 ∧ (s.cam 1).frame = none :=
  ⟨(framing 0 0).set F.CAM_STATUS_LED_ON 1, .openPath, ⟨0, 0⟩, by decide +kernel⟩

theorem witness_CameraIndicator_6 : ∃ (s : State), s.head.ledHold = true ∧ s.bankOk 0 = true :=
  ⟨{ (camera 1) with head := { (camera 1).head with ledHold := true } }, by decide +kernel⟩

theorem witness_EarClocks_0 : ∃ (s : State), s.wantClk0 = true ∧ s.earOn = false ∧ (s.ear.clk0 = false ∨ s.flag F.EAR_STATUS_CLK0_FULL
    = true) :=
  ⟨{ listening 3 with pwr := { up.pwr with level := elPut 0 up.pwr.level 19 0 } } |>.set F.EAR_STATUS_CLK0_FULL 1, by decide +kernel⟩

theorem witness_EarClocks_1 : ∃ (s : State), s.wantClk0 = true ∧ s.earOn = true ∧ (s.ear.clk0 = false ∨ s.flag F.EAR_STATUS_CLK0_FULL
    = false) :=
  ⟨listening 3, by decide +kernel⟩

theorem witness_EarClocks_2 : ∃ (s : State), s.wantClk1 = true ∧ s.ear.clk1 = false :=
  ⟨{ (listening 7) with ear := { (listening 7).ear with clk1 := false } }, by decide +kernel⟩

theorem witness_EarClocks_4 : ∃ (s : State), s.earLive = true ∧ s.earOn = true ∧ s.flag F.EAR_TDM_CFG_CONTROLLER = false :=
  ⟨listening 3, by decide +kernel⟩

theorem witness_StreamFrames_0 : ∃ (s : State) (m : Fin 16) (st : Stream) (xs : List Word), s.streams (↑m) st = true ∧ xs.length =
    frameLen st ∧ s.winOpen (↑m) st = false :=
  ⟨listening 15, 15, .hq16, List.replicate 16 7, by decide +kernel⟩

theorem witness_StreamFrames_1 : ∃ (s : State) (m : Fin 16) (st : Stream) (xs : List Word),
    let n := elGet 0 s.ear.seq (3 * ↑m + streamNo st)
    let a := s.winAt (↑m) st n
    s.streams (↑m) st = true ∧ xs.length = frameLen st ∧ s.winOpen (↑m) st = true ∧ s.steadyAt (12 + a / 4194304) 2 = true :=
  ⟨(listening 15).setAt F.EAR_MICm_CFG_WIN_SEL 15 2, 15, .hq16, List.replicate 16 7, by decide +kernel⟩

theorem witness_StreamFrames_2 : ∃ (s : State) (m : Fin 16) (st : Stream) (xs : List Word), s.streams (↑m) st = true ∧ xs.length =
    frameLen st ∧ s.winOpen (↑m) st = true ∧ s.steadyAt (12 + s.winAt (↑m) st (elGet 0 s.ear.seq (3 * ↑m + streamNo st)) / 4194304) 2
    = false ∧ s.failed (12 + s.winAt (↑m) st (elGet 0 s.ear.seq (3 * ↑m + streamNo st)) / 4194304) = true :=
  ⟨setAts { (listening 3) with pwr := { up.pwr with level := elPut 0 up.pwr.level 12 0 } } [(F.EAR_MICm_CFG_WIN_SEL, 3, 1), (F.PWR_FAILED_FAILED, 0, 4096)],
      3, .lp16, List.replicate 16 7, by decide +kernel⟩

theorem witness_RecogniserFrames_0 : ∃ (s : State) (m : Fin 16), s.yardRuns = true ∧ s.patNames ↑m = true :=
  ⟨setAts (listening 15) [(F.EAR_PATp_CFG_FLAGS, 7, 1), (F.EAR_PATp_CFG_MIC, 7, 15)], 15, by decide +kernel⟩

theorem witness_RecogniserFrames_3 : ∃ (s : State) (m : Fin 16), s.patNames ↑m = false :=
  ⟨listening 15, 15, by decide +kernel⟩

theorem witness_RecogniserFrames_4 : ∃ (s : State) (m : Fin 16), elGet [] s.ear.hist ↑m = List.replicate 400 (some 0) :=
  ⟨{ listening 15 with ear := { up.ear with hist := [(15, List.replicate 400 (some 0))] } }, 15, by decide +kernel⟩

theorem witness_RecogniserFrames_5 : ∃ (s : State) (p : Fin 8) (x : List Byte), s.yardRuns = true ∧ s.getAt F.EAR_PATp_STAT_STATE ↑p =
    1 ∧ s.patInput ↑p = some x ∧ s.patHit (↑p) x = false :=
  ⟨pattern.setAt F.EAR_PATp_CFG_THRESH 7 1, 7, [5], by decide +kernel⟩

theorem witness_RecogniserFrames_6 : ∃ (s : State) (p : Fin 8) (x : List Byte), s.yardRuns = true ∧ s.getAt F.EAR_PATp_STAT_STATE ↑p =
    1 ∧ s.patInput ↑p = some x ∧ s.patHit (↑p) x = true ∧ elGet 0 s.ear.hits ↑p < s.getAt F.EAR_PATp_CFG_PERSIST_M1 ↑p :=
  ⟨pattern.setAt F.EAR_PATp_CFG_PERSIST_M1 7 1, 7, [5], by decide +kernel⟩

theorem witness_RecogniserFrames_7 : ∃ (s : State) (p : Fin 8) (x : List Byte), s.yardRuns = true ∧ s.getAt F.EAR_PATp_STAT_STATE ↑p =
    1 ∧ s.patInput ↑p = some x ∧ s.patHit (↑p) x = true ∧ s.getAt F.EAR_PATp_CFG_PERSIST_M1 ↑p ≤ elGet 0 s.ear.hits ↑p :=
  ⟨pattern, 7, [5], by decide +kernel⟩

theorem witness_RecogniserFrames_8 : ∃ (s : State) (p : Fin 8), s.getAt F.EAR_PATp_STAT_STATE ↑p = 2 :=
  ⟨up.setAt F.EAR_PATp_STAT_STATE 7 2, 7, by decide +kernel⟩

theorem witness_PreRoll_0 : ∃ (s : State) (m : Fin 16),
    let codec := s.get F.EAR_PREROLL_CFG_CODEC
    let e := elGet { } s.ear.enc ↑m
    s.codes ↑m = true ∧ blockLen codec ≤ e.samples.length :=
  ⟨coding, 0, by decide +kernel⟩

theorem witness_PreRoll_1 : ∃ (s : State) (v : Word), s.reaches Master.steward = true ∧ F.EAR_PREROLL_CMD_KEY.of v = 21836 ∧
    BitVec.getLsbD v 0 = true :=
  ⟨coded, 0x554C0001, by decide +kernel⟩

theorem witness_PreRoll_2 : ∃ (s : State) (v : Word), s.coreOn = true ∧ (F.EAR_PREROLL_CMD_KEY.of v ≠ 21836 ∨ BitVec.getLsbD v 0 =
    false) :=
  ⟨coded, 0x554C0000, by decide +kernel⟩

theorem witness_PreRoll_3 : ∃ (s : State), s.flag F.EAR_PREROLL_CFG_AUTO_UNLOAD = true ∧ s.pwr.state < 2 ∧ s.ear.coding = false ∧
    s.steadyAt (12 + s.get F.EAR_PREROLL_DST_BASE_PLOT / 1024) 2 = true ∧ s.flag F.EAR_PREROLL_STATUS_SESSION = true :=
  ⟨coded, by decide +kernel⟩

theorem witness_PreRoll_4 : ∃ (s : State),
    let base := 4096 * s.get F.EAR_PREROLL_DST_BASE_PLOT
    let bs := List.take (16777216 - base) (List.map s.unloadBlock (List.range (s.get F.EAR_PREROLL_STATUS_BLOCKS))).flatten
    s.flag F.EAR_PREROLL_STATUS_UNLOADING = true ∧ s.flag F.EAR_PREROLL_STATUS_SESSION = true ∧ s.ear.pendEnd = 0 ∧ s.TallyQuiet
      (s.get F.EAR_PREROLL_DST_TALLY) ∧ s.tally (s.get F.EAR_PREROLL_DST_TALLY) < 2 ^ 32 - 1 ∧ s.steadyAt (12 + base / 4194304) 2 =
      true ∧ s.steadyAt (12 + (base + (bs.length - 1)) / 4194304) 2 = true :=
  ⟨coded.set F.EAR_PREROLL_STATUS_UNLOADING 1, by decide +kernel⟩

theorem witness_PreRoll_5 : ∃ (s : State), s.pwr.state ≠ 2 ∧ s.ear.coding = false ∧ s.flag F.EAR_PREROLL_STATUS_SESSION = true ∧
    s.flag F.EAR_PREROLL_STATUS_UNLOADING = false :=
  ⟨coded, by decide +kernel⟩

theorem witness_PreRoll_6 : ∃ (s : State), s.pwr.state ≠ 2 ∧ s.ear.coding = false ∧ s.flag F.EAR_PREROLL_STATUS_UNLOADING = true :=
  ⟨coded.set F.EAR_PREROLL_STATUS_UNLOADING 1, by decide +kernel⟩

theorem witness_MuteAndMicvdd_0 : ∃ (s : State), s.flag F.EAR_STATUS_MUTED = false :=
  ⟨up.set F.EAR_STATUS_MUTED 0, by decide +kernel⟩

theorem witness_MuteAndMicvdd_1 : ∃ (s : State), s.flag F.EAR_STATUS_MUTED = true :=
  ⟨up.set F.EAR_STATUS_MUTED 1, by decide +kernel⟩

theorem witness_MuteAndMicvdd_2 : ∃ (s : State), s.bankOk 0 = true ∧ s.flag F.EAR_STATUS_MUTED = true :=
  ⟨up.set F.EAR_STATUS_MUTED 1, by decide +kernel⟩

theorem witness_MuteAndMicvdd_3 : ∃ (s : State), s.flag F.EAR_STATUS_UNMUTING = true :=
  ⟨up.set F.EAR_STATUS_UNMUTING 1, by decide +kernel⟩

theorem witness_MuteAndMicvdd_4 : ∃ (s : State) (k : LedPath), s.bankOk 0 = true ∧ k ≠ LedPath.good ∧ s.flag F.EAR_STATUS_LED_FAULT =
    false ∧ s.flag F.EAR_STATUS_MUTED = true :=
  ⟨up.set F.EAR_STATUS_MUTED 1, .openPath, by decide +kernel⟩

theorem witness_MuteAndMicvdd_5 : ∃ (s : State) (k : LedPath), s.bankOk 0 = true ∧ k ≠ LedPath.good ∧ s.flag F.EAR_STATUS_LED_FAULT =
    false ∧ s.flag F.EAR_STATUS_MUTED = false :=
  ⟨up.set F.EAR_STATUS_MUTED 0, .shorted, by decide +kernel⟩

theorem witness_MuteAndMicvdd_6 : ∃ (s : State), s.bankOk 0 = true ∧ s.flag F.EAR_STATUS_LED_FAULT = true :=
  ⟨up.set F.EAR_STATUS_LED_FAULT 1, by decide +kernel⟩

theorem witness_MuteAndMicvdd_7 : ∃ (s : State), s.flag F.EAR_STATUS_MICVDD_ON = true :=
  ⟨up.set F.EAR_STATUS_MICVDD_ON 1, by decide +kernel⟩

theorem witness_MicCalibration_0 : ∃ (s : State) (m : Fin 16) (hq : Bool), s.isUp = true ∧ s.coreOn = true ∧ s.pwr.state < 2 ∧
    s.earLive = true ∧ s.micOn ↑m = true ∧ s.getAt F.EAR_MICm_STAT_CAL_STATE ↑m ≠ 1 ∧ s.getAt F.EAR_MICm_STAT_CAL_STATE ↑m ≠ 2 :=
  ⟨listening 15, 15, true, by decide +kernel⟩

theorem witness_MicCalibration_1 : ∃ (s : State) (m : Fin 16) (rms : Word) (peak : Word), s.getAt F.EAR_MICm_STAT_CAL_STATE ↑m = 1 ∧
    s.calsRun = true ∧ belowDb (BitVec.toNat rms) (s.get F.EAR_CAL_CFG_QUIET_DBFS) false = true ∧ belowDb (BitVec.toNat peak) (s.get
    F.EAR_CAL_CFG_QUIET_DBFS) true = true :=
  ⟨sets (up.setAt F.EAR_MICm_STAT_CAL_STATE 15 1) [(F.EAR_CAL_CFG_QUIET_DBFS, 40)], 15, 21474836, 67909395, by decide +kernel⟩

theorem witness_MicCalibration_2 : ∃ (s : State) (m : Fin 16) (rms : Word) (peak : Word), s.getAt F.EAR_MICm_STAT_CAL_STATE ↑m = 1 ∧
    s.calsRun = true ∧ (belowDb (BitVec.toNat rms) (s.get F.EAR_CAL_CFG_QUIET_DBFS) false = false ∨ belowDb (BitVec.toNat peak) (s.get
    F.EAR_CAL_CFG_QUIET_DBFS) true = false) :=
  ⟨sets (up.setAt F.EAR_MICm_STAT_CAL_STATE 15 1) [(F.EAR_CAL_CFG_QUIET_DBFS, 40)], 15, 21474836, 67909396, by decide +kernel⟩

theorem witness_MicCalibration_3 : ∃ (s : State) (m : Fin 16) (x : MicMeas),
    let dc := micDc x (Config.freeWord s.free)
    let gain := s.micGain (↑m) x (Config.freeWord (s.free + 1))
    s.getAt F.EAR_MICm_STAT_CAL_STATE ↑m = 2 ∧ s.calsRun = true ∧ micPlausible dc gain = true :=
  ⟨(listening 15).setAt F.EAR_MICm_STAT_CAL_STATE 15 2, 15, { sum := 655 * 65536 * 16000, count := 16000, levels := [(15, 1000)] }, by decide +kernel⟩

theorem witness_MicCalibration_4 : ∃ (s : State) (m : Fin 16) (x : MicMeas), s.getAt F.EAR_MICm_STAT_CAL_STATE ↑m = 2 ∧ s.calsRun =
    true ∧ micPlausible (micDc x (Config.freeWord s.free)) (s.micGain (↑m) x (Config.freeWord (s.free + 1))) = false :=
  ⟨(listening 15).setAt F.EAR_MICm_STAT_CAL_STATE 15 2, 15, { sum := 656 * 65536 * 16000, count := 16000, levels := [(15, 1000)] }, by decide +kernel⟩

theorem witness_MicCalibration_5 : ∃ (v : Int) (n : Nat) (l : List (Fin 16 × Word)) (pick : Word), 0 < n :=
  ⟨-655, 16000, [], 0, by decide +kernel⟩

theorem witness_MicCalibration_7 : ∃ (s : State) (m : Fin 16) (rms : Word) (peak : Word) (x : MicMeas), s.calsRun = false :=
  ⟨watch, 15, 0, 0, { sum := 0, count := 1, levels := [] }, by decide +kernel⟩

theorem witness_ScriptSteps_0 : ∃ (s : State) (p : Fin 8) (r : ScriptRun) (w : Nat), s.atStep (↑p) 1 ScriptPhase.next r w :=
  ⟨scripted 7 [0x0101000000000001, 0] { script := 0 }, 7, { script := 0 }, 0x0101000000000001, by decide +kernel⟩

theorem witness_ScriptSteps_1 : ∃ (s : State) (p : Fin 8) (r : ScriptRun) (w : Nat), s.atStep (↑p) 2 ScriptPhase.next r w :=
  ⟨scripted 7 [0x02010001000003FF, 0] { script := 0 }, 7, { script := 0 }, 0x02010001000003FF, by decide +kernel⟩

theorem witness_ScriptSteps_2 : ∃ (s : State) (p : Fin 8) (r : ScriptRun) (w : Nat), s.atStep (↑p) 4 ScriptPhase.next r w :=
  ⟨scripted 7 [0x0400000000000001, 0] { script := 0 }, 7, { script := 0 }, 0x0400000000000001, by decide +kernel⟩

theorem witness_ScriptSteps_3 : ∃ (s : State) (p : Fin 8) (r : ScriptRun) (w : Nat) (ack : Bool) (d : List Byte), (ack = true ∨
    s.portMode ↑p = 2) ∧ s.atStep (↑p) 1 ScriptPhase.bus r w ∧ r.step + 1 < (s.scriptOf (↑p) r.script).length :=
  ⟨scripted 7 [0x0101000000000001, 0] { script := 0, phase := .bus }, 7, { script := 0, phase := .bus }, 0x0101000000000001, true, [], by decide +kernel⟩

theorem witness_ScriptSteps_4 : ∃ (s : State) (p : Fin 8) (r : ScriptRun) (w : Nat) (ack : Bool) (d : List Byte), (ack = true ∨
    s.portMode ↑p = 2) ∧ s.atStep (↑p) 2 ScriptPhase.bus r w ∧ d.length = bitsOf w 32 10 ∧ r.step + 1 < (s.scriptOf (↑p)
    r.script).length :=
  ⟨scripted 7 [0x02010001000003FF, 0] { script := 0, phase := .bus }, 7, { script := 0, phase := .bus }, 0x02010001000003FF, true, [9], by decide +kernel⟩

theorem witness_ScriptSteps_5 : ∃ (s : State) (p : Fin 8) (r : ScriptRun) (w : Nat) (op : Nat) (d : List Byte), (op = 1 ∨ op = 2) ∧
    s.atStep (↑p) op ScriptPhase.bus r w ∧ s.portMode ↑p ≠ 2 ∧ r.entry = none ∧ r.init = false ∧ s.noWait (Engine.port ↑p) ∧ (s.port
    ↑p).nacks + 1 < orOne (s.get F.SPT_CFG_NACK_LIMIT) :=
  ⟨(scripted 7 [0x0101000000000001] { script := 0, phase := .bus }).set F.SPT_CFG_NACK_LIMIT 2, 7, { script := 0, phase := .bus },
      0x0101000000000001, 1, [], by decide +kernel⟩

theorem witness_ScriptSteps_6 : ∃ (s : State) (p : Fin 8) (r : ScriptRun) (w : Nat) (op : Nat) (d : List Byte), (op = 1 ∨ op = 2) ∧
    s.atStep (↑p) op ScriptPhase.bus r w ∧ s.portMode ↑p ≠ 2 ∧ r.entry = none ∧ s.railOn ↑p = true ∧ orOne (s.get
    F.SPT_CFG_NACK_LIMIT) ≤ (s.port ↑p).nacks + 1 :=
  ⟨(scripted 7 [0x0101000000000001] { script := 0, phase := .bus }).set F.SPT_CFG_NACK_LIMIT 1, 7, { script := 0, phase := .bus },
      0x0101000000000001, 1, [], by decide +kernel⟩

theorem witness_ScriptSteps_7 : ∃ (s : State) (p : Fin 8) (r : ScriptRun) (w : Nat), s.atStep (↑p) 3 ScriptPhase.next r w ∧ s.getAt
    F.SPT_PORTn_STATUS_INT_FLOAT ↑p = 0 ∧ s.portInt ↑p = false :=
  ⟨scripted 7 [0x0300000000000001], 7, { script := 0 }, 0x0300000000000001, by decide +kernel⟩

theorem witness_ScriptSteps_8 : ∃ (s : State) (p : Fin 8) (r : ScriptRun) (w : Nat), s.atStep (↑p) 3 ScriptPhase.next r w ∧ s.getAt
    F.SPT_PORTn_STATUS_INT_FLOAT ↑p = 0 ∧ s.portInt ↑p = true ∧ r.step + 1 < (s.scriptOf (↑p) r.script).length :=
  ⟨(scripted 7 [0x0300000000000001, 0]).setAt F.SPT_PORTn_STATUS_INT_ACTIVE 7 1, 7, { script := 0 }, 0x0300000000000001,
      by decide +kernel⟩

theorem witness_ScriptSteps_9 : ∃ (s : State) (p : Fin 8) (r : ScriptRun) (w : Nat), s.atStep (↑p) 3 ScriptPhase.next r w ∧ r.entry =
    none ∧ r.init = false ∧ s.noWait (Engine.port ↑p) ∧ s.getAt F.SPT_PORTn_STATUS_INT_FLOAT ↑p = 1 :=
  ⟨(scripted 7 [0x0300000000000001, 0]).setAt F.SPT_PORTn_STATUS_INT_FLOAT 7 1, 7, { script := 0 }, 0x0300000000000001,
      by decide +kernel⟩

theorem witness_ScriptSteps_10 : ∃ (s : State) (p : Fin 8) (r : ScriptRun) (w : Nat), s.atStep (↑p) 3 ScriptPhase.waitInt r w ∧
    r.entry = none ∧ r.init = false ∧ s.noWait (Engine.port ↑p) :=
  ⟨scripted 7 [0x0300000000000001, 0] { script := 0, phase := .waitInt }, 7, { script := 0, phase := .waitInt },
      0x0300000000000001, by decide +kernel⟩

theorem witness_ScriptSteps_11 : ∃ (s : State) (p : Fin 8) (r : ScriptRun) (w : Nat), s.atStep (↑p) 4 ScriptPhase.delay r w ∧ r.step +
    1 < (s.scriptOf (↑p) r.script).length :=
  ⟨scripted 7 [0x0400000000000001, 0] { script := 0, phase := .delay }, 7, { script := 0, phase := .delay }, 0x0400000000000001,
      by decide +kernel⟩

theorem witness_ScriptSteps_12 : ∃ (s : State) (p : Fin 8) (r : ScriptRun) (w : Nat), s.atStep (↑p) 4 ScriptPhase.delay r w ∧ r.entry
    = none ∧ r.init = false ∧ s.noWait (Engine.port ↑p) ∧ r.step + 1 = (s.scriptOf (↑p) r.script).length :=
  ⟨scripted 7 [0x0400000000000001] { script := 0, phase := .delay }, 7, { script := 0, phase := .delay }, 0x0400000000000001,
      by decide +kernel⟩

theorem witness_ScriptSteps_13 : ∃ (s : State) (p : Fin 8) (r : ScriptRun) (w : Nat), s.atStep (↑p) 5 ScriptPhase.next r w ∧ bitsOf w
    40 6 < (s.scriptOf (↑p) r.script).length ∧ r.step + 1 < (s.scriptOf (↑p) r.script).length ∧ bitsOf w 32 8 ≠ 0 :=
  ⟨scripted 7 [0, 0x050000FF00000000, 0] { script := 0, step := 1, looping := true, left := 1 }, 7,
      { script := 0, step := 1, looping := true, left := 1 }, 0x050000FF00000000, by decide +kernel⟩

theorem witness_ScriptOutput_0 : ∃ (s : State) (p : Fin 8) (r : ScriptRun) (w : Nat), s.atStep (↑p) 6 ScriptPhase.next r w ∧ bitOf w
    55 = false ∧ 0 < bitsOf w 32 11 ∧ r.step + 1 < (s.scriptOf (↑p) r.script).length :=
  ⟨scripted 7 [0x0600000400008FFE, 0] { script := 0 } { buf := [(0, 5)] }, 7, { script := 0 }, 0x0600000400008FFE,
      by decide +kernel⟩

theorem witness_ScriptOutput_1 : ∃ (s : State) (p : Fin 8) (r : ScriptRun) (w : Nat), s.atStep (↑p) 6 ScriptPhase.next r w ∧ bitOf w
    55 = true ∧ 0 < bitsOf w 32 11 ∧ s.steadyAt (12 + bitsOf w 0 32 / 4194304) 2 = true ∧ s.steadyAt (12 + (bitsOf w 0 32 + bitsOf w
    32 11 - 1) / 4194304) 2 = true ∧ r.step + 1 < (s.scriptOf (↑p) r.script).length :=
  ⟨scripted 7 [0x0680000400FFFFFC, 0] { script := 0 } { buf := [(0, 5)] }, 7, { script := 0 }, 0x0680000400FFFFFC,
      by decide +kernel⟩

theorem witness_ScriptOutput_2 : ∃ (s : State) (p : Fin 8) (r : ScriptRun) (w : Nat), s.atStep (↑p) 7 ScriptPhase.next r w ∧ bitsOf w
    52 4 = 0 ∧ s.coreOn = true ∧ s.TallyQuiet (bitsOf w 32 12) ∧ r.step + 1 < (s.scriptOf (↑p) r.script).length :=
  ⟨scripted 7 [0x07000FFF0000FFFF, 0], 7, { script := 0 }, 0x07000FFF0000FFFF, by decide +kernel⟩

theorem witness_ScriptOutput_3 : ∃ (s : State) (p : Fin 8) (r : ScriptRun) (w : Nat), s.atStep (↑p) 7 ScriptPhase.next r w ∧ bitsOf w
    52 4 = 0 ∧ s.coreOn = false ∧ (s.port ↑p).held = none ∧ r.step + 1 < (s.scriptOf (↑p) r.script).length :=
  ⟨{ (scripted 7 [0x07000FFF0000FFFF, 0]) with pwr := { up.pwr with level := [] } }, 7, { script := 0 }, 0x07000FFF0000FFFF,
      by decide +kernel⟩

theorem witness_ScriptOutput_4 : ∃ (s : State) (p : Fin 8) (r : ScriptRun) (w : Nat), s.atStep (↑p) 7 ScriptPhase.next r w ∧ bitsOf w
    52 4 = 0 ∧ s.coreOn = false ∧ (s.port ↑p).held ≠ none :=
  ⟨{ (scripted 7 [0x07000FFF0000FFFF, 0] { script := 0 } { held := some (1, 1) }) with pwr := { up.pwr with level := [] } }, 7,
      { script := 0 }, 0x07000FFF0000FFFF, by decide +kernel⟩

theorem witness_ScriptOutput_5 : ∃ (s : State) (p : Fin 8) (x : Nat) (v : Nat), (s.port ↑p).held = some (x, v) ∧ x < 4096 ∧ s.coreOn =
    true ∧ s.TallyQuiet x ∧ ∀ (r : ScriptRun), (s.port ↑p).run = some r → r.phase ≠ ScriptPhase.behind :=
  ⟨{ up with head := { up.head with ports := [(7, { held := some (4095, 65535) })] } }, 7, 4095, 65535, by decide +kernel⟩

theorem witness_ScriptOutput_6 : ∃ (s : State) (p : Fin 8) (x : Nat) (v : Nat) (w : Nat) (r : ScriptRun), (s.port ↑p).held = some (x,
    v) ∧ x < 4096 ∧ s.coreOn = true ∧ s.TallyQuiet x ∧ s.atStep (↑p) 7 ScriptPhase.behind r w :=
  ⟨scripted 7 [0x0700000000000001, 0] { script := 0, phase := .behind } { held := some (4095, 65535) }, 7, 4095, 65535, 0x0700000000000001, { script := 0, phase := .behind }, by decide +kernel⟩

theorem witness_ScriptOutput_7 : ∃ (s : State) (p : Fin 8) (r : ScriptRun) (w : Nat), s.atStep (↑p) 7 ScriptPhase.next r w ∧ bitsOf w
    52 4 = 1 ∧ s.portMode ↑p ≠ 2 ∧ r.step + 1 < (s.scriptOf (↑p) r.script).length :=
  ⟨scripted 7 [0x0710000000000002, 0], 7, { script := 0 }, 0x0710000000000002, by decide +kernel⟩

theorem witness_ScriptOutput_8 : ∃ (s : State) (p : Fin 8) (r : ScriptRun) (w : Nat), s.atStep (↑p) 7 ScriptPhase.next r w ∧ bitsOf w
    52 4 = 1 ∧ s.portMode ↑p = 2 ∧ r.entry = none ∧ r.init = false ∧ s.noWait (Engine.port ↑p) :=
  ⟨(scripted 7 [0x0710000000000002, 0]).setAt F.SPT_PORTn_CFG_MODE 7 2, 7, { script := 0 }, 0x0710000000000002, by decide +kernel⟩

theorem witness_PortProbes_0 : ∃ (s : State) (p : Fin 8), s.portsOn = true ∧ s.portState ↑p = 0 :=
  ⟨up, 7, by decide +kernel⟩

theorem witness_PortProbes_1 : ∃ (s : State) (p : Fin 8), s.portsOn = true ∧ s.portState ↑p = 0 ∧ (s.port ↑p).probing = false ∧
    s.getAt F.SPT_PORTn_STATUS_CLASS ↑p ∈ [1, 3, 4] :=
  ⟨(ported 7 0).setAt F.SPT_PORTn_STATUS_CLASS 7 4, 7, by decide +kernel⟩

theorem witness_PortProbes_2 : ∃ (s : State) (p : Fin 8), s.portsOn = true ∧ 4 ≤ s.portState ↑p ∧ (s.port ↑p).probing = false ∧
    s.getAt F.SPT_PORTn_STATUS_CLASS ↑p ∈ [1, 3, 4] :=
  ⟨(ported 7 4).setAt F.SPT_PORTn_STATUS_CLASS 7 1, 7, by decide +kernel⟩

theorem witness_PortProbes_3 : ∃ (s : State) (p : Fin 8) (l : List ProbeSample), s.portsOn = true ∧ s.portState ↑p = 1 ∧ l.length = 5
    ∧ ∀ (x : ProbeSample), x ∈ l → probeBand x.a = probeBand x.b :=
  ⟨setAts (ported 7 1) [(F.SPT_PORTn_CFG_ENABLE, 7, 1)], 7, [⟨300, 700⟩, ⟨701, 800⟩, ⟨2, 299⟩, ⟨300, 700⟩, ⟨701, 702⟩],
      by decide +kernel⟩

theorem witness_PortProbes_4 : ∃ (s : State) (p : Fin 8) (l : List ProbeSample), s.portsOn = true ∧ 4 ≤ s.portState ↑p ∧ (s.port
    ↑p).probing = true ∧ ∀ (x : ProbeSample), x ∈ l → probeBand x.a = probeBand x.b :=
  ⟨{ ported 7 6 with head := { up.head with ports := [(7, { probing := true })] } }, 7, [⟨300, 700⟩, ⟨701, 800⟩], by decide +kernel⟩

theorem witness_PortProbes_5 : ∃ (s : State) (p : Fin 8) (l : List ProbeSample) (x : ProbeSample), s.portsOn = true ∧ s.portState ↑p =
    1 ∧ x ∈ l ∧ probeBand x.a ≠ probeBand x.b ∧ (s.port ↑p).probes + 1 < 20 :=
  ⟨ported 7 1, 7, [⟨299, 300⟩], ⟨299, 300⟩, by decide +kernel⟩

theorem witness_PortProbes_6 : ∃ (s : State) (p : Fin 8) (l : List ProbeSample) (x : ProbeSample), s.portsOn = true ∧ s.portState ↑p =
    1 ∧ x ∈ l ∧ probeBand x.a ≠ probeBand x.b ∧ 20 ≤ (s.port ↑p).probes + 1 :=
  ⟨(ported 7 1).setPort 7 { probes := 19 }, 7, [⟨299, 300⟩], ⟨299, 300⟩, by decide +kernel⟩

theorem witness_PortProbes_7 : ∃ (s : State) (p : Fin 8) (f : Bool) (l : List I3cTarget), s.portState ↑p = 2 ∧ s.portIdle ↑p = true ∧
    (s.getAt F.SPT_PORTn_CFG_INT_TEST_EN ↑p = 0 ∨ s.portMode ↑p = 2) ∧ s.getAt F.SPT_PORTn_CFG_INIT_EN ↑p = 0 :=
  ⟨(ported 7 2).setAt F.SPT_PORTn_CFG_MODE 7 1, 7, true, [⟨1, 2⟩], by decide +kernel⟩

theorem witness_PortProbes_8 : ∃ (s : State) (p : Fin 8) (f : Bool) (l : List I3cTarget), s.portState ↑p = 2 ∧ s.portIdle ↑p = true ∧
    s.portMode ↑p ≠ 1 ∧ (s.getAt F.SPT_PORTn_CFG_INT_TEST_EN ↑p = 0 ∨ s.portMode ↑p = 2) ∧ s.getAt F.SPT_PORTn_CFG_INIT_EN ↑p = 1 ∧
    s.scriptOf (↑p) (s.getAt F.SPT_PORTn_CFG_INIT_SCRIPT ↑p) ≠ [] :=
  ⟨setAts { (ported 7 2) with head := { up.head with scripts := [(63, [0])] } } [(F.SPT_PORTn_CFG_INIT_EN, 7, 1), (F.SPT_PORTn_CFG_INIT_SCRIPT, 7, 7)],
      7, false, [], by decide +kernel⟩

theorem witness_PortProbes_9 : ∃ (s : State) (p : Fin 8) (k : RailFaultKind), s.railOn ↑p = true ∧ s.portIdle ↑p = true ∧ s.getAt
    F.SPT_PORTn_STATUS_FAILS ↑p < 7 :=
  ⟨(ported 7 3).setAt F.SPT_PORTn_STATUS_FAILS 7 6, 7, .short, by decide +kernel⟩

theorem witness_PortProbes_10 : ∃ (s : State) (p : Fin 8) (k : RailFaultKind), s.railOn ↑p = true ∧ s.portIdle ↑p = true ∧ s.getAt
    F.SPT_PORTn_STATUS_FAILS ↑p = 7 :=
  ⟨(ported 7 2).setAt F.SPT_PORTn_STATUS_FAILS 7 7, 7, .overcurrent, by decide +kernel⟩

theorem witness_PortProbes_11 : ∃ (s : State) (p : Fin 8), s.portState ↑p = 4 :=
  ⟨ported 7 4, 7, by decide +kernel⟩

theorem witness_PortProbes_12 : ∃ (s : State) (p : Fin 8), s.railOn ↑p = true :=
  ⟨(ported 7 3).setAt F.SPT_PORTn_STATUS_FAILS 7 7, 7, by decide +kernel⟩

theorem witness_PortProbes_13 : ∃ (s : State) (v : Word), s.reaches Master.steward = true ∧ s.level 20 ≠ 2 ∧ F.SPT_FAULT_CLR_KEY.of v
    = 20547 :=
  ⟨{ ported 7 5 with pwr := { up.pwr with level := elPut 0 up.pwr.level 20 0 } }, 0x50430080, by decide +kernel⟩

theorem witness_PortProbes_14 : ∃ (s : State) (v : Word), s.reaches Master.steward = true ∧ s.level 20 = 2 ∧ F.SPT_FAULT_CLR_KEY.of v
    = 20547 :=
  ⟨ported 7 5, 0x50430080, by decide +kernel⟩

theorem witness_PortProbes_15 : ∃ (s : State) (v : Word), s.coreOn = true ∧ F.SPT_FAULT_CLR_KEY.of v ≠ 20547 :=
  ⟨ported 7 5, 0x50420080, by decide +kernel⟩

theorem witness_PortProbes_16 : ∃ (s : State) (p : Fin 8), s.portPolicy ↑p = 1 ∧ s.portState ↑p = 5 :=
  ⟨(ported 7 5).setAt F.SPT_PORTn_CFG_RESET_POLICY 7 1, 7, by decide +kernel⟩

theorem witness_PortProbes_17 : ∃ (s : State) (p : Fin 8), s.portPolicy ↑p ≠ 1 :=
  ⟨(ported 7 5).setAt F.SPT_PORTn_CFG_RESET_POLICY 7 3, 7, by decide +kernel⟩

theorem witness_PortLines_0 : ∃ (s : State) (p : Fin 8) (l : Bool), (s.portReady ↑p = true ∨ s.portState ↑p = 2) ∧ s.portIdle ↑p =
    true :=
  ⟨code (ported 7 3) 3 [0x01170000] { phase := .waiting 1 7 }, 7, true, by decide +kernel⟩

theorem witness_PortLines_1 : ∃ (s : State) (p : Fin 8) (l : Bool) (r : ScriptRun) (w : Nat), (s.portReady ↑p = true ∨ s.portState ↑p
    = 2) ∧ s.portMode ↑p ≠ 2 ∧ l = (s.getAt F.SPT_PORTn_CFG_INT_POL ↑p == 1) ∧ s.atStep (↑p) 3 ScriptPhase.waitInt r w ∧ r.step + 1 <
    (s.scriptOf (↑p) r.script).length :=
  ⟨scripted 7 [0x0300000000000001, 0] { script := 0, phase := .waitInt }, 7, false, { script := 0, phase := .waitInt },
      0x0300000000000001, by decide +kernel⟩

theorem witness_PortLines_2 : ∃ (s : State) (p : Fin 8) (a : BitVec 7), s.portMode ↑p = 1 ∧ (s.portReady ↑p = true ∨ s.portState ↑p =
    2) ∧ s.portIdle ↑p = true ∧ s.getAt F.SPT_PORTn_CFG_I3C_BASE ↑p ≤ a.toNat ∧ a.toNat < s.getAt F.SPT_PORTn_CFG_I3C_BASE ↑p +
    s.getAt F.SPT_PORTn_I3C_TARGETS ↑p :=
  ⟨setAts (ported 7 2) [(F.SPT_PORTn_CFG_MODE, 7, 1), (F.SPT_PORTn_CFG_I3C_BASE, 7, 8), (F.SPT_PORTn_I3C_TARGETS, 7, 4)], 7, 11,
      by decide +kernel⟩

theorem witness_PortLines_3 : ∃ (s : State) (p : Fin 8) (l : Fin 2), s.railOn ↑p = true ∧ s.portMode ↑p ≠ 2 ∧ s.portIdle ↑p = true :=
  ⟨ported 7 3, 7, 1, by decide +kernel⟩

theorem witness_PortLines_4 : ∃ (s : State) (p : Fin 8) (l : Fin 2), s.railOn ↑p = true ∧ s.portMode ↑p ≠ 2 ∧ s.portIdle ↑p = true ∧
    s.getAt F.SPT_PORTn_STATUS_FAILS ↑p < 7 :=
  ⟨(ported 7 3).setAt F.SPT_PORTn_STATUS_FAILS 7 6, 7, 0, by decide +kernel⟩

theorem witness_PortLines_5 : ∃ (s : State) (p : Fin 8) (l : Fin 2) (r : ScriptRun), s.railOn ↑p = true ∧ s.portMode ↑p ≠ 2 ∧ (s.port
    ↑p).run = some r ∧ r.entry = none ∧ r.init = false :=
  ⟨scripted 7 [0], 7, 0, { script := 0 }, by decide +kernel⟩

theorem witness_PortLines_6 : ∃ (s : State) (p : Fin 8), s.portReady ↑p = true ∧ s.portInt ↑p = false ∧ s.portMode ↑p ≠ 2 ∧ s.portIdle
    ↑p = true ∧ s.getAt F.SPT_PORTn_CFG_INT_TEST_EN ↑p = 1 :=
  ⟨(ported 7 3).setAt F.SPT_PORTn_CFG_INT_TEST_EN 7 1, 7, by decide +kernel⟩

theorem witness_PortLines_7 : ∃ (s : State) (p : Fin 8), s.portReady ↑p = true ∧ s.portInt ↑p = false ∧ s.portMode ↑p ≠ 2 ∧ s.getAt
    F.SPT_PORTn_CFG_INT_TEST_EN ↑p = 1 :=
  ⟨setAts (ported 7 3) [(F.SPT_PORTn_CFG_INT_TEST_EN, 7, 1), (F.SPT_PORTn_STATUS_INT_FLOAT, 7, 1)], 7, by decide +kernel⟩

theorem witness_TileOperations_0 : ∃ (s : State) (st : Fin 96) (j : TileJob) (d : Desc), s.atDesc (↑st) 0 0 j d ∧ s.passes (↑st) j d
    :=
  ⟨tiled 95 (desc 0 []), 95, job, readDesc (desc 0 []), by decide +kernel⟩

theorem witness_TileOperations_1 : ∃ (s : State) (st : Fin 96) (j : TileJob) (d : Desc),
    let m := s.tileMem j
    let scl := (d.scl' ↑st).bytes m
    s.atDesc (↑st) 1 0 j d ∧ s.passes (↑st) j d ∧ s.penOn (↑st) d ∧ ∀ (r : Region), r ∈ [d.src' ↑st, d.wgt' ↑st, d.dst' ↑st, d.scl'
      ↑st, outlierSrc d (↑st) scl] → s.regionOn r :=
  ⟨tiled 95 (desc 1 []), 95, job, readDesc (desc 1 []), by decide +kernel⟩

theorem witness_TileOperations_2 : ∃ (s : State) (st : Fin 96) (j : TileJob) (d : Desc), s.atDesc (↑st) 2 0 j d ∧ s.passes (↑st) j d ∧
    s.penOn (↑st) d ∧ ∀ (r : Region), r ∈ [d.src' ↑st, d.dst' ↑st, d.scl' ↑st, { loc := descLoc (↑st) d.emul, len := if j.emul = true
    then 16384 else 0 }] → s.regionOn r :=
  ⟨{ tiled 95 (desc 2 [(2, 1, 5), (3, 1, 1), (34, 2, 7), (36, 4, 0x40008000)]) { job with emul := true } with cim := { up.cim with sets := [setSeven] } }, 95, { job with emul := true }, readDesc (desc 2 [(2, 1, 5), (3, 1, 1), (34, 2, 7), (36, 4, 0x40008000)]), by decide +kernel⟩

theorem witness_TileOperations_3 : ∃ (s : State) (st : Fin 96) (j : TileJob) (d : Desc) (q : Instr × Nat), q ∈ [(Instr.vecRequant st,
    0), (Instr.vecAdd st, 1), (Instr.vecMul st, 2), (Instr.vecMax st, 3), (Instr.vecMaxpool st, 4), (Instr.vecAvgpool st, 5),
    (Instr.vecLut st, 6), (Instr.vecSoftmax st, 7)] ∧ s.atDesc (↑st) 4 q.snd j d ∧ s.passes (↑st) j d ∧ s.penOn (↑st) d ∧ ∀ (r :
    Region), r ∈ [d.src' ↑st, d.wgt' ↑st, d.dst' ↑st, d.scl' ↑st] → s.regionOn r :=
  ⟨tiled 95 (desc 4 [(7, 1, 3)]), 95, job, readDesc (desc 4 [(7, 1, 3)]), (.vecMax 95, 3), by decide +kernel⟩

theorem witness_TileOperations_4 : ∃ (s : State) (st : Fin 96) (j : TileJob) (d : Desc), s.atDesc (↑st) 5 0 j d ∧ s.passes (↑st) j d ∧
    s.penOn (↑st) d ∧ ∀ (r : Region), r ∈ [d.src' ↑st, d.wgt' ↑st, d.dst' ↑st, d.scl' ↑st] → s.regionOn r :=
  ⟨tiled 95 (desc 5 [(1, 1, 12)]), 95, job, readDesc (desc 5 [(1, 1, 12)]), by decide +kernel⟩

theorem witness_TileOperations_5 : ∃ (s : State) (st : Fin 96) (j : TileJob) (d : Desc), s.atDesc (↑st) 6 0 j d ∧ s.passes (↑st) j d ∧
    s.penOn (↑st) d ∧ ∀ (r : Region), r ∈ [d.src' ↑st, d.wgt' ↑st, d.dst' ↑st] → s.regionOn r :=
  ⟨tiled 95 (desc 6 [(1, 1, 12)]), 95, job, readDesc (desc 6 [(1, 1, 12)]), by decide +kernel⟩

theorem witness_TileOperations_6_0 : ∃ (s : State) (st : Fin 96) (j : TileJob) (d : Desc),
    let m := s.tileMem j
    let r : Region := { loc := (d.src' ↑st).loc, len := recLen (byteAt ({ loc := (d.src' ↑st).loc, len := 1 : Region }.bytes m) 0) }
    s.atDesc (↑st) 15 0 j d ∧ s.passes (↑st) j d ∧ s.penOn (↑st) d ∧ s.regionOn (d.src' ↑st) ∧ r.fits = false ∧ (s.stall ↑st).cut =
      none ∧ s.fab.reissues = [] :=
  ⟨emittingAt emitLast 0xFFFFE0 [0x83], 95, { job with slot := some 4 }, readDesc emitLast, by decide +kernel⟩

theorem witness_TileOperations_6_1 : ∃ (s : State) (st : Fin 96) (j : TileJob) (d : Desc),
    let m := s.tileMem j
    let r : Region := { loc := (d.src' ↑st).loc, len := recLen (byteAt ({ loc := (d.src' ↑st).loc, len := 1 : Region }.bytes m) 0) }
    s.atDesc (↑st) 15 0 j d ∧ s.passes (↑st) j d ∧ s.penOn (↑st) d ∧ s.regionOn (d.src' ↑st) ∧ r.fits = true ∧ s.recordSplit r = true
      ∧ (s.stall ↑st).cut = none ∧ s.fab.reissues = [] :=
  ⟨emittingPen, 95, granted, readDesc emitPen, by decide +kernel⟩

theorem witness_TileOperations_6_2 : ∃ (s : State) (st : Fin 96) (j : TileJob) (d : Desc),
    let m := s.tileMem j
    let r : Region := { loc := (d.src' ↑st).loc, len := recLen (byteAt ({ loc := (d.src' ↑st).loc, len := 1 : Region }.bytes m) 0) }
    s.atDesc (↑st) 15 0 j d ∧ s.passes (↑st) j d ∧ s.penOn (↑st) d ∧ s.regionOn (d.src' ↑st) ∧ r.fits = true ∧ s.recordSplit r = false
      ∧ s.regionOn r ∧ s.gateOpen = false :=
  ⟨{ emitting with host := { emitting.host with freed := 192 } }, 95, { job with slot := some 4 }, readDesc emitDesc, by decide +kernel⟩

theorem witness_TileOperations_6_3 : ∃ (s : State) (st : Fin 96) (j : TileJob) (d : Desc),
    let m := s.tileMem j
    let r : Region := { loc := (d.src' ↑st).loc, len := recLen (byteAt ({ loc := (d.src' ↑st).loc, len := 1 : Region }.bytes m) 0) }
    ∃ h : Nat,
      let p : Presented :=
        { bytes := r.bytes m, taint := j.taint ||| r.taint m, adapted := j.adapted, yard := false,
          slot := j.slot.getD 0, remapped := s.remapped j.ring }
      s.atDesc (↑st) 15 0 j d ∧ s.passes (↑st) j d ∧ s.penOn (↑st) d ∧ s.regionOn (d.src' ↑st) ∧ r.fits = true ∧ s.recordSplit r = false
        ∧ s.regionOn r ∧ s.gateOpen = true ∧ s.headOf p = some h ∧ s.gateStep p h = 7 :=
  ⟨emitting, 95, { job with slot := some 4 }, readDesc emitDesc, 7, by decide +kernel⟩

theorem witness_TileOperations_7_0 : ∃ (s : State) (st : Fin 96) (j : TileJob) (q : Instr × Nat × Nat),
    let b := s.descBytes j j.pos
    q ∈ [(Instr.nop st, 0, 0), (Instr.matmul st, 1, 0), (Instr.cimMatmul st, 2, 0), (Instr.vecRequant st, 4, 0), (Instr.vecAdd st, 4,
      1), (Instr.vecMul st, 4, 2), (Instr.vecMax st, 4, 3), (Instr.vecMaxpool st, 4, 4), (Instr.vecAvgpool st, 4, 5), (Instr.vecLut
      st, 4, 6), (Instr.vecSoftmax st, 4, 7), (Instr.backward st, 5, 0), (Instr.update st, 6, 0), (Instr.emit st, 15, 0)] ∧ (s.stall
      ↑st).tile = some j ∧ s.stallRuns ↑st = true ∧ j.gated = false ∧ j.ended = false ∧ j.record = [] ∧ (j.slot = none → s.steadyAt
      (12 + (j.first + 64 * j.pos) / 4194304) 2 = true) ∧ (s.stall ↑st).cut = none ∧ s.fab.reissues = [] ∧ ↑(fieldAt b 60 4) ≠ crc32
      (List.take 60 b) :=
  ⟨tiled 95 ((desc 1 []).take 63), 95, job, (.emit 95, 15, 0), by decide +kernel⟩

theorem witness_TileOperations_7_1_0 : ∃ (s : State) (st : Fin 96) (j : TileJob) (q : Instr × Nat × Nat),
    let b := s.descBytes j j.pos
    let d := readDesc b
    q ∈ [(Instr.nop st, 0, 0), (Instr.matmul st, 1, 0), (Instr.cimMatmul st, 2, 0), (Instr.vecRequant st, 4, 0), (Instr.vecAdd st, 4,
      1), (Instr.vecMul st, 4, 2), (Instr.vecMax st, 4, 3), (Instr.vecMaxpool st, 4, 4), (Instr.vecAvgpool st, 4, 5), (Instr.vecLut
      st, 4, 6), (Instr.vecSoftmax st, 4, 7), (Instr.backward st, 5, 0), (Instr.update st, 6, 0), (Instr.emit st, 15, 0)] ∧ (s.stall
      ↑st).tile = some j ∧ s.stallRuns ↑st = true ∧ j.gated = false ∧ j.ended = false ∧ j.record = [] ∧ (j.slot = none → s.steadyAt
      (12 + (j.first + 64 * j.pos) / 4194304) 2 = true) ∧ (s.stall ↑st).cut = none ∧ s.fab.reissues = [] ∧ ↑(fieldAt b 60 4) = crc32
      (List.take 60 b) ∧ (headerOk d = true → d.op = q.snd.fst ∧ (d.op = 4 → d.func = q.snd.snd ∨ 7 < d.func)) ∧ s.descOk (↑st) j d =
      false :=
  ⟨tiled 95 (desc 1 [(24, 2, 0)]), 95, job, (.matmul 95, 1, 0), by decide +kernel⟩

theorem witness_TileOperations_7_1_1 : ∃ (s : State) (st : Fin 96) (j : TileJob) (q : Instr × Nat × Nat),
    let b := s.descBytes j j.pos
    let d := readDesc b
    q ∈ [(Instr.nop st, 0, 0), (Instr.matmul st, 1, 0), (Instr.cimMatmul st, 2, 0), (Instr.vecRequant st, 4, 0), (Instr.vecAdd st, 4,
      1), (Instr.vecMul st, 4, 2), (Instr.vecMax st, 4, 3), (Instr.vecMaxpool st, 4, 4), (Instr.vecAvgpool st, 4, 5), (Instr.vecLut
      st, 4, 6), (Instr.vecSoftmax st, 4, 7), (Instr.backward st, 5, 0), (Instr.update st, 6, 0), (Instr.emit st, 15, 0)] ∧ (s.stall
      ↑st).tile = some j ∧ s.stallRuns ↑st = true ∧ j.gated = false ∧ j.ended = false ∧ j.record = [] ∧ (j.slot = none → s.steadyAt
      (12 + (j.first + 64 * j.pos) / 4194304) 2 = true) ∧ (s.stall ↑st).cut = none ∧ s.fab.reissues = [] ∧ ↑(fieldAt b 60 4) = crc32
      (List.take 60 b) ∧ (headerOk d = true → d.op = q.snd.fst ∧ (d.op = 4 → d.func = q.snd.snd ∨ 7 < d.func)) ∧ s.descOk (↑st) j d =
      true ∧ s.regionOn (d.scl' ↑st) ∧ ¬s.tableFine (↑st) j d :=
  ⟨tiled 95 (desc 1 [(6, 1, 1)]), 95, job, (.matmul 95, 1, 0), by decide +kernel⟩

theorem witness_TileOperations_7_1_2 : ∃ (s : State) (st : Fin 96) (j : TileJob) (q : Instr × Nat × Nat),
    let b := s.descBytes j j.pos
    let d := readDesc b
    q ∈ [(Instr.nop st, 0, 0), (Instr.matmul st, 1, 0), (Instr.cimMatmul st, 2, 0), (Instr.vecRequant st, 4, 0), (Instr.vecAdd st, 4,
      1), (Instr.vecMul st, 4, 2), (Instr.vecMax st, 4, 3), (Instr.vecMaxpool st, 4, 4), (Instr.vecAvgpool st, 4, 5), (Instr.vecLut
      st, 4, 6), (Instr.vecSoftmax st, 4, 7), (Instr.backward st, 5, 0), (Instr.update st, 6, 0), (Instr.emit st, 15, 0)] ∧ (s.stall
      ↑st).tile = some j ∧ s.stallRuns ↑st = true ∧ j.gated = false ∧ j.ended = false ∧ j.record = [] ∧ (j.slot = none → s.steadyAt
      (12 + (j.first + 64 * j.pos) / 4194304) 2 = true) ∧ (s.stall ↑st).cut = none ∧ s.fab.reissues = [] ∧ ↑(fieldAt b 60 4) = crc32
      (List.take 60 b) ∧ (headerOk d = true → d.op = q.snd.fst ∧ (d.op = 4 → d.func = q.snd.snd ∨ 7 < d.func)) ∧ s.descOk (↑st) j d =
      true ∧ s.regionOn (d.scl' ↑st) ∧ s.tableFine (↑st) j d ∧ d.overlaps ↑st = true :=
  ⟨tiled 95 (desc 1 [(16, 4, 0x40001000)]), 95, job, (.matmul 95, 1, 0), by decide +kernel⟩

theorem witness_TileOperations_7_1_3 : ∃ (s : State) (st : Fin 96) (j : TileJob) (q : Instr × Nat × Nat),
    let b := s.descBytes j j.pos
    let d := readDesc b
    q ∈ [(Instr.nop st, 0, 0), (Instr.matmul st, 1, 0), (Instr.cimMatmul st, 2, 0), (Instr.vecRequant st, 4, 0), (Instr.vecAdd st, 4,
      1), (Instr.vecMul st, 4, 2), (Instr.vecMax st, 4, 3), (Instr.vecMaxpool st, 4, 4), (Instr.vecAvgpool st, 4, 5), (Instr.vecLut
      st, 4, 6), (Instr.vecSoftmax st, 4, 7), (Instr.backward st, 5, 0), (Instr.update st, 6, 0), (Instr.emit st, 15, 0)] ∧ (s.stall
      ↑st).tile = some j ∧ s.stallRuns ↑st = true ∧ j.gated = false ∧ j.ended = false ∧ j.record = [] ∧ (j.slot = none → s.steadyAt
      (12 + (j.first + 64 * j.pos) / 4194304) 2 = true) ∧ (s.stall ↑st).cut = none ∧ s.fab.reissues = [] ∧ ↑(fieldAt b 60 4) = crc32
      (List.take 60 b) ∧ (headerOk d = true → d.op = q.snd.fst ∧ (d.op = 4 → d.func = q.snd.snd ∨ 7 < d.func)) ∧ s.descOk (↑st) j d =
      true ∧ s.regionOn (d.scl' ↑st) ∧ s.tableFine (↑st) j d ∧ d.overlaps ↑st = false ∧ s.penStatus j d ↑st = 2 :=
  ⟨tiled 95 (desc 1 [(8, 4, 0x60000000)]), 95, job, (.matmul 95, 1, 0), by decide +kernel⟩

theorem witness_TileOperations_7_1_4 : ∃ (s : State) (st : Fin 96) (j : TileJob) (q : Instr × Nat × Nat),
    let b := s.descBytes j j.pos
    let d := readDesc b
    q ∈ [(Instr.nop st, 0, 0), (Instr.matmul st, 1, 0), (Instr.cimMatmul st, 2, 0), (Instr.vecRequant st, 4, 0), (Instr.vecAdd st, 4,
      1), (Instr.vecMul st, 4, 2), (Instr.vecMax st, 4, 3), (Instr.vecMaxpool st, 4, 4), (Instr.vecAvgpool st, 4, 5), (Instr.vecLut
      st, 4, 6), (Instr.vecSoftmax st, 4, 7), (Instr.backward st, 5, 0), (Instr.update st, 6, 0), (Instr.emit st, 15, 0)] ∧ (s.stall
      ↑st).tile = some j ∧ s.stallRuns ↑st = true ∧ j.gated = false ∧ j.ended = false ∧ j.record = [] ∧ (j.slot = none → s.steadyAt
      (12 + (j.first + 64 * j.pos) / 4194304) 2 = true) ∧ (s.stall ↑st).cut = none ∧ s.fab.reissues = [] ∧ ↑(fieldAt b 60 4) = crc32
      (List.take 60 b) ∧ (headerOk d = true → d.op = q.snd.fst ∧ (d.op = 4 → d.func = q.snd.snd ∨ 7 < d.func)) ∧ s.descOk (↑st) j d =
      true ∧ s.regionOn (d.scl' ↑st) ∧ s.tableFine (↑st) j d ∧ d.overlaps ↑st = false ∧ s.penStatus j d ↑st = 3 :=
  ⟨tiled 95 (desc 1 [(1, 1, 5), (8, 4, 0x60000000)]) { job with grant := true }, 95, { job with grant := true }, (.matmul 95, 1, 0), by decide +kernel⟩

theorem witness_TileEnds_0 : ∃ (s : State) (st : Fin 96) (j : TileJob), s.isUp = true ∧ (s.stall ↑st).tile = some j ∧ (s.stall
    ↑st).cut = none ∧ s.fab.reissues = [] ∧ j.ended = true ∧ j.status = 0 ∧ j.data = true ∧ j.ring < 2048 ∧ j.releases = [] ∧ j.nums =
    [] ∧ j.tally < 4096 ∧ s.TallyQuiet j.tally ∧ (s.ring j.ring).finished = [] ∧ j.idx = s.di j.ring ∧ s.getAt F.RNG_RINGi_CFG_REPEAT
    j.ring = 0 :=
  ⟨setAts (tiled 95 [] { job with ended := true, data := true, writes := [⟨.loft, 0xFFFFFF, [9], 2⟩], tally := 4095, tallyAdd := 65535 }) [(F.RNG_RINGi_CFG_ARMED, 0, 1)],
      95, { job with ended := true, data := true, writes := [⟨.loft, 0xFFFFFF, [9], 2⟩], tally := 4095, tallyAdd := 65535 },
      by decide +kernel⟩

theorem witness_TileEnds_1 : ∃ (s : State) (st : Fin 96) (j : TileJob) (m : Mem) (off : Nat) (e : List Byte), s.isUp = true ∧ (s.stall
    ↑st).tile = some j ∧ (s.stall ↑st).cut = none ∧ s.fab.reissues = [] ∧ j.ended = true ∧ j.status = 0 ∧ j.data = false ∧ j.releases
    = [] ∧ j.nums = [] ∧ s.oldest j.ring j.idx (s.mem.overlay j.writes) m off e ∧ (j.tallyAdd = 0 ∨ j.tally < 4096 ∧ s.TallyQuiet
    j.tally) :=
  ⟨ringIn (tiled 95 [] { job with ended := true, writes := [⟨.loft, 0xFFFFFF, [9], 2⟩], tally := 4095, tallyAdd := 65535 }) 0 (ent 1 (tileBody 0)), 95, { job with ended := true, writes := [⟨.loft, 0xFFFFFF, [9], 2⟩], tally := 4095, tallyAdd := 65535 }, .loft, 0x8000, ent 1 (tileBody 0), by decide +kernel⟩

theorem witness_TileEnds_2 : ∃ (s : State) (st : Fin 96) (w : BitVec 14), 0 < s.level (↑st / 8) :=
  ⟨up, 95, 0x3FFF, by decide +kernel⟩

theorem witness_TileEnds_3 : ∃ (s : State) (st : Fin 96) (w : BitVec 14), 0 < s.level (↑st / 8) ∧ s.fenced ↑st = false :=
  ⟨up, 95, 0x3FFF, by decide +kernel⟩

theorem witness_TileEnds_4 : ∃ (s : State) (st : Fin 96) (w : BitVec 14), s.fenced ↑st = true :=
  ⟨up.setAt ⟨R.STL_FENCEDk, 0, 32⟩ 2 0x80000000, 95, 0, by decide +kernel⟩

theorem witness_TileEnds_5_0 : ∃ (s : State) (st : Fin 96) (g : Nat) (w : WinDone) (e : Envelope),
    let n := e.outside w.counts
    g < 8 ∧ List.find? (fun (x : WinDone) => x.group == g) (s.stall ↑st).closed = some w ∧ s.fab.envs[w.env]? = some e ∧ n ≤ e.drift1
      ∧ n ≤ e.drift2 :=
  ⟨window true 4 2, 95, 7, ⟨7, 0, true, [4]⟩, { allowed := 0, drift1 := 4, drift2 := 8, max := [] }, by decide +kernel⟩

theorem witness_TileEnds_5_1 : ∃ (s : State) (st : Fin 96) (g : Nat) (w : WinDone) (e : Envelope),
    let n := e.outside w.counts
    g < 8 ∧ List.find? (fun (x : WinDone) => x.group == g) (s.stall ↑st).closed = some w ∧ s.fab.envs[w.env]? = some e ∧ e.drift1 < n
      ∧ w.cim = false ∧ (n ≤ e.drift2 ∨ elGet 0 (s.stall ↑st).level2 g < 2) :=
  ⟨window false 5 1, 95, 7, ⟨7, 0, false, [5]⟩, { allowed := 0, drift1 := 4, drift2 := 8, max := [] }, by decide +kernel⟩

theorem witness_TileEnds_5_2 : ∃ (s : State) (st : Fin 96) (g : Nat) (w : WinDone) (e : Envelope),
    let n := e.outside w.counts
    g < 8 ∧ List.find? (fun (x : WinDone) => x.group == g) (s.stall ↑st).closed = some w ∧ s.fab.envs[w.env]? = some e ∧ e.drift1 < n
      ∧ w.cim = true ∧ n ≤ e.drift2 ∧ s.getAt F.CIM_STALLs_STATE_VALID ↑st = 1 :=
  ⟨(window true 8 1).setAt F.CIM_STALLs_STATE_VALID 95 1, 95, 7, ⟨7, 0, true, [8]⟩,
      { allowed := 0, drift1 := 4, drift2 := 8, max := [] }, by decide +kernel⟩

theorem witness_TileEnds_5_3 : ∃ (s : State) (st : Fin 96) (g : Nat) (w : WinDone) (e : Envelope),
    let n := e.outside w.counts
    g < 8 ∧ List.find? (fun (x : WinDone) => x.group == g) (s.stall ↑st).closed = some w ∧ s.fab.envs[w.env]? = some e ∧ e.drift2 < n
      ∧ 2 ≤ elGet 0 (s.stall ↑st).level2 g ∧ s.fenced ↑st = false :=
  ⟨window false 9 2, 95, 7, ⟨7, 0, false, [9]⟩, { allowed := 0, drift1 := 4, drift2 := 8, max := [] }, by decide +kernel⟩

theorem witness_TileEnds_6 : ∃ (s : State) (st : Fin 96) (j : TileJob), (s.stall ↑st).tile = some j ∧ s.stallRuns ↑st = true ∧ j.gated
    = false ∧ j.ended = false ∧ j.again = false :=
  ⟨tiled 95 (desc 0 []), 95, job, by decide +kernel⟩

theorem witness_TileEnds_7 : ∃ (s : State) (st : Fin 96) (j : TileJob), (s.stall ↑st).tile = some j ∧ s.stallRuns ↑st = true ∧ j.gated
    = false ∧ j.ended = false ∧ j.again = true ∧ (s.stall ↑st).cut = none ∧ s.fab.reissues = [] :=
  ⟨tiled 95 (desc 0 []) { job with again := true }, 95, { job with again := true }, by decide +kernel⟩

theorem witness_TileEnds_8 : ∃ (s : State) (st : Fin 96) (j : TileJob), (s.stall ↑st).tile = some j ∧ s.stallRuns ↑st = true ∧ j.cls ≠
    0 ∧ j.ended = false ∧ (s.stall ↑st).cut = none ∧ s.c0Waits = true ∧ s.c0Blocked = true ∧ s.lowestClass j = true :=
  ⟨ringIn { tiled 95 [] with
        fab := { up.fab with stalls := (List.range 8).map fun k => (88 + k, { tile := some job }) }
        pwr := { up.pwr with level := [(11, 2), (12, 2), (23, 2)] } } 2047 (ent 1 (tileBody 0)), 95, job, by decide +kernel⟩

theorem witness_TileEnds_9 : ∃ (s : State), s.isUp = true ∧ s.coreOn = true :=
  ⟨up, by decide +kernel⟩

theorem witness_TileEnds_10 : ∃ (s : State) (st : Fin 96) (j : TileJob), (s.stall ↑st).tile = some j ∧ j.cls = 0 :=
  ⟨tiled 95 [] { job with cls := 0 }, 95, { job with cls := 0 }, by decide +kernel⟩

theorem witness_CimProgramming_0 : ∃ (s : State) (st : Fin 96), s.isUp = true ∧ s.coreOn = true ∧ s.alarmHold = false ∧ s.flag
    F.SUP_STATUS_BRACE = false ∧ s.programming.length < 24 ∧ List.find? (fun (x : Nat) => s.cim.queue.contains x && s.mayProgram x)
    (List.range 96) = some ↑st ∧ s.steadyAt (↑st / 8) 2 = true ∧ s.noWait (Engine.prog ↑st) :=
  ⟨{ up with cim := { up.cim with queue := [3, 95] } }, 3, by decide +kernel⟩

theorem witness_CimProgramming_1 : ∃ (s : State) (st : Fin 96), s.isUp = true ∧ s.coreOn = true ∧ s.alarmHold = false ∧ s.flag
    F.SUP_STATUS_BRACE = true ∧ s.programming.length < 24 ∧ List.find? (fun (x : Nat) => s.cim.queue.contains x && s.mayProgram x)
    (List.range 96) = some ↑st :=
  ⟨({ up with cim := { up.cim with queue := [3, 95] } } : State).set F.SUP_STATUS_BRACE 1, 3, by decide +kernel⟩

theorem witness_CimProgramming_2 : ∃ (s : State) (st : Fin 96) (j : ProgJob), s.job ↑st = some j ∧ s.isUp = true ∧ s.isProgramming ↑st
    = true ∧ s.flag F.SUP_STATUS_BRACE = false ∧ (∀ (r : Nat), r ∈ j.rows → r < 256) ∧ s.fab.reissues = [] :=
  ⟨programming, 3, progJob, by decide +kernel⟩

theorem witness_CimProgramming_3 : ∃ (s : State) (st : Fin 96) (j : ProgJob) (r : BitVec 8), s.job ↑st = some j ∧ s.isUp = true ∧
    s.isProgramming ↑st = true ∧ s.flag F.SUP_STATUS_BRACE = false ∧ r.toNat ∈ j.rows ∧ (∀ (x : Nat), x ∈ j.rows → x < 256) ∧ s.fenced
    ↑st = false :=
  ⟨programming, 3, progJob, 255, by decide +kernel⟩

theorem witness_CimProgramming_4 : ∃ (s : State) (st : Fin 96) (j : ProgJob), s.job ↑st = some j ∧ s.isUp = true ∧ s.isProgramming ↑st
    = true ∧ s.flag F.SUP_STATUS_BRACE = false ∧ s.fenced ↑st = false ∧ j.rows ≠ [] ∧ ∀ (x : Nat), x ∈ j.rows → x < 256 :=
  ⟨programming, 3, progJob, by decide +kernel⟩

theorem witness_CimProgramming_5 : ∃ (s : State) (st : Fin 96) (m : ProgMeas) (j : ProgJob), s.job ↑st = some j ∧ s.flag
    F.SUP_STATUS_BRACE = true :=
  ⟨programming.set F.SUP_STATUS_BRACE 1, 3, ⟨[], none⟩, progJob, by decide +kernel⟩

theorem witness_CimProgramming_6 : ∃ (s : State) (x : BitVec 16) (p : Nat × Nat), p ∈ s.cim.last ∧ p.fst = x.toNat :=
  ⟨{ up with cim := { up.cim with last := [(7, 1)] } }, 7, by decide +kernel⟩

theorem witness_CimProgramming_7_0 : ∃ (s : State) (x : BitVec 16) (w : WsetCfg) (st : Nat), List.find? (fun (w : WsetCfg) => w.wset
    == x.toNat) s.cim.sets = some w ∧ s.isUp = true ∧ s.coreOn = true ∧ s.alarmHold = false ∧ s.cim.commit = none ∧ x.toNat ∈
    s.cim.waiting ∧ s.intervalOver x.toNat = true ∧ (∀ (y : Nat), y ∈ s.cim.waiting → x.toNat ≤ y ∨ s.intervalOver y = false) ∧ (∀ (st
    : Nat), st ∈ w.list → s.job st = none) ∧ s.noWait Engine.commit ∧ List.find? s.reserved w.list = some st :=
  ⟨committing 9 3, 7, setSeven, 3, by decide +kernel⟩

theorem witness_CimProgramming_7_1_0 : ∃ (s : State) (x : BitVec 16) (w : WsetCfg),
    let g := s.blockShape w
    List.find? (fun (w : WsetCfg) => w.wset == x.toNat) s.cim.sets = some w ∧ s.isUp = true ∧ s.coreOn = true ∧ s.alarmHold = false ∧
      s.cim.commit = none ∧ x.toNat ∈ s.cim.waiting ∧ s.intervalOver x.toNat = true ∧ (∀ (y : Nat), y ∈ s.cim.waiting → x.toNat ≤ y ∨
      s.intervalOver y = false) ∧ (∀ (st : Nat), st ∈ w.list → s.job st = none) ∧ s.noWait Engine.commit ∧ List.find? s.reserved
      w.list = none ∧ (bitsOf g.snd.snd 0 2 ≠ 1 ∨ 256 < g.snd.fst) :=
  ⟨{ committing 9 0 with cim := { up.cim with sets := [setSeven], waiting := [7], blocks := [(0x1000, (1, 1, 0))] } }, 7, setSeven, by decide +kernel⟩

theorem witness_CimProgramming_7_1_1_0 : ∃ (s : State) (x : BitVec 16) (w : WsetCfg),
    let g := s.blockShape w
    let off := bitsOf w.stateAddr 0 24
    let d := blockDesc g.fst g.snd.fst g.snd.snd
    let cim4 := w.format == 4
    let codes := List.map (fun (r : List Requant) => (List.map (fun (y : Requant) => y.codes) r).flatten) (requantRows (if cim4 = true
        then 7 else 1) 64 (inRuns g.snd.fst (partVals d (s.mem.read Mem.loft off d.stLen) 0 d.stA)))
    let changed := fun (st : Nat) => List.filter (fun (r : Nat) => adaptRow cim4 g.fst g.snd.fst r codes (s.cimRow st r) != s.cimRow
        st r) (List.range 256)
    ∃ (st : Nat), List.find? (fun (w : WsetCfg) => w.wset == x.toNat) s.cim.sets = some w ∧ s.isUp = true ∧ s.coreOn = true ∧
      s.alarmHold = false ∧ s.cim.commit = none ∧ x.toNat ∈ s.cim.waiting ∧ s.intervalOver x.toNat = true ∧ (∀ (y : Nat), y ∈
      s.cim.waiting → x.toNat ≤ y ∨ s.intervalOver y = false) ∧ (∀ (st : Nat), st ∈ w.list → s.job st = none) ∧ s.noWait Engine.commit
      ∧ List.find? s.reserved w.list = none ∧ bitsOf g.snd.snd 0 2 = 1 ∧ g.snd.fst ≤ 256 ∧ s.steadyAt (12 + off / 4194304) 2 = true ∧
      s.steadyAt (12 + (off + d.stLen - 1) / 4194304) 2 = true ∧ List.find? (fun (st : Nat) => s.wearOver st (changed st))
      (List.filter (fun (st : Nat) => !s.barred st) w.list) = some st :=
  ⟨committing 1 0, 7, setSeven, 3, by decide +kernel⟩

theorem witness_CimProgramming_7_1_1_1 : ∃ (s : State) (x : BitVec 16) (w : WsetCfg),
    let g := s.blockShape w
    let off := bitsOf w.stateAddr 0 24
    let d := blockDesc g.fst g.snd.fst g.snd.snd
    let cim4 := w.format == 4
    let codes := List.map (fun (r : List Requant) => (List.map (fun (y : Requant) => y.codes) r).flatten) (requantRows (if cim4 = true
        then 7 else 1) 64 (inRuns g.snd.fst (partVals d (s.mem.read Mem.loft off d.stLen) 0 d.stA)))
    let changed := fun (st : Nat) => List.filter (fun (r : Nat) => adaptRow cim4 g.fst g.snd.fst r codes (s.cimRow st r) != s.cimRow
        st r) (List.range 256)
    List.find? (fun (w : WsetCfg) => w.wset == x.toNat) s.cim.sets = some w ∧ s.isUp = true ∧ s.coreOn = true ∧ s.alarmHold = false ∧
      s.cim.commit = none ∧ x.toNat ∈ s.cim.waiting ∧ s.intervalOver x.toNat = true ∧ (∀ (y : Nat), y ∈ s.cim.waiting → x.toNat ≤ y ∨
      s.intervalOver y = false) ∧ (∀ (st : Nat), st ∈ w.list → s.job st = none) ∧ s.noWait Engine.commit ∧ List.find? s.reserved
      w.list = none ∧ bitsOf g.snd.snd 0 2 = 1 ∧ g.snd.fst ≤ 256 ∧ s.steadyAt (12 + off / 4194304) 2 = true ∧ s.steadyAt (12 + (off +
      d.stLen - 1) / 4194304) 2 = true ∧ List.find? (fun (st : Nat) => s.wearOver st (changed st)) (List.filter (fun (st : Nat) =>
      !s.barred st) w.list) = none :=
  ⟨committing 1000 0, 7, setSeven, by decide +kernel⟩

theorem witness_CimProgramming_8 : ∃ (s : State) (x : BitVec 16) (w : WsetCfg) (c : CommitSt), s.cim.commit = some c ∧ c.wset =
    x.toNat ∧ List.find? (fun (w : WsetCfg) => w.wset == x.toNat) s.cim.sets = some w ∧ s.isUp = true ∧ s.coreOn = true ∧
    s.cim.recording = [] ∧ (∀ (st : Nat), st ∈ w.list → s.job st = none) ∧ s.noWait Engine.commit ∧ s.steadyAt (12 + bitsOf w.scaleDst
    0 24 / 4194304) 2 = true ∧ s.steadyAt (12 + (bitsOf w.scaleDst 0 24 + c.scales.length - 1) / 4194304) 2 = true ∧ (w.emulAddr = 0 ∨
    s.steadyAt (12 + bitsOf w.emulAddr 0 24 / 4194304) 2 = true ∧ s.steadyAt (12 + (bitsOf w.emulAddr 0 24 + 16383) / 4194304) 2 =
    true) ∧ s.fab.reissues = [] :=
  ⟨committed, 7, setSeven, { wset := 7, scales := [1, 2], levels := [], taint := 2 }, by decide +kernel⟩

theorem witness_CimProgramming_9_0 : ∃ (s : State) (st : Fin 96) (m : ColMeas),
    let bad := m.quiet = false ∨ 64 * orOne (s.get F.CIM_CFG_SPREAD_MAX) < sumSpread m.sums
    s.isUp = true ∧ s.coreOn = true ∧ s.steadyAt (↑st / 8) 2 = true ∧ s.flag F.SUP_STATUS_BRACE = false ∧ s.getAt
      F.CIM_STALLs_STATE_CAL_STATE ↑st = 1 ∧ s.getAt F.CIM_STALLs_STATE_PROGRAMMING ↑st = 0 ∧ (s.stall ↑st).tile = none ∧ (s.reserved
      ↑st = false ∨ s.c0Waits = false) ∧ m.sums.length = 256 ∧ bad :=
  ⟨column, 95, ⟨false, List.replicate 256 0⟩, by decide +kernel⟩

theorem witness_CimProgramming_9_1 : ∃ (s : State) (st : Fin 96) (m : ColMeas),
    let bad := m.quiet = false ∨ 64 * orOne (s.get F.CIM_CFG_SPREAD_MAX) < sumSpread m.sums
    let far := ∃ (x : Int), x ∈ m.sums ∧ 24 < (rneDivInt x 64).natAbs
    s.isUp = true ∧ s.coreOn = true ∧ s.steadyAt (↑st / 8) 2 = true ∧ s.flag F.SUP_STATUS_BRACE = false ∧ s.getAt
      F.CIM_STALLs_STATE_CAL_STATE ↑st = 1 ∧ s.getAt F.CIM_STALLs_STATE_PROGRAMMING ↑st = 0 ∧ (s.stall ↑st).tile = none ∧ (s.reserved
      ↑st = false ∨ s.c0Waits = false) ∧ m.sums.length = 256 ∧ ¬bad ∧ far :=
  ⟨column, 95, ⟨true, List.replicate 256 1600⟩, by decide +kernel⟩

theorem witness_CimProgramming_9_2 : ∃ (s : State) (st : Fin 96) (m : ColMeas),
    let bad := m.quiet = false ∨ 64 * orOne (s.get F.CIM_CFG_SPREAD_MAX) < sumSpread m.sums
    let far := ∃ (x : Int), x ∈ m.sums ∧ 24 < (rneDivInt x 64).natAbs
    s.isUp = true ∧ s.coreOn = true ∧ s.steadyAt (↑st / 8) 2 = true ∧ s.flag F.SUP_STATUS_BRACE = false ∧ s.getAt
      F.CIM_STALLs_STATE_CAL_STATE ↑st = 1 ∧ s.getAt F.CIM_STALLs_STATE_PROGRAMMING ↑st = 0 ∧ (s.stall ↑st).tile = none ∧ (s.reserved
      ↑st = false ∨ s.c0Waits = false) ∧ m.sums.length = 256 ∧ ¬bad ∧ ¬far :=
  ⟨column, 95, ⟨true, List.replicate 256 1536⟩, by decide +kernel⟩

theorem witness_CimProgramming_10 : ∃ (s : State) (st : Fin 96), s.isUp = true ∧ s.steadyAt (↑st / 8) 2 = true ∧ s.getAt
    F.CIM_STALLs_STATE_VALID ↑st = 1 :=
  ⟨column, 95, by decide +kernel⟩

theorem witness_BarnTiles_0 : ∃ (s : State) (b : Fin 4) (j : TileJob) (d : Desc) (q : Instr × Nat), s.barnSettled ∧ q ∈
    [(Instr.barnLoad b, 17), (Instr.barnMatmul b, 16)] ∧ s.atBay (↑b) q.snd j d ∧ (q.snd = 16 → s.bayMap ↑b ≠ d.wset) :=
  ⟨barned 3 { tile := some job } (barnDesc 0x11 []), 3, job, readDesc (barnDesc 0x11 []), (.barnLoad 3, 0x11), by decide +kernel⟩

theorem witness_BarnTiles_1 : ∃ (s : State) (b : Fin 4) (j : TileJob) (d : Desc), s.atBay (↑b) 16 j d ∧ s.bayMap ↑b = d.wset ∧
    s.regionOn (d.src' 0) ∧ s.regionOn (d.dst' 0) :=
  ⟨(barned 3 { tile := some job } (barnDesc 0x10 [])).setAt F.BRN_BAYb_STATUS_MAP 3 5, 3, job, readDesc (barnDesc 0x10 []),
      by decide +kernel⟩

theorem witness_BarnTiles_2 : ∃ (s : State) (b : Fin 4) (x : Byte) (m : Nat), s.barnReady = true ∧ s.locks x = true ∧ (s.bay
    ↑b).loading = some m ∧ m < 64 ∧ s.barnSettled ∧ ∀ (j : TileJob), (s.bay ↑b).tile = some j → (readDesc (s.descBytes j j.pos)).op =
    17 → s.endsTile j j.pos = false :=
  ⟨barned 3 { tile := some job, loading := some 63 } (barnDesc 0x10 []), 3, 0, 63, by decide +kernel⟩

theorem witness_BarnTiles_3 : ∃ (s : State) (b : Fin 4) (x : Byte), s.flag F.SUP_STATUS_BRACE = true ∨ s.lockTol < BitVec.toNat x :=
  ⟨barned 3 { tile := some job, loading := some 63 } (barnDesc 0x10 []), 3, 255, by decide +kernel⟩

theorem witness_BarnTiles_4 : ∃ (s : State) (b : Fin 4) (x : Byte) (n : Nat) (j : TileJob) (m : Mem) (off : Nat) (e : List Byte),
    let d := readDesc (s.descBytes j j.pos)
    s.barnReady = true ∧ s.locks x = true ∧ (s.bay ↑b).loading = some n ∧ s.barnSettled ∧ s.noWait (Engine.bay ↑b) ∧ (s.bay ↑b).tile =
      some j ∧ (readDesc (s.descBytes j j.pos)).op = 17 ∧ s.endsTile j j.pos = true ∧ j.data = false ∧ j.releases = [] ∧ (∀ (n :
      TileNum), n ∈ j.nums → n.slot < 64) ∧ (d.tallyAdd = 0 ∨ s.TallyQuiet d.tally) ∧ d.tally < 4096 ∧ s.oldest j.ring j.idx
      (s.mem.overlay j.writes) m off e :=
  ⟨barned 3 { tile := some job, loading := some 5 } (barnDesc 0x11 []), 3, 0, 5, job, .loft, 0x8000, barnEnt, by decide +kernel⟩

theorem witness_BarnTiles_5 : ∃ (s : State) (b : Fin 4) (j : TileJob) (st : Nat) (m : Mem) (off : Nat) (e : List Byte), (s.bay
    ↑b).tile = some j ∧ s.barnReady = true ∧ s.span.barnLock = true ∧ (s.bay ↑b).loading = none ∧ s.stepping ↑b = false ∧ s.bayOut ↑b
    = false ∧ (s.bay ↑b).lostLine = none ∧ s.noWait (Engine.bay ↑b) ∧ s.steadyAt (12 + (j.first + 64 * j.pos) / 4194304) 2 = true ∧
    s.barnSettled ∧ j.data = false ∧ (∀ (n : TileNum), n ∈ j.nums → n.slot < 64) ∧ (if s.barnCheck (s.descBytes j j.pos) = 0 ∧
    (readDesc (s.descBytes j j.pos)).op = 18 then 5 else s.barnCheck (s.descBytes j j.pos)) = st ∧ st ≠ 0 ∧ s.oldest j.ring j.idx
    s.mem m off e :=
  ⟨barned 3 { tile := some job } (barnDesc 0x12 []), 3, job, 5, .loft, 0x8000, barnEnt, by decide +kernel⟩

theorem witness_BarnTiles_6 : ∃ (s : State) (r : BitVec 11) (e : List Byte) (m : Mem) (off : Nat),
    let j := s.ringTile r.toNat
    let d := readDesc (s.descBytes j 0)
    s.atEntryOf r.toNat 1 e m off ∧ s.entryOpen r.toNat e ∧ s.oldest r.toNat (s.ring r.toNat).ii s.mem m off e ∧ byteAt (entryBody e)
      6 = 1 ∧ d.op = 18 ∧ s.issuesTiles (s.cls r.toNat) = true ∧ s.steadyAt (12 + j.first / 4194304) 2 = true ∧ s.barnCheck
      (s.descBytes j 0) = 0 ∧ d.last = true ∧ (d.tallyAdd = 0 ∨ s.TallyQuiet d.tally) :=
  ⟨barned 3 {} (barnDesc 0x12 []), 0, barnEnt, .loft, 0x8000, by decide +kernel⟩

theorem witness_BarnTiles_7 : ∃ (s : State), s.barn.hint = true :=
  ⟨{ up with barn := { up.barn with hint := true } }, by decide +kernel⟩

theorem witness_BarnTiles_8_0 : ∃ (s : State) (b : Fin 4) (j : TileJob),
    let j2 : TileJob := { j.anew true with notBay := some ↑b }
    ∃ (k : Fin 4), (s.bay ↑b).tile = some j ∧ s.barnReady = true ∧ s.stepping ↑b = false ∧ (s.bay ↑b).cut = none ∧ s.barnSettled ∧
      s.noWait (Engine.bay ↑b) ∧ j.again = false ∧ j.cls < 4 ∧ s.barnDead = false ∧ s.bayOf j2 = Place.on ↑k :=
  ⟨barned 3 { tile := some job } (barnDesc 0x10 []), 3, job, 0, by decide +kernel⟩

theorem witness_BarnTiles_8_1 : ∃ (s : State) (b : Fin 4) (j : TileJob),
    let j2 : TileJob := { j.anew true with notBay := some ↑b }
    (s.bay ↑b).tile = some j ∧ s.barnReady = true ∧ s.stepping ↑b = false ∧ (s.bay ↑b).cut = none ∧ s.barnSettled ∧ s.noWait
      (Engine.bay ↑b) ∧ j.again = false ∧ j.cls < 4 ∧ s.barnDead = false ∧ s.bayOf j2 = Place.later :=
  ⟨{ barned 3 {} (barnDesc 0x10 []) with barn := { (barned 3 { tile := some job }).barn with bays := (List.range 4).map fun b => (b, { tile := some job }) }, pwr := (barned 3 { tile := some job }).pwr }, 3, job, by decide +kernel⟩

theorem witness_BarnTiles_9 : ∃ (s : State) (b : Fin 4) (j : TileJob) (m : Mem) (off : Nat) (e : List Byte), (s.bay ↑b).tile = some j
    ∧ s.barnReady = true ∧ s.stepping ↑b = false ∧ s.barnSettled ∧ j.again = true ∧ j.data = false ∧ (∀ (n : TileNum), n ∈ j.nums →
    n.slot < 64) ∧ s.noWait (Engine.bay ↑b) ∧ s.oldest j.ring j.idx s.mem m off e :=
  ⟨barned 3 { tile := some { job with again := true } } (barnDesc 0x10 []), 3, { job with again := true }, .loft, 0x8000, barnEnt,
      by decide +kernel⟩

theorem witness_BarnWakeAndRotation_0_0 : ∃ (s : State), s.isUp = true ∧ s.rises 16 = true ∧ s.barn.failed = false ∧ s.get
    F.BRN_STATUS_COMB_LOCKED = 0 ∧ (s.rises 17 = false ∨ s.get F.BRN_STATUS_STATE ≠ 1 ∧ s.get F.BRN_STATUS_STATE ≠ 5) :=
  ⟨waking 3 0, by decide +kernel⟩

theorem witness_BarnWakeAndRotation_0_1 : ∃ (s : State), s.isUp = true ∧ s.rises 16 = true ∧ s.barn.failed = false ∧ s.get
    F.BRN_STATUS_COMB_LOCKED = 0 ∧ s.rises 17 = true ∧ s.get F.BRN_STATUS_STATE = 5 :=
  ⟨waking 5 0, by decide +kernel⟩

theorem witness_BarnWakeAndRotation_0_2 : ∃ (s : State), s.isUp = true ∧ s.rises 16 = true ∧ s.barn.failed = false ∧ s.get
    F.BRN_STATUS_COMB_LOCKED = 0 ∧ s.rises 17 = true ∧ s.get F.BRN_STATUS_STATE = 1 ∧ s.get F.BRN_STATUS_SETPOINTS = 1 :=
  ⟨(waking 1 0).set F.BRN_STATUS_SETPOINTS 1, by decide +kernel⟩

theorem witness_BarnWakeAndRotation_0_3 : ∃ (s : State) (k : Nat), s.isUp = true ∧ s.rises 16 = true ∧ s.barn.failed = false ∧ s.get
    F.BRN_STATUS_COMB_LOCKED = 0 ∧ s.rises 17 = true ∧ s.get F.BRN_STATUS_STATE = 1 ∧ s.get F.BRN_STATUS_SETPOINTS = 0 ∧ s.boot.newest
    = some k :=
  ⟨{ (waking 1 0) with boot := { up.boot with newest := some 1 } }, 1, by decide +kernel⟩

theorem witness_BarnWakeAndRotation_0_4 : ∃ (s : State), s.isUp = true ∧ s.rises 16 = true ∧ s.barn.failed = false ∧ s.get
    F.BRN_STATUS_COMB_LOCKED = 0 ∧ s.rises 17 = true ∧ s.get F.BRN_STATUS_STATE = 1 ∧ s.get F.BRN_STATUS_SETPOINTS = 0 ∧ s.boot.newest
    = none :=
  ⟨waking 1 0, by decide +kernel⟩

theorem witness_BarnWakeAndRotation_1_0 : ∃ (s : State) (g : List (BitVec 16)), s.isUp = true ∧ s.rises 17 = true ∧ s.get
    F.BRN_STATUS_STATE = 2 ∧ s.barnSettled ∧ s.barn.found = none ∧ s.flag F.SUP_STATUS_BRACE = false ∧ g.length = 128 ∧ s.mapsRead =
    false :=
  ⟨waking 2 1, List.replicate 128 7, by decide +kernel⟩

theorem witness_BarnWakeAndRotation_1_1 : ∃ (s : State) (g : List (BitVec 16)), s.isUp = true ∧ s.rises 17 = true ∧ s.get
    F.BRN_STATUS_STATE = 2 ∧ s.barnSettled ∧ s.barn.found = none ∧ s.flag F.SUP_STATUS_BRACE = false ∧ g.length = 128 ∧ s.mapsRead =
    true :=
  ⟨waking 2 1 { fetched := true }, List.replicate 128 7, by decide +kernel⟩

theorem witness_BarnWakeAndRotation_1_2 : ∃ (s : State) (g : List (BitVec 16)) (r : BitVec 13) (b : Nat) (m : Nat), s.isUp = true ∧
    s.rises 17 = true ∧ s.get F.BRN_STATUS_STATE = 2 ∧ s.barnSettled ∧ s.barn.found = none ∧ s.flag F.SUP_STATUS_BRACE = false ∧
    g.length = 128 ∧ s.mapsRead = true ∧ r.toNat < 4224 ∧ b = r.toNat / 1056 ∧ 32 ≤ r.toNat % 1056 ∧ m = (r.toNat % 1056 - 32) / 32 ∧
    s.colMasked b m = false ∧ s.stepping b = false :=
  ⟨waking 2 1 { fetched := true }, List.replicate 128 7, 4223, 3, 31, by decide +kernel⟩

theorem witness_BarnWakeAndRotation_2_0 : ∃ (s : State) (q : SweepMeas), s.isUp = true ∧ s.rises 17 = true ∧ s.get F.BRN_STATUS_STATE
    = 3 ∧ s.barn.sweeping = true ∧ s.barnSettled ∧ (q.combLocked = false ∨ s.get F.BRN_STATUS_COMB_LOCKED = 0) :=
  ⟨waking 3 1 { sweeping := true }, ⟨false, [], []⟩, by decide +kernel⟩

theorem witness_BarnWakeAndRotation_2_1 : ∃ (s : State) (q : SweepMeas), s.isUp = true ∧ s.rises 17 = true ∧ s.get F.BRN_STATUS_STATE
    = 3 ∧ s.barn.sweeping = true ∧ s.barnSettled ∧ q.combLocked = true ∧ s.get F.BRN_STATUS_COMB_LOCKED = 1 ∧ s.mapsRead = true ∧
    q.gains.length = 128 ∧ ∀ (r : Nat), r < 4224 → ∃ (g : RingMeas), g ∈ q.rings ∧ g.ring = r ∧ ringFine g = true :=
  ⟨waking 3 1 { sweeping := true, fetched := true }, ⟨true, (List.range 4224).map fun r => ⟨r, 2048, 0, 30⟩, List.replicate 128 7⟩,
      by decide +kernel, by decide +kernel, by decide +kernel, by decide +kernel, by decide +kernel, rfl, by decide +kernel,
      by decide +kernel, rfl, fun r h => ⟨⟨r, 2048, 0, 30⟩, List.mem_map.2 ⟨r, List.mem_range.2 h, rfl⟩, rfl, rfl⟩⟩

theorem witness_BarnWakeAndRotation_3_0 : ∃ (s : State), s.isUp = true ∧ s.rises 16 = true ∧ s.barn.failed = false ∧ s.barnSettled ∧
    s.get F.BRN_STATUS_COMB_LOCKED = 1 ∧ s.rises 17 = true ∧ 2 ≤ s.get F.BRN_STATUS_STATE ∧ s.get F.BRN_STATUS_STATE ≤ 5 ∧ (∀ (b :
    Nat), b < 4 → s.stepping b = false) ∧ ∀ (b : Fin 4), s.noWait (Engine.bay ↑b) :=
  ⟨waking 3 1, by decide +kernel⟩

theorem witness_BarnWakeAndRotation_3_1 : ∃ (s : State), s.isUp = true ∧ s.rises 16 = true ∧ s.barn.failed = false ∧ s.barnSettled ∧
    s.get F.BRN_STATUS_COMB_LOCKED = 0 ∧ s.barn.attempts < 2 :=
  ⟨{ (waking 0 0) with barn := { up.barn with attempts := 1 } }, by decide +kernel⟩

theorem witness_BarnWakeAndRotation_3_2 : ∃ (s : State), s.isUp = true ∧ s.rises 16 = true ∧ s.barn.failed = false ∧ s.barnSettled ∧
    s.get F.BRN_STATUS_COMB_LOCKED = 0 ∧ s.barn.attempts = 2 :=
  ⟨{ (waking 0 0) with barn := { up.barn with attempts := 2 } }, by decide +kernel⟩

theorem witness_BarnWakeAndRotation_4 : ∃ (s : State) (r : BitVec 13) (x : Byte), s.flag F.SUP_STATUS_BRACE = true ∨ BitVec.toNat x ≤
    s.unlockTol :=
  ⟨barned 3 {}, 4223, 2, by decide +kernel⟩

theorem witness_BarnWakeAndRotation_5_0 : ∃ (s : State) (r : BitVec 13) (x : Byte) (b : Nat) (k : Nat), s.barnReady = true ∧
    s.barnSettled ∧ s.flag F.SUP_STATUS_BRACE = false ∧ s.unlockTol < BitVec.toNat x ∧ r.toNat < 4224 ∧ b = r.toNat / 1056 ∧ k =
    r.toNat % 1056 ∧ s.stepping b = false ∧ s.bayOut b = false ∧ 32 ≤ k ∧ s.colMasked b ((k - 32) / 32) = false :=
  ⟨barned 3 {}, 4223, 255, 3, 1055, by decide +kernel⟩

theorem witness_BarnWakeAndRotation_5_1 : ∃ (s : State) (r : BitVec 13) (x : Byte) (b : Nat) (k : Nat), s.barnReady = true ∧
    s.barnSettled ∧ s.flag F.SUP_STATUS_BRACE = false ∧ s.unlockTol < BitVec.toNat x ∧ r.toNat < 4224 ∧ b = r.toNat / 1056 ∧ k =
    r.toNat % 1056 ∧ s.stepping b = false ∧ s.bayOut b = false ∧ k < 32 ∧ s.outLine b = k ∧ s.outFixed b = false ∧ (s.bay b).losses =
    0 ∧ (s.bay b).tile = none ∧ (s.bay b).cut = none ∧ (s.bay b).lostLine = none ∧ s.noWait (Engine.bay b) :=
  ⟨(barned 3 {}).set F.BRN_CHAN_OUT_OUT 0x1F000000, 3199, 255, 3, 31, by decide +kernel⟩

theorem witness_BarnWakeAndRotation_5_2 : ∃ (s : State) (r : BitVec 13) (x : Byte) (b : Nat) (k : Nat), s.barnReady = true ∧
    s.barnSettled ∧ s.flag F.SUP_STATUS_BRACE = false ∧ s.unlockTol < BitVec.toNat x ∧ r.toNat < 4224 ∧ b = r.toNat / 1056 ∧ k =
    r.toNat % 1056 ∧ s.stepping b = false ∧ s.bayOut b = false ∧ k < 32 ∧ s.outLine b ≠ k ∧ (s.bay b).losses = 0 ∧ (s.bay b).lostLine
    = none ∧ (s.bay b).tile = none ∧ (s.bay b).cut = none ∧ s.noWait (Engine.bay b) ∧ s.otherSteps b = false ∧ s.barnStays ∧
    s.pwr.state = 0 :=
  ⟨barned 3 {}, 3198, 255, 3, 30, by decide +kernel⟩

theorem witness_BarnWakeAndRotation_5_3 : ∃ (s : State) (r : BitVec 13) (x : Byte) (b : Nat) (k : Nat), s.barnReady = true ∧
    s.barnSettled ∧ s.flag F.SUP_STATUS_BRACE = false ∧ s.unlockTol < BitVec.toNat x ∧ r.toNat < 4224 ∧ b = r.toNat / 1056 ∧ k =
    r.toNat % 1056 ∧ s.stepping b = false ∧ s.bayOut b = false ∧ k < 32 ∧ s.outLine b ≠ k ∧ (s.bay b).losses = 0 ∧ (s.bay b).lostLine
    = none ∧ (s.bay b).tile = none ∧ (s.bay b).cut = none ∧ s.noWait (Engine.bay b) ∧ s.otherSteps b = true :=
  ⟨barned 0 { part := .dark }, 3198, 255, 3, 30, by decide +kernel⟩

theorem witness_BarnWakeAndRotation_5_4 : ∃ (s : State) (r : BitVec 13) (x : Byte) (b : Nat) (k : Nat), s.barnReady = true ∧
    s.barnSettled ∧ s.flag F.SUP_STATUS_BRACE = false ∧ s.unlockTol < BitVec.toNat x ∧ r.toNat < 4224 ∧ b = r.toNat / 1056 ∧ k =
    r.toNat % 1056 ∧ s.stepping b = false ∧ s.bayOut b = false ∧ k < 32 ∧ (s.outLine b ≠ k ∨ s.outFixed b = false) ∧ 1 ≤ (s.bay
    b).losses ∧ (s.bay b).lostLine = none ∧ (s.bay b).tile = none ∧ (s.bay b).cut = none ∧ s.noWait (Engine.bay b) :=
  ⟨barned 3 { losses := 1 }, 3198, 255, 3, 30, by decide +kernel⟩

theorem witness_BarnWakeAndRotation_6 : ∃ (s : State) (b : Fin 4), s.calLevel (CalElem.dark b) ≠ 0 ∨ s.calLevel (CalElem.line b) ≠ 0
    :=
  ⟨{ up with cal := { up.cal with level := [(133, 1)] } }, 3, by decide +kernel⟩

theorem witness_BarnWakeAndRotation_7_0 : ∃ (s : State) (b : Fin 4), s.calLevel (CalElem.dark b) = 0 ∧ s.calLevel (CalElem.line b) = 0
    ∧ s.barnReady = true ∧ s.barnSettled ∧ s.flag F.BRN_CFG_ROT_EN = true ∧ s.bayOut ↑b = false ∧ s.rotFixed ↑b = false ∧ s.stepping
    ↑b = false ∧ s.flag F.SUP_STATUS_BRACE = false ∧ (s.bay ↑b).loading = none ∧ (∀ (k : Nat), k < 4 → s.stepping k = false) ∧
    s.barnStays ∧ s.pwr.state = 0 :=
  ⟨barned 3 { tile := some job }, 3, by decide +kernel⟩

theorem witness_BarnWakeAndRotation_7_1 : ∃ (s : State) (b : Fin 4), s.calLevel (CalElem.dark b) = 0 ∧ s.calLevel (CalElem.line b) = 0
    ∧ s.barnReady = true ∧ s.barnSettled ∧ s.flag F.BRN_CFG_ROT_EN = true ∧ s.bayOut ↑b = false ∧ s.rotFixed ↑b = false ∧ s.stepping
    ↑b = false ∧ (s.flag F.SUP_STATUS_BRACE = true ∨ (s.bay ↑b).loading.isSome = true ∨ ∃ (k : Nat), k < 4 ∧ s.stepping k = true) :=
  ⟨barned 0 { part := .dark }, 3, by decide +kernel⟩

theorem witness_BarnWakeAndRotation_8_0 : ∃ (s : State) (b : Fin 4) (q : DarkMeas),
    let blanked := ∀ (n : Nat), n < 32 → 10 * s.get F.BRN_CFG_BLANK_DB ≤ q.depth.getD n 0
    let fine := ∀ (d : BitVec 16), d ∈ q.dark → 112 * 256 ≤ d.toNat ∧ d.toNat ≤ 144 * 256
    s.barnReady = true ∧ (s.bay ↑b).part = StepPart.dark ∧ q.dark.length = 32 ∧ s.barnSettled ∧ s.barnStays ∧ s.pwr.state = 0 ∧
      blanked ∧ fine :=
  ⟨barned 3 { part := .dark }, 3, ⟨List.replicate 32 300, List.replicate 32 0x7000⟩, by decide +kernel, by decide +kernel,
      by decide +kernel, by decide +kernel, by decide +kernel, by decide +kernel, by decide +kernel,
      fun d h => by cases List.eq_of_mem_replicate h; decide⟩

theorem witness_BarnWakeAndRotation_8_1 : ∃ (s : State) (b : Fin 4) (q : DarkMeas),
    let blanked := ∀ (n : Nat), n < 32 → 10 * s.get F.BRN_CFG_BLANK_DB ≤ q.depth.getD n 0
    let fine := ∀ (d : BitVec 16), d ∈ q.dark → 112 * 256 ≤ d.toNat ∧ d.toNat ≤ 144 * 256
    ∃ (step : Nat), s.barnReady = true ∧ (s.bay ↑b).part = StepPart.dark ∧ q.dark.length = 32 ∧ s.barnSettled ∧ s.barnStays ∧
      s.pwr.state = 0 ∧ (¬blanked ∧ step = 1 ∨ blanked ∧ ¬fine ∧ step = 3) ∧ (s.bay ↑b).lostLine = none :=
  ⟨barned 3 { part := .dark }, 3, ⟨List.replicate 32 300, List.replicate 32 0x6FFF⟩, 3, by decide +kernel, by decide +kernel,
      by decide +kernel, by decide +kernel, by decide +kernel, by decide +kernel,
      .inr ⟨by decide +kernel, fun h => absurd (h 0x6FFF (by decide)) (by decide), rfl⟩, by decide +kernel⟩

theorem witness_BarnWakeAndRotation_9_0 : ∃ (s : State) (b : Fin 4) (q : SweepMeas),
    let fine := q.combLocked = true ∧ s.get F.BRN_STATUS_COMB_LOCKED = 1 ∧ ∀ (n : Nat), n ∈ lineRings (↑b) (s.outLine ↑b) → ∃ (g :
        RingMeas), g ∈ q.rings ∧ g.ring = n ∧ ringFine g = true
    s.barnReady = true ∧ (s.bay ↑b).part = StepPart.sweep ∧ s.barnSettled ∧ s.barnStays ∧ s.pwr.state = 0 ∧ fine ∧ q.gains.length = 32
      :=
  ⟨barned 3 { part := .sweep }, 3, ⟨true, (lineRings 3 (barned 3 { part := .sweep } |>.outLine 3)).map fun r => ⟨r, 64, 0, 20⟩, List.replicate 32 7⟩, by decide +kernel⟩

theorem witness_BarnWakeAndRotation_9_1 : ∃ (s : State) (b : Fin 4) (q : SweepMeas),
    let fine := q.combLocked = true ∧ s.get F.BRN_STATUS_COMB_LOCKED = 1 ∧ ∀ (n : Nat), n ∈ lineRings (↑b) (s.outLine ↑b) → ∃ (g :
        RingMeas), g ∈ q.rings ∧ g.ring = n ∧ ringFine g = true
    s.barnReady = true ∧ (s.bay ↑b).part = StepPart.sweep ∧ s.barnSettled ∧ s.barnStays ∧ s.pwr.state = 0 ∧ ¬fine ∧ (s.bay
      ↑b).lostLine = none :=
  ⟨barned 3 { part := .sweep }, 3, ⟨true, (lineRings 3 (barned 3 { part := .sweep } |>.outLine 3)).map fun r => ⟨r, 4032, 0, 20⟩, []⟩, by decide +kernel⟩

theorem witness_BarnWakeAndRotation_10_0 : ∃ (s : State) (b : Fin 4) (l : List Loss), s.barnReady = true ∧ (s.bay ↑b).part =
    StepPart.pilot ∧ ∀ (x : Loss), x ∈ l → x.drop ≤ s.lossDb :=
  ⟨barned 3 { part := .pilot }, 3, [], by decide +kernel⟩

theorem witness_BarnWakeAndRotation_10_1 : ∃ (s : State) (b : Fin 4) (m : Fin 32) (x : Nat), s.barnReady = true ∧ (s.bay ↑b).part =
    StepPart.pilot ∧ s.barnSettled ∧ s.barnStays ∧ s.pwr.state = 0 ∧ (s.bay ↑b).lostLine = none ∧ s.colMasked ↑b ↑m = false ∧ s.lossDb
    < x :=
  ⟨barned 3 { part := .pilot }, 3, 31, 255, by decide +kernel⟩

theorem witness_BarnWakeAndRotation_11_0 : ∃ (s : State) (b : Fin 4) (x : Byte), s.barnReady = true ∧ (s.bay ↑b).part = StepPart.move
    ∧ s.locks x = true ∧ s.barnSettled ∧ s.barnStays ∧ s.pwr.state = 0 ∧ (s.bay ↑b).lostLine = none :=
  ⟨barned 3 { part := .move }, 3, 0, by decide +kernel⟩

theorem witness_BarnWakeAndRotation_11_1 : ∃ (s : State) (b : Fin 4) (x : Byte) (n : Nat), s.barnReady = true ∧ (s.bay ↑b).part =
    StepPart.move ∧ s.locks x = true ∧ s.barnSettled ∧ s.barnStays ∧ s.pwr.state = 0 ∧ n < 32 ∧ (s.bay ↑b).lostLine = some n :=
  ⟨barned 3 { part := .move, lostLine := some 31 }, 3, 0, 31, by decide +kernel⟩

theorem witness_BarnWakeAndRotation_12 : ∃ (s : State) (b : Fin 4) (x : Byte), s.flag F.SUP_STATUS_BRACE = true ∨ s.lockTol <
    BitVec.toNat x :=
  ⟨barned 3 { part := .move }, 3, 255, by decide +kernel⟩

theorem witness_BarnWakeAndRotation_13_0 : ∃ (s : State),
    let slot := s.get F.IMG_BOOT_ACTIVE_SLOT
    let h := s.imgHead slot
    s.isUp = true ∧ s.coreOn = true ∧ s.mapsRead = false ∧ s.barn.failed = false ∧ 0 < s.voteLevel 16 ∧ s.flag F.STW_NVM_GRANTED =
      false ∧ s.bankOk 1 = true ∧ s.flag F.SUP_STATUS_BRACE = false ∧ s.boot.writing = none ∧ s.secGood slot h 11 = true ∧ barnValid
      (s.section slot h 11) = true ∧ s.barn.found = none :=
  ⟨imaged barnSec (sha256 barnSec), by decide +kernel⟩

theorem witness_BarnWakeAndRotation_13_1 : ∃ (s : State),
    let slot := s.get F.IMG_BOOT_ACTIVE_SLOT
    let h := s.imgHead slot
    s.isUp = true ∧ s.coreOn = true ∧ s.mapsRead = false ∧ s.barn.failed = false ∧ 0 < s.voteLevel 16 ∧ s.flag F.STW_NVM_GRANTED =
      false ∧ s.bankOk 1 = true ∧ s.flag F.SUP_STATUS_BRACE = false ∧ s.boot.writing = none ∧ s.secGood slot h 11 = true ∧ barnValid
      (s.section slot h 11) = true ∧ s.barn.found = some [] ∧ s.barnSettled :=
  ⟨{ imaged barnSec (sha256 barnSec) with barn := { up.barn with found := some [] } }, by decide +kernel⟩

theorem witness_BarnWakeAndRotation_13_2 : ∃ (s : State),
    let slot := s.get F.IMG_BOOT_ACTIVE_SLOT
    let h := s.imgHead slot
    s.isUp = true ∧ s.coreOn = true ∧ s.mapsRead = false ∧ s.barn.failed = false ∧ 0 < s.voteLevel 16 ∧ s.flag F.STW_NVM_GRANTED =
      false ∧ s.bankOk 1 = true ∧ s.flag F.SUP_STATUS_BRACE = false ∧ s.boot.writing = none ∧ s.secGood slot h 11 = true ∧ barnValid
      (s.section slot h 11) = false ∧ (s.section slot h 11).isEmpty = false ∧ s.barn.found = none :=
  ⟨imaged badSec (sha256 badSec), by decide +kernel⟩

theorem witness_BarnWakeAndRotation_13_3 : ∃ (s : State),
    let slot := s.get F.IMG_BOOT_ACTIVE_SLOT
    let h := s.imgHead slot
    s.isUp = true ∧ s.coreOn = true ∧ s.mapsRead = false ∧ s.barn.failed = false ∧ 0 < s.voteLevel 16 ∧ s.flag F.STW_NVM_GRANTED =
      false ∧ s.bankOk 1 = true ∧ s.flag F.SUP_STATUS_BRACE = false ∧ s.boot.writing = none ∧ s.secGood slot h 11 = false ∧
      s.barn.waiting = [] :=
  ⟨imaged barnSec (List.replicate 32 0), by decide +kernel⟩

theorem witness_RingEntries_0_0 : ∃ (s : State) (r : BitVec 11) (e : List Byte) (m : Mem) (off : Nat), s.atEntryOf r.toNat 0 e m off ∧
    s.oldest r.toNat (s.ring r.toNat).ii s.mem m off e ∧ s.entryOpen r.toNat e :=
  ⟨ringed 2047 (ent 0), 2047, ent 0, .loft, 0x8000, by decide +kernel⟩

theorem witness_RingEntries_0_1 : ∃ (s : State) (r : BitVec 11) (e : List Byte) (m : Mem) (off : Nat), s.atEntryOf r.toNat 0 e m off ∧
    s.oldest r.toNat (s.ring r.toNat).ii s.mem m off e ∧ ¬s.entryOpen r.toNat e ∧ fieldAt e 8 4 ≤ s.tally (fieldAt e 4 2) :=
  ⟨(ringed 2047 (ent 0 [] 1 4094 9)).setAt F.TLY_TALLYt_VALUE 4094 9, 2047, ent 0 [] 1 4094 9, .loft, 0x8000, by decide +kernel⟩

theorem witness_RingEntries_0_2 : ∃ (s : State) (r : BitVec 11) (e : List Byte) (m : Mem) (off : Nat), s.atEntryOf r.toNat 0 e m off ∧
    s.oldest r.toNat (s.ring r.toNat).ii s.mem m off e ∧ ¬s.entryOpen r.toNat e ∧ s.tally (fieldAt e 4 2) < fieldAt e 8 4 ∧
    s.disp.waiters.length < 8192 :=
  ⟨ringed 2047 (ent 0 [] 0 4094 1), 2047, ent 0 [] 0 4094 1, .loft, 0x8000, by decide +kernel⟩

theorem witness_RingEntries_1 : ∃ (s : State) (r : BitVec 11) (e : List Byte) (m : Mem) (off : Nat), s.dispatches = true ∧ s.armed
    r.toNat = true ∧ s.getAt F.RNG_RINGi_CFG_KIND r.toNat = 0 ∧ s.pi r.toNat ≠ (s.ring r.toNat).ii ∧ (∀ (d : Nat), d ∈ memDomain m off
    → s.steadyAt d 2 = true) ∧ s.noWait (Engine.ring r.toNat) ∧ s.oldest r.toNat (s.ring r.toNat).ii s.mem m off e ∧ (byteAt e 0 = 0 ∨
    8 ≤ byteAt e 0) ∧ s.entryOk r.toNat e = false :=
  ⟨ringed 2047 (ent 8), 2047, ent 8, .loft, 0x8000, by decide +kernel⟩

theorem witness_RingEntries_2 : ∃ (s : State) (r : BitVec 11) (e : List Byte) (m : Mem) (off : Nat) (q : Instr × Nat × (Nat → Nat →
    Nat)), q ∈ [(Instr.entryTallyAdd r, 0, fun (v n : Nat) => min (v + n) (2 ^ 32 - 1)), (Instr.entryTallySub r, 1, fun (v n : Nat) =>
    v - n), (Instr.entryTallySet r, 2, fun (x n : Nat) => n)] ∧ s.atEntryOf r.toNat 4 e m off ∧ s.entryOpen r.toNat e ∧ s.oldest
    r.toNat (s.ring r.toNat).ii s.mem m off e ∧ byteAt (entryBody e) 0 = q.snd.fst ∧ s.TallyQuiet (fieldAt (entryBody e) 2 2) :=
  ⟨ringed 2047 (ent 4 [2, 0, 0xFE, 0x0F, 7]), 2047, ent 4 [2, 0, 0xFE, 0x0F, 7], .loft, 0x8000, (.entryTallySet 2047, 2, fun _ n => n),
      by simp, by decide +kernel⟩

theorem witness_RingEntries_3_0 : ∃ (s : State) (r : BitVec 11) (e : List Byte) (m : Mem) (off : Nat),
    let k := fieldAt (entryBody e) 0 2
    let n := fieldAt (entryBody e) 2 2
    let room := s.getAt F.RNG_RINGi_CFG_OWNER k = 0 ∧ ringDiff (s.pi k) (s.di k) + n ≤ s.ringSize k
    s.atEntryOf r.toNat 7 e m off ∧ s.entryOpen r.toNat e ∧ s.oldest r.toNat (s.ring r.toNat).ii s.mem m off e ∧ room ∧ k ≠ r.toNat :=
  ⟨ringed 2047 (ent 7 [1, 0, 16]), 2047, ent 7 [1, 0, 16], .loft, 0x8000, by decide +kernel⟩

theorem witness_RingEntries_3_1 : ∃ (s : State) (r : BitVec 11) (e : List Byte) (m : Mem) (off : Nat),
    let k := fieldAt (entryBody e) 0 2
    let n := fieldAt (entryBody e) 2 2
    let room := s.getAt F.RNG_RINGi_CFG_OWNER k = 0 ∧ ringDiff (s.pi k) (s.di k) + n ≤ s.ringSize k
    s.atEntryOf r.toNat 7 e m off ∧ s.entryOpen r.toNat e ∧ s.oldest r.toNat (s.ring r.toNat).ii s.mem m off e ∧ room ∧ k = r.toNat ∧
      s.getAt F.RNG_RINGi_CFG_REPEAT k = 0 :=
  ⟨ringed 2047 (ent 7 [0xFF, 7, 15]), 2047, ent 7 [0xFF, 7, 15], .loft, 0x8000, by decide +kernel⟩

theorem witness_RingEntries_3_2 : ∃ (s : State) (r : BitVec 11) (e : List Byte) (m : Mem) (off : Nat),
    let k := fieldAt (entryBody e) 0 2
    let n := fieldAt (entryBody e) 2 2
    let room := s.getAt F.RNG_RINGi_CFG_OWNER k = 0 ∧ ringDiff (s.pi k) (s.di k) + n ≤ s.ringSize k
    s.atEntryOf r.toNat 7 e m off ∧ s.entryOpen r.toNat e ∧ s.oldest r.toNat (s.ring r.toNat).ii s.mem m off e ∧ ¬room :=
  ⟨ringed 2047 (ent 7 [1, 0, 17]), 2047, ent 7 [1, 0, 17], .loft, 0x8000, by decide +kernel⟩

theorem witness_RingEntries_4_0 : ∃ (s : State) (r : BitVec 11) (e : List Byte) (m : Mem) (off : Nat),
    let x := fieldAt (entryBody e) 0 2
    let v := fieldAt (entryBody e) 4 4
    s.atEntryOf r.toNat 6 e m off ∧ s.entryOpen r.toNat e ∧ s.oldest r.toNat (s.ring r.toNat).ii s.mem m off e ∧ v ≤ s.tally x ∧
      s.disp.notify.length < 64 :=
  ⟨(ringed 2047 (ent 6 [0xFE, 0x0F])).setAt F.RNG_RINGi_CFG_OWNER 2047 1, 2047, ent 6 [0xFE, 0x0F], .loft, 0x8000,
      by decide +kernel⟩

theorem witness_RingEntries_4_1 : ∃ (s : State) (r : BitVec 11) (e : List Byte) (m : Mem) (off : Nat),
    let x := fieldAt (entryBody e) 0 2
    let v := fieldAt (entryBody e) 4 4
    s.atEntryOf r.toNat 6 e m off ∧ s.entryOpen r.toNat e ∧ s.oldest r.toNat (s.ring r.toNat).ii s.mem m off e ∧ s.tally x < v ∧
      s.disp.waiters.length < 8192 :=
  ⟨(ringed 2047 (ent 6 [0xFE, 0x0F, 0, 0, 1])).setAt F.RNG_RINGi_CFG_OWNER 2047 1, 2047, ent 6 [0xFE, 0x0F, 0, 0, 1], .loft,
      0x8000, by decide +kernel⟩

theorem witness_RingEntries_4_2 : ∃ (s : State) (r : BitVec 11) (e : List Byte) (m : Mem) (off : Nat),
    let x := fieldAt (entryBody e) 0 2
    let v := fieldAt (entryBody e) 4 4
    s.atEntryOf r.toNat 6 e m off ∧ s.entryOpen r.toNat e ∧ s.oldest r.toNat (s.ring r.toNat).ii s.mem m off e ∧ s.tally x < v ∧ 8192
      ≤ s.disp.waiters.length :=
  ⟨{ ((ringed 2047 (ent 6 [0xFE, 0x0F, 0, 0, 1])).setAt F.RNG_RINGi_CFG_OWNER 2047 1) with disp := { up.disp with waiters := List.replicate 8192 ⟨.gate, 0, 1, 1, false⟩ } },
      2047, ent 6 [0xFE, 0x0F, 0, 0, 1], .loft, 0x8000, by decide +kernel⟩

theorem witness_RingEntries_5_0 : ∃ (s : State) (r : BitVec 11) (e : List Byte) (m : Mem) (off : Nat) (p : Nat) (k : Nat), s.atEntryOf
    r.toNat 5 e m off ∧ p = byteAt (entryBody e) 0 ∧ k = byteAt (entryBody e) 1 ∧ s.portsOn = true ∧ (s.portReady p = false ∨
    s.portIdle p = false ∨ s.yardWaits p = true) :=
  ⟨ringed 2047 (ent 5 [7, 7]), 2047, ent 5 [7, 7], .loft, 0x8000, 7, 7, by decide +kernel⟩

theorem witness_RingEntries_5_1 : ∃ (s : State) (r : BitVec 11) (e : List Byte) (m : Mem) (off : Nat) (p : Nat) (k : Nat), s.atEntryOf
    r.toNat 5 e m off ∧ p = byteAt (entryBody e) 0 ∧ k = byteAt (entryBody e) 1 ∧ s.portsOn = true ∧ s.portReady p = true ∧ s.portIdle
    p = true ∧ s.yardWaits p = false ∧ s.entryOpen r.toNat e ∧ s.scriptOf p k ≠ [] :=
  ⟨({ (ringed 2047 (ent 5 [7, 7])) with head := { up.head with scripts := [(63, [0])] } } : State).setAt F.SPT_PORTn_STATUS_STATE 7 3,
      2047, ent 5 [7, 7], .loft, 0x8000, 7, 7, by decide +kernel⟩

theorem witness_RingEntries_5_2 : ∃ (s : State) (r : BitVec 11) (e : List Byte) (m : Mem) (off : Nat) (p : Nat) (k : Nat), s.atEntryOf
    r.toNat 5 e m off ∧ p = byteAt (entryBody e) 0 ∧ k = byteAt (entryBody e) 1 ∧ s.portsOn = false :=
  ⟨{ (ringed 2047 (ent 5 [7, 7])) with pwr := { up.pwr with level := elPut 0 up.pwr.level 20 0 } }, 2047, ent 5 [7, 7], .loft,
      0x8000, 7, 7, by decide +kernel⟩

theorem witness_RingEntries_6_0 : ∃ (s : State) (r : BitVec 11) (e : List Byte) (m : Mem) (off : Nat) (q : Instr × Nat),
    let j := s.ringTile r.toNat
    q ∈ [(Instr.tile r, 1), (Instr.head r, 2)] ∧ s.atEntryOf r.toNat q.snd e m off ∧ s.fab.reissues = [] ∧ (q.snd = 1 → byteAt
      (entryBody e) 6 = 0 ∧ s.steadyAt (12 + j.first / 4194304) 2 = true) ∧ (s.issuesTiles (s.cls r.toNat) = false ∨ s.myTurn r.toNat
      s.placeable = false) :=
  ⟨((ringed 2047 (ent 1 (tileBody 0))).setAt F.RNG_RINGi_CFG_CLASS 2047 3).set F.VRC_STATUS_CLAMP 1, 2047, ent 1 (tileBody 0), .loft, 0x8000, (.tile 2047, 1), by decide +kernel⟩

theorem witness_RingEntries_6_1_0 : ∃ (s : State) (r : BitVec 11) (e : List Byte) (m : Mem) (off : Nat) (q : Instr × Nat),
    let j := s.ringTile r.toNat
    ∃ (st : Nat), q ∈ [(Instr.tile r, 1), (Instr.head r, 2)] ∧ s.atEntryOf r.toNat q.snd e m off ∧ s.fab.reissues = [] ∧ (q.snd = 1 →
      byteAt (entryBody e) 6 = 0 ∧ s.steadyAt (12 + j.first / 4194304) 2 = true) ∧ s.issuesTiles (s.cls r.toNat) = true ∧ s.myTurn
      r.toNat s.placeable = true ∧ s.entryOpen r.toNat e ∧ (bitOf (byteAt e 1) 1 = false ∨ fieldAt e 4 2 = 65535) ∧ s.placeOf
      (s.asEmul j) = Place.on st :=
  ⟨ringed 2047 (ent 1 (tileBody 0)), 2047, ent 1 (tileBody 0), .loft, 0x8000, (.tile 2047, 1), 0, by decide +kernel⟩

theorem witness_RingEntries_6_1_1 : ∃ (s : State) (r : BitVec 11) (e : List Byte) (m : Mem) (off : Nat) (q : Instr × Nat),
    let j := s.ringTile r.toNat
    q ∈ [(Instr.tile r, 1), (Instr.head r, 2)] ∧ s.atEntryOf r.toNat q.snd e m off ∧ s.fab.reissues = [] ∧ (q.snd = 1 → byteAt
      (entryBody e) 6 = 0 ∧ s.steadyAt (12 + j.first / 4194304) 2 = true) ∧ s.issuesTiles (s.cls r.toNat) = true ∧ s.myTurn r.toNat
      s.placeable = true ∧ s.entryOpen r.toNat e ∧ (bitOf (byteAt e 1) 1 = false ∨ fieldAt e 4 2 = 65535) ∧ s.placeOf (s.asEmul j) =
      Place.later :=
  ⟨{ ringed 2047 (ent 1 (tileBody 0)) with fab := { up.fab with stalls := (List.range 96).map fun st => (st, { tile := some { job with cls := 0 } }) } }, 2047, ent 1 (tileBody 0), .loft, 0x8000, (.tile 2047, 1), by decide +kernel⟩

theorem witness_RingEntries_6_1_2 : ∃ (s : State) (r : BitVec 11) (e : List Byte) (m : Mem) (off : Nat) (q : Instr × Nat),
    let j := s.ringTile r.toNat
    q ∈ [(Instr.tile r, 1), (Instr.head r, 2)] ∧ s.atEntryOf r.toNat q.snd e m off ∧ s.fab.reissues = [] ∧ (q.snd = 1 → byteAt
      (entryBody e) 6 = 0 ∧ s.steadyAt (12 + j.first / 4194304) 2 = true) ∧ s.issuesTiles (s.cls r.toNat) = true ∧ s.myTurn r.toNat
      s.placeable = true ∧ s.entryOpen r.toNat e ∧ (bitOf (byteAt e 1) 1 = false ∨ fieldAt e 4 2 = 65535) ∧ s.placeOf (s.asEmul j) =
      Place.nowhere ∧ s.oldest r.toNat (s.ring r.toNat).ii s.mem m off e :=
  ⟨(((ringed 2047 (ent 1 (tileBody 0))).setReg R.STL_FENCEDk 0 0xFFFFFFFF).setReg R.STL_FENCEDk 1 0xFFFFFFFF).setReg R.STL_FENCEDk 2 0xFFFFFFFF, 2047, ent 1 (tileBody 0), .loft, 0x8000, (.tile 2047, 1), by decide +kernel⟩

theorem witness_RingEntries_6_2 : ∃ (s : State) (r : BitVec 11) (e : List Byte) (m : Mem) (off : Nat) (q : Instr × Nat),
    let j := s.ringTile r.toNat
    ∃ (st : Nat), q ∈ [(Instr.tile r, 1), (Instr.head r, 2)] ∧ s.atEntryOf r.toNat q.snd e m off ∧ s.fab.reissues = [] ∧ (q.snd = 1 →
      byteAt (entryBody e) 6 = 0 ∧ s.steadyAt (12 + j.first / 4194304) 2 = true) ∧ s.issuesTiles (s.cls r.toNat) = true ∧ s.myTurn
      r.toNat s.placeable = true ∧ bitOf (byteAt e 1) 1 = true ∧ fieldAt e 4 2 ≠ 65535 ∧ s.tally (fieldAt e 4 2) < fieldAt e 8 4 ∧
      s.disp.waiters.length < 8192 ∧ s.placeOf (s.asEmul { j with gated := true }) = Place.on st :=
  ⟨ringed 2047 (ent 1 (tileBody 0) 2 4095 1), 2047, ent 1 (tileBody 0) 2 4095 1, .loft, 0x8000, (.tile 2047, 1), 0, by decide +kernel⟩

theorem witness_RingEntries_7 : ∃ (s : State) (r : BitVec 11) (e : List Byte) (m : Mem) (off : Nat) (b : Fin 4),
    let j : TileJob := { s.ringTile r.toNat with wset := 0xFFFF }
    s.atEntryOf r.toNat 1 e m off ∧ byteAt (entryBody e) 6 = 1 ∧ s.isHint j = false ∧ s.steadyAt (12 + j.first / 4194304) 2 = true ∧
      s.issuesTiles (s.cls r.toNat) = true ∧ s.myTurn r.toNat s.bayable = true ∧ s.barnReady = true ∧ s.barn.failed = false ∧
      s.barnDead = false ∧ s.barnSettled ∧ s.barnStays ∧ s.entryOpen r.toNat e ∧ s.bayOf j = Place.on ↑b :=
  ⟨barned 3 {} (barnDesc 0x10 []), 0, barnEnt, .loft, 0x8000, 0, by decide +kernel⟩

theorem witness_RingEntries_8_0 : ∃ (s : State) (r : BitVec 11) (m : Mem) (ma : Mem) (off : Nat) (oa : Nat) (st : Nat), s.issuesTiles
    (s.cls r.toNat) = true ∧ s.myTurn r.toNat s.placeable = true ∧ s.armed r.toNat = true ∧ s.noWait (Engine.ring r.toNat) ∧ s.getAt
    F.RNG_RINGi_CFG_KIND r.toNat = 1 ∧ s.pi r.toNat ≠ (s.ring r.toNat).ii ∧ (s.ring r.toNat).tileOut = false ∧ s.entryAt r.toNat
    (s.ring r.toNat).ii = some (m, off) ∧ (∀ (d : Nat), d ∈ memDomain m off → s.steadyAt d 2 = true) ∧ fabAddr (s.ring r.toNat).arg =
    FabAddr.mem ma oa ∧ (∀ (d : Nat), d ∈ memDomain ma oa → s.steadyAt d 2 = true) ∧ s.fab.reissues = [] :=
  ⟨({ (ringed 2047 (ent 0)) with disp := { up.disp with rings := [(2047, { arg := 0x40000100 })] } } : State).setAt F.RNG_RINGi_CFG_KIND 2047 1, 2047, .loft, .loft, 0x8000, 0x100, 0, by decide +kernel⟩

theorem witness_RingEntries_8_1 : ∃ (s : State) (r : BitVec 11) (m : Mem) (ma : Mem) (off : Nat) (oa : Nat) (st : Nat), s.issuesTiles
    (s.cls r.toNat) = true ∧ s.myTurn r.toNat s.placeable = true ∧ s.armed r.toNat = true ∧ s.noWait (Engine.ring r.toNat) ∧ s.getAt
    F.RNG_RINGi_CFG_KIND r.toNat = 1 ∧ s.pi r.toNat ≠ (s.ring r.toNat).ii ∧ (s.ring r.toNat).tileOut = false ∧ s.entryAt r.toNat
    (s.ring r.toNat).ii = some (m, off) ∧ (∀ (d : Nat), d ∈ memDomain m off → s.steadyAt d 2 = true) ∧ fabAddr (s.ring r.toNat).arg =
    FabAddr.mem ma oa ∧ (∀ (d : Nat), d ∈ memDomain ma oa → s.steadyAt d 2 = true) ∧ s.fab.reissues = [] :=
  ⟨({ (ringed 2047 (ent 0)) with disp := { up.disp with rings := [(2047, { arg := 0x40000100 })] } } : State).setAt F.RNG_RINGi_CFG_KIND 2047 1, 2047, .loft, .loft, 0x8000, 0x100, 0, by decide +kernel⟩

theorem witness_RingEntries_8_2 : ∃ (s : State) (r : BitVec 11) (m : Mem) (ma : Mem) (off : Nat) (oa : Nat) (st : Nat),
    let j := s.ringTile r.toNat
    s.issuesTiles (s.cls r.toNat) = true ∧ s.myTurn r.toNat s.placeable = true ∧ s.armed r.toNat = true ∧ s.noWait (Engine.ring
      r.toNat) ∧ s.getAt F.RNG_RINGi_CFG_KIND r.toNat = 1 ∧ s.pi r.toNat ≠ (s.ring r.toNat).ii ∧ (s.ring r.toNat).tileOut = false ∧
      s.entryAt r.toNat (s.ring r.toNat).ii = some (m, off) ∧ (∀ (d : Nat), d ∈ memDomain m off → s.steadyAt d 2 = true) ∧ fabAddr
      (s.ring r.toNat).arg = FabAddr.mem ma oa ∧ (∀ (d : Nat), d ∈ memDomain ma oa → s.steadyAt d 2 = true) ∧ s.fab.reissues = [] ∧
      s.placeOf (s.asEmul j) = Place.on st :=
  ⟨({ (ringed 2047 (ent 0)) with disp := { up.disp with rings := [(2047, { arg := 0x40000100 })] } } : State).setAt F.RNG_RINGi_CFG_KIND 2047 1, 2047, .loft, .loft, 0x8000, 0x100, 0, by decide +kernel⟩

theorem witness_MoverAndTallies_0 : ∃ (s : State) (r : BitVec 11) (e : List Byte) (m : Mem) (off : Nat), s.atEntryOf r.toNat 3 e m off
    ∧ s.entryOpen r.toNat e ∧ s.moves < 64 ∧ (s.cls r.toNat = 0 ∨ s.c0Move = false) :=
  ⟨(ringed 2047 (ent 3 (moveBody 0 0 0x40000000 0x40001000 2 3 2 2))).setAt F.RNG_RINGi_CFG_CHANNEL 2047 15, 2047,
      ent 3 (moveBody 0 0 0x40000000 0x40001000 2 3 2 2), .loft, 0x8000, by decide +kernel⟩

theorem witness_MoverAndTallies_1 : ∃ (s : State) (c : Fin 16) (j : MoveJob) (rest : List MoveJob) (sm : Mem) (dm : Mem) (so : Nat)
    (dO : Nat), s.atMove (↑c) 0 j rest sm so dm dO ∧ (spansMeet j.body = false ∨ sameStrides j.body = true) :=
  ⟨moving (moveBody 0 0 0x40000000 0x40000001 2 3 2 2), 15, ⟨0, 0, moveBody 0 0 0x40000000 0x40000001 2 3 2 2, false, 0⟩, [],
      .loft, .loft, 0, 1, by decide +kernel⟩

theorem witness_MoverAndTallies_2 : ∃ (s : State) (c : Fin 16) (j : MoveJob) (rest : List MoveJob) (sm : Mem) (dm : Mem) (so : Nat)
    (dO : Nat), s.atMove (↑c) 1 j rest sm so dm dO :=
  ⟨moving (moveBody 1 0 0 0x40FFFFFA 2 3 0 2), 15, ⟨0, 0, moveBody 1 0 0 0x40FFFFFA 2 3 0 2, false, 0⟩, [], .loft, .loft, 0,
      0xFFFFFA, by decide +kernel⟩

theorem witness_MoverAndTallies_3 : ∃ (s : State) (c : Fin 16) (j : MoveJob) (rest : List MoveJob) (sm : Mem) (dm : Mem) (so : Nat)
    (dO : Nat), s.atMove (↑c) 2 j rest sm so dm dO ∧ spansMeet j.body = false :=
  ⟨moving (moveBody 2 1 0x40000000 0x40001000 4 3 4 6), 15, ⟨0, 0, moveBody 2 1 0x40000000 0x40001000 4 3 4 6, false, 0⟩, [],
      .loft, .loft, 0, 0x1000, by decide +kernel⟩

theorem witness_MoverAndTallies_4_0 : ∃ (s : State) (c : Fin 16) (j : MoveJob) (rest : List MoveJob) (op : Nat),
    let inside := (op ≠ 1 → (srcSide j.body).inside = true) ∧ (dstSide j.body).inside = true
    ∃ (q : Instr × Nat), s.chan ↑c = j :: rest ∧ s.isUp = true ∧ s.coreOn = true ∧ s.alarmHold = false ∧ s.disp.stopped = false ∧
      j.ran = false ∧ mvOp j.body = op ∧ (dstSide j.body).place.isSome = true ∧ (op ≠ 1 → (srcSide j.body).place.isSome = true) ∧ q ∈
      [(Instr.copy c, 0), (Instr.fill c, 1), (Instr.transpose c, 2)] ∧ q.snd = op ∧ ¬inside :=
  ⟨moving (moveBody 0 0 0x40000000 0x40FFFFFB 2 3 2 2), 15, ⟨0, 0, moveBody 0 0 0x40000000 0x40FFFFFB 2 3 2 2, false, 0⟩, [], 0,
      (.copy 15, 0), by decide +kernel⟩

theorem witness_MoverAndTallies_4_1 : ∃ (s : State) (c : Fin 16) (j : MoveJob) (rest : List MoveJob) (op : Nat),
    let inside := (op ≠ 1 → (srcSide j.body).inside = true) ∧ (dstSide j.body).inside = true
    ∃ (q : Instr × Nat), s.chan ↑c = j :: rest ∧ s.isUp = true ∧ s.coreOn = true ∧ s.alarmHold = false ∧ s.disp.stopped = false ∧
      j.ran = false ∧ mvOp j.body = op ∧ (dstSide j.body).place.isSome = true ∧ (op ≠ 1 → (srcSide j.body).place.isSome = true) ∧ q ∈
      [(Instr.copy c, 0), (Instr.fill c, 1), (Instr.transpose c, 2)] ∧ q.snd = op ∧ inside ∧ op ≠ 1 ∧ spansMeet j.body = true ∧ (op =
      2 ∨ sameStrides j.body = false) :=
  ⟨moving (moveBody 0 0 0x40000000 0x40000001 2 3 2 3), 15, ⟨0, 0, moveBody 0 0 0x40000000 0x40000001 2 3 2 3, false, 0⟩, [], 0,
      (.copy 15, 0), by decide +kernel⟩

theorem witness_MoverAndTallies_5 : ∃ (s : State) (c : Fin 16) (j : MoveJob) (rest : List MoveJob) (m : Mem) (off : Nat) (e : List
    Byte), s.chan ↑c = j :: rest ∧ j.ran = true ∧ s.isUp = true ∧ s.coreOn = true ∧ j.status < 256 ∧ s.oldest j.ring j.idx s.mem m off
    e :=
  ⟨ringIn (moving (moveBody 1 0 0 0x40001000 2 3 0 2) true 19) 0 (ent 3), 15, ⟨0, 0, moveBody 1 0 0 0x40001000 2 3 0 2, true, 19⟩,
      [], .loft, 0x8000, ent 3, by decide +kernel⟩

theorem witness_MoverAndTallies_6_0 : ∃ (s : State) (v : Word),
    let k := F.RNG_DOORBELL_RING.of v
    let n := F.RNG_DOORBELL_COUNT.of v
    let room := k < 2048 ∧ s.getAt F.RNG_RINGi_CFG_OWNER k = 2 ∧ ringDiff (s.pi k) (s.di k) + n ≤ s.ringSize k
    s.reaches Master.steward = true ∧ n ≠ 0 ∧ room :=
  ⟨up.setAt F.RNG_RINGi_CFG_OWNER 2047 2, 0x07FF0010, by decide +kernel⟩

theorem witness_MoverAndTallies_6_1 : ∃ (s : State) (v : Word),
    let k := F.RNG_DOORBELL_RING.of v
    let n := F.RNG_DOORBELL_COUNT.of v
    let room := k < 2048 ∧ s.getAt F.RNG_RINGi_CFG_OWNER k = 2 ∧ ringDiff (s.pi k) (s.di k) + n ≤ s.ringSize k
    s.reaches Master.steward = true ∧ n ≠ 0 ∧ ¬room :=
  ⟨up.setAt F.RNG_RINGi_CFG_OWNER 2047 2, 0x07FF0011, by decide +kernel⟩

theorem witness_MoverAndTallies_6_2 : ∃ (s : State) (v : Word),
    let n := F.RNG_DOORBELL_COUNT.of v
    s.reaches Master.steward = true ∧ n = 0 :=
  ⟨up, 0, by decide +kernel⟩

theorem witness_MoverAndTallies_7 : ∃ (s : State) (x : BitVec 12) (q : Instr × (Nat → Nat → Nat)), s.reaches Master.steward = true ∧ q
    ∈ [(Instr.tlyAdd Master.steward x, fun (v n : Nat) => min (v + n) (2 ^ 32 - 1)), (Instr.tlySub Master.steward x, fun (v n : Nat)
    => v - n), (Instr.tlySet Master.steward x, fun (x n : Nat) => n)] ∧ s.TallyQuiet x.toNat :=
  ⟨up, 4094, (.tlySub .steward 4094, fun v n => v - n), by decide +kernel, by simp, by decide +kernel⟩

theorem witness_MoverAndTallies_8 : ∃ (s : State) (x : BitVec 12) (w : Waiter),
    let v := min (s.tally x.toNat + s.get F.TLY_VALUE_VALUE) (2 ^ 32 - 1)
    s.reaches Master.steward = true ∧ s.disp.ops = [] ∧ s.disp.waiters = [w] ∧ w.tally = x.toNat ∧ w.what = WaitFor.gate ∧ (∀ (c :
      WsetCfg), c ∈ s.cim.sets → c.tally ≠ x.toNat) ∧ w.value ≤ v :=
  ⟨{ up with disp := { up.disp with waiters := [⟨.gate, 0, 4095, 0, true⟩] } }, 4095, ⟨.gate, 0, 4095, 0, true⟩,
      by decide +kernel⟩

theorem witness_HostCommands_0_0 : ∃ (s : State) (q : Byte) (d : Byte) (l : Byte), s.reaches Master.host = true ∧ BitVec.toNat d < 24
    ∧ BitVec.toNat l < 3 :=
  ⟨hosted, 9, 23, 1, by decide +kernel⟩

theorem witness_HostCommands_0_1 : ∃ (s : State) (q : Byte) (d : Byte) (l : Byte), s.reaches Master.host = true ∧ (24 ≤ BitVec.toNat d
    ∨ 3 ≤ BitVec.toNat l) :=
  ⟨hosted, 9, 24, 1, by decide +kernel⟩

theorem witness_HostCommands_1_0 : ∃ (s : State) (q : Byte) (g : Byte), s.reaches Master.host = true ∧ s.isUp = true ∧ s.ChipQuiet ∧
    s.flag F.SPN_STATUS_XT_STOPPED = false ∧ s.pwr.state < BitVec.toNat g ∧ BitVec.toNat g < 4 :=
  ⟨hosted, 9, 3, by decide +kernel⟩

theorem witness_HostCommands_1_1 : ∃ (s : State) (q : Byte) (g : Byte), s.reaches Master.host = true ∧ s.isUp = true ∧ s.ChipQuiet ∧
    s.flag F.SPN_STATUS_XT_STOPPED = false ∧ 4 ≤ BitVec.toNat g :=
  ⟨hosted, 9, 4, by decide +kernel⟩

theorem witness_HostCommands_2 : ∃ (s : State) (q : Byte) (m : Byte), s.reaches Master.host = true :=
  ⟨outbox, 9, by decide +kernel⟩

theorem witness_HostCommands_3_0 : ∃ (s : State) (q : Byte), s.reaches Master.host = true ∧ s.attached 0 = false ∧ bitOf (s.get
    F.GATE_CFG_OUTPUTS) 0 = true :=
  ⟨hosted.set F.GATE_CFG_OUTPUTS 1, 9, by decide +kernel⟩

theorem witness_HostCommands_3_1 : ∃ (s : State) (q : Byte), s.reaches Master.host = true ∧ bitOf (s.get F.GATE_CFG_OUTPUTS) 0 = false
    :=
  ⟨hosted.set F.GATE_CFG_OUTPUTS 14, 9, by decide +kernel⟩

theorem witness_HostCommands_3_2 : ∃ (s : State) (q : Byte), s.reaches Master.host = true :=
  ⟨outbox, 9, by decide +kernel⟩

theorem witness_HostCommands_3_3 : ∃ (s : State) (q : Byte), s.reaches Master.host = true ∧ s.isUp = true ∧ s.alarmHold = false :=
  ⟨hosted, 9, by decide +kernel⟩

theorem witness_HostCommands_4 : ∃ (s : State) (c : Byte) (q : Byte), s.reaches Master.host = true :=
  ⟨outbox, 9, by decide +kernel⟩

theorem witness_HostCommands_5_0 : ∃ (s : State) (v : Word),
    let k := F.RNG_DOORBELL_RING.of v
    let n := F.RNG_DOORBELL_COUNT.of v
    let room := s.getAt F.RNG_RINGi_CFG_OWNER k = 1 ∧ ringDiff (s.pi k) (s.di k) + n ≤ s.ringSize k
    s.reaches Master.host = true ∧ n ≠ 0 ∧ room :=
  ⟨hosted.setAt F.RNG_RINGi_CFG_OWNER 2047 1, 0x07FF0001, by decide +kernel⟩

theorem witness_HostCommands_5_1 : ∃ (s : State) (v : Word),
    let k := F.RNG_DOORBELL_RING.of v
    let n := F.RNG_DOORBELL_COUNT.of v
    let room := s.getAt F.RNG_RINGi_CFG_OWNER k = 1 ∧ ringDiff (s.pi k) (s.di k) + n ≤ s.ringSize k
    s.reaches Master.host = true ∧ n ≠ 0 ∧ ¬room :=
  ⟨hosted.setAt F.RNG_RINGi_CFG_OWNER 2047 1, 0x07FF0011, by decide +kernel⟩

theorem witness_HostCommands_6_0 : ∃ (s : State) (v : Word),
    let n := outDiff (BitVec.toNat v % 256) (s.outIdx 0)
    s.reaches Master.host = true ∧ s.attached 0 = true ∧ s.alarmHold = false ∧ 0 < n ∧ n ≤ s.waitingFor 0 :=
  ⟨outbox, 2, by decide +kernel⟩

theorem witness_HostCommands_6_1 : ∃ (s : State) (v : Word),
    let n := outDiff (BitVec.toNat v % 256) (s.outIdx 0)
    s.reaches Master.host = true ∧ s.attached 0 = true ∧ s.alarmHold = false ∧ (n = 0 ∨ s.waitingFor 0 < n) :=
  ⟨outbox, 3, by decide +kernel⟩

theorem witness_HostCommands_7_0 : ∃ (s : State), s.reaches Master.host = true ∧ s.disp.notify = [] :=
  ⟨hosted, by decide +kernel⟩

theorem witness_HostCommands_7_1 : ∃ (s : State) (r : Nat) (g : Nat) (rest : List (Nat × Nat)), s.reaches Master.host = true ∧
    s.disp.notify = (r, g) :: rest ∧ s.disp.notifyHeld = [] ∧ r < 2048 ∧ g < 65536 :=
  ⟨{ hosted with disp := { hosted.disp with notify := [(2047, 5)] } }, 2047, 5, [], by decide +kernel⟩

theorem witness_HostCommands_8 : ∃ (s : State) (g : BitVec 3) (w : BitVec 2), s.level 21 = 2 ∧ s.flag F.PCI_STATUS_UP = false ∧
    s.bankOk 4 = true ∧ 1 ≤ g.toNat ∧ g.toNat ≤ 4 ∧ 1 ≤ w.toNat ∧ w.toNat ≤ 2 :=
  ⟨up, 4, 2, by decide +kernel⟩

theorem witness_HostCommands_9_0 : ∃ (s : State), s.flag F.PCI_STATUS_UP = false :=
  ⟨up, by decide +kernel⟩

theorem witness_HostCommands_9_1 : ∃ (s : State), s.flag F.PCI_STATUS_UP = true :=
  ⟨outbox, by decide +kernel⟩

theorem witness_HostCommands_10 : ∃ (s : State), s.level 21 = 2 :=
  ⟨outbox, by decide +kernel⟩

theorem witness_RecordOutputs_0 : ∃ (s : State) (off : Word) (d : List Byte),
    let a := 4096 * s.winBase + (BitVec.toNat off - 65536)
    s.reaches Master.host = true ∧ d ≠ [] ∧ 65536 ≤ BitVec.toNat off ∧ BitVec.toNat off + d.length ≤ 1048576 ∧ s.steadyAt (12 + a /
      4194304) 2 = true ∧ s.steadyAt (12 + (a + d.length - 1) / 4194304) 2 = true ∧ ∀ (p : Nat), p ∈ plotsOf a d.length → s.mem.plot
      Mem.loft p = 0 :=
  ⟨hosted.set F.PCI_CFG_WIN_BASE 4095, 0xFFFFF, [0x5A], by decide +kernel⟩

theorem witness_RecordOutputs_1 : ∃ (s : State) (off : Word) (d : List Byte),
    let a := 4096 * s.winBase + (BitVec.toNat off - 65536)
    s.reaches Master.host = true ∧ d.length = 4 ∧ BitVec.toNat off % 4 = 0 ∧ 65536 ≤ BitVec.toNat off ∧ BitVec.toNat off < 1048576 ∧
      s.steadyAt (12 + a / 4194304) 2 = true ∧ s.mem.plot Mem.loft (a / 4096) ≠ 0 ∧ s.coreOn = true ∧ s.flag F.STW_ACCESS_INFO_VALID =
      false :=
  ⟨{ hosted with mem := hosted.mem.setPlot .loft 0 2 }, 0x10FFC, [1, 2, 3, 4], by decide +kernel⟩

theorem witness_RecordOutputs_2 : ∃ (s : State) (off : Word) (d : List Byte), BitVec.toNat off + d.length ≤ 65536 :=
  ⟨hosted, 0xFFFC, [1, 2, 3, 4], by decide +kernel⟩

theorem witness_RecordOutputs_3_0 : ∃ (s : State) (o : SmallPort),
    let i := portOut o
    s.bankOk 0 = true ∧ s.span.running = true ∧ s.attached i = true :=
  ⟨outbox, .spi, by decide +kernel⟩

theorem witness_RecordOutputs_3_1 : ∃ (s : State) (o : SmallPort),
    let i := portOut o
    s.bankOk 0 = true ∧ s.span.running = true ∧ s.attached i = false ∧ bitOf (s.get F.GATE_CFG_OUTPUTS) i = true :=
  ⟨outbox.set F.PCI_REC_ATTACHED 5, .spi, by decide +kernel⟩

theorem witness_RecordOutputs_3_2 : ∃ (s : State) (o : SmallPort) (c : Bool), s.bankOk 0 = true ∧ s.span.running = false :=
  ⟨{ outbox with span := { outbox.span with running := false } }, .i2c, true, by decide +kernel⟩

theorem witness_RecordOutputs_3_3_0 : ∃ (s : State) (o : SmallPort),
    let i := portOut o
    ∃ (c : Bool), s.bankOk 0 = true ∧ s.span.running = true ∧ s.attached i = true ∧ (s.alarmHold = true ∨ s.waitingFor i = 0) :=
  ⟨hosted.set F.PCI_REC_ATTACHED 15, .i2c, true, by decide +kernel⟩

theorem witness_RecordOutputs_3_3_1 : ∃ (s : State) (o : SmallPort),
    let i := portOut o
    ∃ (c : Bool), s.bankOk 0 = true ∧ s.span.running = true ∧ s.attached i = true ∧ s.alarmHold = false ∧ 0 < s.waitingFor i :=
  ⟨outbox, .i2c, true, by decide +kernel⟩

theorem witness_RecordOutputs_4_0 : ∃ (s : State) (o : SmallPort) (a : Word) (r : RegDef) (i : Nat), s.bankOk 0 = true ∧
    s.span.running = true ∧ inRegs (BitVec.toNat a) = true ∧ BitVec.toNat a % 4 = 0 ∧ isLogImg (BitVec.toNat a) = true ∧ regAt
    (BitVec.toNat a) = some (r, i) :=
  ⟨outbox, .i2c, 0x40180004, R.LOG_STATUS, 0, by decide +kernel⟩

theorem witness_RecordOutputs_4_1 : ∃ (s : State) (o : SmallPort) (a : Word), s.bankOk 0 = true ∧ s.span.running = true ∧ inRegs
    (BitVec.toNat a) = true ∧ BitVec.toNat a % 4 = 0 ∧ isLogImg (BitVec.toNat a) = false ∧ s.coreOn = true ∧ s.flag
    F.STW_ACCESS_INFO_VALID = false :=
  ⟨outbox, .i2c, 0x40000000, by decide +kernel⟩

theorem witness_RecordOutputs_5 : ∃ (s : State) (o : SmallPort), s.attached (portOut o) = true ∧ 0 < s.waitingFor (portOut o) ∧
    s.span.running = true ∧ s.coreOn = true :=
  ⟨outbox, .spi, by decide +kernel⟩

theorem witness_RecordOutputs_6_0 : ∃ (s : State), s.level 21 = 2 ∧ s.attached 3 = true ∧ s.alarmHold = false ∧ 0 < s.waitingFor 3 ∧
    s.host.uart = [] ∧ s.flag F.PCI_SMALL_CFG_UART_CTS_EN = false :=
  ⟨outbox, by decide +kernel⟩

theorem witness_RecordOutputs_6_1 : ∃ (s : State), s.level 21 = 2 ∧ s.attached 3 = true ∧ s.alarmHold = false ∧ 0 < s.waitingFor 3 ∧
    s.host.uart = [] ∧ s.flag F.PCI_SMALL_CFG_UART_CTS_EN = true :=
  ⟨outbox.set F.PCI_SMALL_CFG_UART_CTS_EN 1, by decide +kernel⟩

theorem witness_RecordOutputs_7_0 : ∃ (s : State) (b : Byte) (rest : List Byte), s.bankOk 0 = true ∧ s.host.uart = b :: rest ∧ rest ≠
    [] :=
  ⟨uarting [1, 2], 1, [2], by decide +kernel⟩

theorem witness_RecordOutputs_7_1 : ∃ (s : State) (b : Byte) (rest : List Byte), s.bankOk 0 = true ∧ s.host.uart = b :: rest ∧ rest =
    [] :=
  ⟨uarting [1], 1, [], by decide +kernel⟩

theorem witness_LinkFrames_0_0 : ∃ (s : State) (p : Fin 2) (l : Fin 4), s.portMay ↑p = true ∧ s.flag F.SEC_KEYS_GROUP = true :=
  ⟨linked, 1, 3, by decide +kernel⟩

theorem witness_LinkFrames_0_1 : ∃ (s : State) (p : Fin 2) (l : Fin 4), s.portMay ↑p = true ∧ s.flag F.SEC_KEYS_GROUP = false :=
  ⟨linked.set F.SEC_KEYS_GROUP 0, 1, 3, by decide +kernel⟩

theorem witness_LinkFrames_1_0 : ∃ (s : State) (p : Fin 2) (l : Fin 4),
    let w := setBitOf (s.getAt F.LNK_PORTp_STATUS_LOCKED ↑p) (↑l) false
    bitOf (s.getAt F.LNK_PORTp_STATUS_LOCKED ↑p) ↑l = true ∧ s.portUp ↑p = true ∧ w ≠ 0 :=
  ⟨linked, 0, 1, by decide +kernel⟩

theorem witness_LinkFrames_1_1 : ∃ (s : State) (p : Fin 2) (l : Fin 4),
    let w := setBitOf (s.getAt F.LNK_PORTp_STATUS_LOCKED ↑p) (↑l) false
    bitOf (s.getAt F.LNK_PORTp_STATUS_LOCKED ↑p) ↑l = true ∧ s.portUp ↑p = true ∧ w = 0 :=
  ⟨linked, 1, 3, by decide +kernel⟩

theorem witness_LinkFrames_2_0 : ∃ (s : State) (p : Fin 2) (f : LinkFrame) (q : Instr × Nat), q ∈ [(Instr.dataFrame p f, 1),
    (Instr.doorbellFrame p f, 2), (Instr.heartbeat p f, 3), (Instr.membership p f, 4), (Instr.release p f, 5), (Instr.refuse p f, 6)]
    ∧ (∀ (x : Nat), s.importPlot f = some x → s.steadyAt (12 + x / 1024) 2 = true) ∧ s.portUp ↑p = true ∧ f.crcOk = false :=
  ⟨linked, 1, { frame 3 5 [] with crcOk := false }, (.heartbeat 1 { frame 3 5 [] with crcOk := false }, 3), by decide +kernel⟩

theorem witness_LinkFrames_2_1 : ∃ (s : State) (p : Fin 2) (f : LinkFrame) (q : Instr × Nat), q ∈ [(Instr.dataFrame p f, 1),
    (Instr.doorbellFrame p f, 2), (Instr.heartbeat p f, 3), (Instr.membership p f, 4), (Instr.release p f, 5), (Instr.refuse p f, 6)]
    ∧ (∀ (x : Nat), s.importPlot f = some x → s.steadyAt (12 + x / 1024) 2 = true) ∧ s.portUp ↑p = true ∧ f.crcOk = true ∧ f.tagOk =
    false :=
  ⟨linked, 1, { frame 3 5 [] with tagOk := false }, (.heartbeat 1 { frame 3 5 [] with tagOk := false }, 3), by decide +kernel⟩

theorem witness_LinkFrames_2_2 : ∃ (s : State) (p : Fin 2) (f : LinkFrame) (q : Instr × Nat) (e : Nat), q ∈ [(Instr.dataFrame p f, 1),
    (Instr.doorbellFrame p f, 2), (Instr.heartbeat p f, 3), (Instr.membership p f, 4), (Instr.release p f, 5), (Instr.refuse p f, 6)]
    ∧ (∀ (x : Nat), s.importPlot f = some x → s.steadyAt (12 + x / 1024) 2 = true) ∧ s.portUp ↑p = true ∧ f.crcOk = true ∧ f.tagOk =
    true ∧ elGet 0 s.link.expect ↑p = e + 1 ∧ f.lseq.toNat ≠ e :=
  ⟨{ linked with link := { linked.link with expect := [(1, 1)] } }, 1, frame 3 5 [], (.refuse 1 (frame 3 5 []), 6), 0,
      by decide +kernel⟩

theorem witness_LinkFrames_2_3 : ∃ (s : State) (p : Fin 2) (f : LinkFrame) (q : Instr × Nat), q ∈ [(Instr.dataFrame p f, 1),
    (Instr.doorbellFrame p f, 2), (Instr.heartbeat p f, 3), (Instr.membership p f, 4), (Instr.release p f, 5), (Instr.refuse p f, 6)]
    ∧ (∀ (x : Nat), s.importPlot f = some x → s.steadyAt (12 + x / 1024) 2 = true) ∧ s.portUp ↑p = true ∧ s.accepts (↑p) f ∧
    BitVec.toNat f.dst ≠ s.chipId ∧ f.dst ≠ 255 ∧ f.src.toNat ≠ s.chipId ∧ 1 < BitVec.toNat f.hops ∧ (q.snd = 1 → s.alarmHold = false)
    :=
  ⟨linked, 1, frame 3 5 [], (.dataFrame 1 (frame 3 5 []), 1), by decide +kernel⟩

theorem witness_LinkFrames_3_0 : ∃ (s : State) (p : Fin 2) (f : LinkFrame) (x : Nat), s.accepts (↑p) f ∧ BitVec.toNat f.dst = s.chipId
    ∧ s.importPlot f = some x ∧ s.trusts f.src.toNat f.taint.toNat = true ∧ s.steadyAt (12 + x / 1024) 2 = true ∧ s.failed (12 + x /
    1024) = false :=
  ⟨linked, 1, frame 3 2 (plotTo 4095), 4095, by decide +kernel⟩

theorem witness_LinkFrames_3_1 : ∃ (s : State) (p : Fin 2) (f : LinkFrame) (x : Nat), s.accepts (↑p) f ∧ BitVec.toNat f.dst = s.chipId
    ∧ s.importPlot f = some x ∧ s.trusts f.src.toNat f.taint.toNat = true ∧ s.steadyAt (12 + x / 1024) 2 = false ∧ s.failed (12 + x /
    1024) = false :=
  ⟨{ linked with pwr := { linked.pwr with level := elPut 0 linked.pwr.level 15 0 } }, 1, frame 3 2 (plotTo 4095), 4095,
      by decide +kernel⟩

theorem witness_LinkFrames_3_2 : ∃ (s : State) (p : Fin 2) (f : LinkFrame), s.accepts (↑p) f ∧ BitVec.toNat f.dst = s.chipId ∧
    s.importPlot f = none ∧ namesPen f = true :=
  ⟨linked, 1, frame 3 2 [0, 0, 0, 0x60], by decide +kernel⟩

theorem witness_LinkFrames_3_3 : ∃ (s : State) (p : Fin 2) (f : LinkFrame) (c : Nat), s.accepts (↑p) f ∧ BitVec.toNat f.dst = s.chipId
    ∧ (s.importPlot f = none ∧ namesPen f = false ∧ c = 1 ∨ ∃ (x : Nat), s.importPlot f = some x ∧ s.trusts f.src.toNat f.taint.toNat
    = false ∧ c = 2) :=
  ⟨linked, 1, frame 3 2 (plotTo 4089), 1, by decide +kernel⟩

theorem witness_LinkFrames_3_4 : ∃ (s : State) (p : Fin 2) (f : LinkFrame),
    let k := fieldAt f.payload 0 2
    let n := fieldAt f.payload 2 2
    s.accepts (↑p) f ∧ BitVec.toNat f.dst = s.chipId ∧ k < 2048 ∧ n ≠ 0 ∧ s.getAt F.RNG_RINGi_CFG_OWNER k = 3 ∧ ringDiff (s.pi k)
      (s.di k) + n ≤ s.ringSize k :=
  ⟨linked.setAt F.RNG_RINGi_CFG_OWNER 2047 3, 1, frame 3 2 [0xFF, 0x07, 1, 0], by decide +kernel⟩

theorem witness_LinkFrames_3_5 : ∃ (s : State) (p : Fin 2) (f : LinkFrame), s.accepts (↑p) f ∧ BitVec.toNat f.dst = s.chipId ∧ byteAt
    f.payload 0 < 16 ∧ s.link.sending.contains (byteAt f.payload 0) = true :=
  ⟨{ linked with link := { linked.link with sending := [15] } }, 1, frame 3 2 [15, 2], by decide +kernel⟩

theorem witness_LinkFrames_4_0 : ∃ (s : State) (p : Fin 2) (q : BitVec 16) (i : Nat), s.portUp ↑p = true ∧ List.findIdx? (fun (f :
    TxFrame) => f.lseq == q.toNat) (List.take 256 (s.portHeld ↑p)) = some i ∧ ∀ (f : TxFrame), f ∈ List.take (i + 1) (s.portHeld ↑p) →
    f.type ≠ 2 ∨ f.src ≠ s.chipId :=
  ⟨holding [tx 2 3 8, tx 1 2 9, tx 1 2 10], 1, 9, 1, by decide +kernel⟩

theorem witness_LinkFrames_4_1 : ∃ (s : State) (p : Fin 2) (q : BitVec 16) (i : Nat) (f : TxFrame),
    let k := s.getAt F.LNK_CHn_RING_DONE_RING f.channel
    s.portUp ↑p = true ∧ List.findIdx? (fun (f : TxFrame) => f.lseq == q.toNat) (List.take 256 (s.portHeld ↑p)) = some i ∧ i = 0 ∧
      (s.portHeld ↑p).head? = some f ∧ f.type = 2 ∧ f.src = s.chipId ∧ f.channel < 16 ∧ s.link.sending.contains f.channel = true ∧
      s.getAt F.RNG_RINGi_CFG_OWNER k = 0 ∧ ringDiff (s.pi k) (s.di k) + 1 ≤ s.ringSize k :=
  ⟨holding [tx 2 2 8, tx 1 2 9], 1, 8, 0, tx 2 2 8, by decide +kernel⟩

theorem witness_LinkFrames_4_2 : ∃ (s : State) (p : Fin 2) (q : BitVec 16) (i : Nat), s.portUp ↑p = true ∧ List.findIdx? (fun (f :
    TxFrame) => f.lseq == q.toNat) (List.take 256 (s.portHeld ↑p)) = some i ∧ elGet 0 s.link.resends ↑p < 7 :=
  ⟨holding [tx 2 2 8, tx 1 2 9] 6, 1, 9, 1, by decide +kernel⟩

theorem witness_LinkFrames_4_3 : ∃ (s : State) (p : Fin 2) (q : BitVec 16) (i : Nat), s.portUp ↑p = true ∧ List.findIdx? (fun (f :
    TxFrame) => f.lseq == q.toNat) (List.take 256 (s.portHeld ↑p)) = some i ∧ elGet 0 s.link.resends ↑p = 7 :=
  ⟨holding [tx 2 2 8, tx 1 2 9] 7, 1, 9, 1, by decide +kernel⟩

theorem witness_LinkFrames_5_0 : ∃ (s : State) (p : Fin 2) (n : Byte), s.portUp ↑p = true :=
  ⟨linked, 1, 255, by decide +kernel⟩

theorem witness_LinkFrames_5_1 : ∃ (s : State) (p : Fin 2) (n : Byte), s.portUp ↑p = true ∧ s.portHeld ↑p ≠ [] ∧ elGet 0
    s.link.resends ↑p < 7 :=
  ⟨holding [tx 2 2 8, tx 1 2 9] 6, 1, 255, by decide +kernel⟩

theorem witness_LinkFrames_5_2 : ∃ (s : State) (p : Fin 2) (n : Byte), s.portUp ↑p = true ∧ s.portHeld ↑p ≠ [] ∧ elGet 0
    s.link.resends ↑p = 7 :=
  ⟨holding [tx 2 2 8, tx 1 2 9] 7, 1, 255, by decide +kernel⟩

theorem witness_LinkFrames_6_0 : ∃ (s : State) (c : Fin 16), s.isUp = true ∧ s.coreOn = true ∧ s.alarmHold = false ∧
    s.link.ready.contains ↑c = true ∧ s.link.sending.contains ↑c = false ∧ s.level 22 ≠ 2 :=
  ⟨let s := sending 119 2 3; { s with pwr := { s.pwr with level := elPut 0 s.pwr.level 22 0 } }, 15, by decide +kernel⟩

theorem witness_LinkFrames_6_1_0 : ∃ (s : State) (c : Fin 16),
    let n := s.getAt F.LNK_CHn_CFG_PLOTS_M1 ↑c + 1
    let src := s.getAt F.LNK_CHn_ADDR_SRC_PLOT ↑c
    let dst := s.getAt F.LNK_CHn_ADDR_DST_PLOT ↑c
    let chip := s.getAt F.LNK_CHn_CFG_DST_CHIP ↑c
    let w := s.peer chip
    let inside := w.fst ≤ dst ∧ dst + n ≤ w.fst + w.snd.fst ∧ src + n ≤ 4096
    s.isUp = true ∧ s.coreOn = true ∧ s.alarmHold = false ∧ s.link.ready.contains ↑c = true ∧ s.link.sending.contains ↑c = false ∧
      s.level 22 = 2 ∧ s.portUp (s.portTo chip) = true ∧ inside ∧ s.steadyAt (12 + src / 1024) 2 = true ∧ s.steadyAt (12 + (src + n -
      1) / 1024) 2 = true ∧ ∀ (j : Nat), j < n → s.trusts chip (s.mem.plot Mem.loft (src + j)) = true :=
  ⟨sending 119 2 3, 15, by decide +kernel⟩

theorem witness_LinkFrames_6_1_1 : ∃ (s : State) (c : Fin 16),
    let n := s.getAt F.LNK_CHn_CFG_PLOTS_M1 ↑c + 1
    let src := s.getAt F.LNK_CHn_ADDR_SRC_PLOT ↑c
    let dst := s.getAt F.LNK_CHn_ADDR_DST_PLOT ↑c
    let chip := s.getAt F.LNK_CHn_CFG_DST_CHIP ↑c
    let w := s.peer chip
    let inside := w.fst ≤ dst ∧ dst + n ≤ w.fst + w.snd.fst ∧ src + n ≤ 4096
    s.isUp = true ∧ s.coreOn = true ∧ s.alarmHold = false ∧ s.link.ready.contains ↑c = true ∧ s.link.sending.contains ↑c = false ∧
      s.level 22 = 2 ∧ s.portUp (s.portTo chip) = true ∧ inside ∧ s.steadyAt (12 + src / 1024) 2 = true ∧ s.steadyAt (12 + (src + n -
      1) / 1024) 2 = true ∧ s.trusts chip (s.mem.plot Mem.loft src) = false :=
  ⟨{ sending 119 2 3 with link := { (sending 119 2 3).link with peers := [(3, (100, 20, 8))] } }, 15, by decide +kernel⟩

theorem witness_LinkFrames_6_2 : ∃ (s : State) (c : Fin 16),
    let n := s.getAt F.LNK_CHn_CFG_PLOTS_M1 ↑c + 1
    let src := s.getAt F.LNK_CHn_ADDR_SRC_PLOT ↑c
    let dst := s.getAt F.LNK_CHn_ADDR_DST_PLOT ↑c
    let chip := s.getAt F.LNK_CHn_CFG_DST_CHIP ↑c
    let w := s.peer chip
    let inside := w.fst ≤ dst ∧ dst + n ≤ w.fst + w.snd.fst ∧ src + n ≤ 4096
    s.isUp = true ∧ s.coreOn = true ∧ s.alarmHold = false ∧ s.link.ready.contains ↑c = true ∧ s.link.sending.contains ↑c = false ∧
      s.level 22 = 2 ∧ s.portUp (s.portTo chip) = true ∧ ¬inside :=
  ⟨sending 120 2 3, 15, by decide +kernel⟩

theorem witness_LinkGroup_0 : ∃ (s : State) (p : Fin 2) (f : LinkFrame), s.accepts (↑p) f ∧ (BitVec.toNat f.dst = s.chipId ∨ f.dst =
    255 ∧ f.src.toNat ≠ s.chipId) :=
  ⟨linked, 1, frame 3 2 (List.replicate 32 1), by decide +kernel⟩

theorem witness_LinkGroup_1 : ∃ (s : State) (p : Fin 2) (f : LinkFrame), s.accepts (↑p) f ∧ (BitVec.toNat f.dst = s.chipId ∨ f.dst =
    255 ∧ f.src.toNat ≠ s.chipId) :=
  ⟨linked, 1, frame 3 2 (List.replicate 32 1), by decide +kernel⟩

theorem witness_LinkGroup_2 : ∃ (s : State) (x : BitVec 6), s.isUp = true ∧ s.coreOn = true ∧ bitOf s.live x.toNat = true ∧ x.toNat ≠
    s.chipId :=
  ⟨grouped (job7 5 2) 2 [] [], 5, by decide +kernel⟩

theorem witness_LinkGroup_3 : ∃ (s : State) (x : BitVec 8) (j : JobCfg) (c : Nat), s.isUp = true ∧ s.coreOn = true ∧ s.jobCfg x.toNat
    = some j ∧ j.job ∈ s.fab.draining ∧ s.jobEmpty j = true ∧ j.owner s.live = some c ∧ ∀ (i : Nat), i ∈ j.list → i < 2048 :=
  ⟨grouped (job7 5 2) 2 [7] [], 7, job7 5 2, 5, by decide +kernel⟩

theorem witness_LinkGroup_4_0 : ∃ (s : State) (p : Fin 2) (f : LinkFrame) (j : JobCfg), s.accepts (↑p) f ∧ BitVec.toNat f.dst =
    s.chipId ∧ s.jobCfg (fieldAt f.payload 0 2) = some j ∧ (∀ (i : Nat), i ∈ j.list → i < 2048) ∧ (s.drainer j.job).isSome = true ∧
    fieldAt f.payload 2 4 = s.fab.epoch ∧ s.quorumOf s.live = true :=
  ⟨grouped (job7 2 5) 2 [] [(7, 3)], 1, frame 3 2 [7, 0, 6, 0, 0, 0, 0, 0], job7 2 5, by decide +kernel⟩

theorem witness_LinkGroup_4_1 : ∃ (s : State) (p : Fin 2) (f : LinkFrame) (j : JobCfg), s.accepts (↑p) f ∧ BitVec.toNat f.dst =
    s.chipId ∧ s.jobCfg (fieldAt f.payload 0 2) = some j ∧ (∀ (i : Nat), i ∈ j.list → i < 2048) ∧ (s.drainer j.job).isSome = true ∧
    fieldAt f.payload 2 4 = s.fab.epoch ∧ s.quorumOf s.live = false :=
  ⟨(grouped (job7 2 5) 2 [] [(7, 3)]).setReg R.STL_LIVEk 0 4, 1, frame 3 2 [7, 0, 6, 0, 0, 0, 0, 0], job7 2 5, by decide +kernel⟩

theorem witness_LinkGroup_4_2 : ∃ (s : State) (p : Fin 2) (f : LinkFrame) (j : JobCfg), s.accepts (↑p) f ∧ BitVec.toNat f.dst =
    s.chipId ∧ s.jobCfg (fieldAt f.payload 0 2) = some j ∧ (∀ (i : Nat), i ∈ j.list → i < 2048) ∧ (fieldAt f.payload 2 4 ≠ s.fab.epoch
    ∨ (s.drainer j.job).isSome = false) :=
  ⟨grouped (job7 2 5) 2 [] [(7, 3)], 1, frame 3 2 [7, 0, 7, 0, 0, 0, 0, 0], job7 2 5, by decide +kernel⟩

/-! Single steps with results from the spec -/

/-- The state after a command. -/
def after (i : Instr) (s : State) : State := match exec i s with | .next t => t | _ => s

/-- The codes of the events that wait to be written. -/
def codes (s : State) : List Nat := s.log.intake.map (·.code)

/-- 01 STW_ID: the register reads 0xD75A_60A1. -/
theorem test_stw_id : (after (.readReg .spi 0x40160000) up).resp = leBytes 4 0 ∧ State.reset.reg R.STW_ID 0 = 0xD75A60A1 := by decide +kernel

/-- 00 Example 00.1: the nominal SPAN_RATE. -/
theorem test_span_rate_reset : State.reset.get F.SPN_RATE_SPAN_RATE = 524288000 := by decide +kernel

/-- 04 Example 04.1: a window of 2,048,040 cycles gives SPAN_RATE 0x1F40_2800. -/
theorem test_rate_window : (after (.rateWindow 2048040) up).get F.SPN_RATE_SPAN_RATE = 0x1F402800 := by decide +kernel

/-- The hour of Rest of Example 04.1 just before its alignment edge: 3,686,465,536 ticks from carries, integer part 6,464 due. -/
def hour : State :=
  let s : State := { up with span := { up.span with running := false, carrying := true, validAtStop := true, atStop := 77,
                                                    count := 77 + 3686465536, acc := BitVec.ofNat 40 (6464 * 2 ^ 24 - 0x1F402800) } }
  sets s [(F.SPN_RATE_SPAN_RATE, 0x1F402800), (F.SPN_CFG_PPM_BOUND, 50)]

/-- 04 Example 04.1: the alignment. -/
theorem test_span_align : let t := after (.spanAlign 0) hour
    t.span.count = 77 + 3686472000 ∧ t.get F.SPN_ERR_LAST_ERR = 184326 ∧ t.flag F.SPN_STATUS_CARRIED = true := by decide +kernel

/-- 04 Example 04.2: in Rest, the RC to have counted 18,000,000 cycles. -/
def resting : State :=
  { watch with pwr := { watch.pwr with state := 3 }
               span := { up.span with running := false, rootOn := false, carrying := true, atStop := 5, count := 5 } }
theorem test_xt32_lost : let t := after (.xt32Lost 18000000) resting
    t.span.count = 5 + 1843200000 ∧ t.get F.SPN_ERR_LAST_ERR = 645120000 ∧ t.flag F.SPN_STATUS_LOST = true := by decide +kernel

/-- 05 Example 05.2: in Watch, Rest pending, WAKE_IN in latched-edge mode with target Doze. The edge replaces Rest. -/
def leaving : State :=
  sets { watch with pwr := { watch.pwr with req := some { target := 3, cause := 1 } } }
    [(F.PWR_WAKE_CFG_WAKEIN_MODE, 1), (F.PWR_WAKE_CFG_WAKEIN_TARGET, 1)]
theorem test_last_request : let t := after (.wakeIn true) leaving
    (codes t).contains 0x0213 = true ∧ t.pwr.fly.map (·.target) = some 1 ∧ t.pwr.req = none := by decide +kernel

/-- 06 Example 06.1: PH2 opens in a running rail. -/
theorem test_phase_open : let t := after (.phaseOpen 2 (period [500, 500, 256, 500])) railed
    codes t = [0x0310] ∧ t.get F.VRC_STATUS_BUDGET_A = 54 ∧ t.get F.VRC_STATUS_SHED = 4 := by decide +kernel

/-- 06 Example 06.1: at 58 A of 54 A, s falls from 16 to 14; at 52 A it holds. -/
theorem test_throttle : let s := sets railed [(F.VRC_STATUS_BUDGET_A, 54), (F.VRC_STATUS_SHARE, 16)]
    (after (.railThrottleStep (period [627, 627, 627, 628])) s).get F.VRC_STATUS_SHARE = 14
      ∧ (after (.railThrottleStep (period [589, 589, 589, 588])) (s.set F.VRC_STATUS_SHARE 14)).get F.VRC_STATUS_SHARE = 14 := by decide +kernel

/-- 06 Example 06.1: a sense fails with PH2 shed. -/
theorem test_sense_failed : let t := after (.senseFailed 1 (period [500, 1003, 0, 500])) (sets up [(F.VRC_STATUS_RUNNING, 1), (F.VRC_STATUS_SHED, 4)])
    codes t = [0x0312, 0x0311] ∧ t.get F.VRC_STATUS_SHED = 6 ∧ t.get F.VRC_STATUS_SHARE = 0 ∧ t.flag F.VRC_STATUS_CLAMP = true
      ∧ t.get F.VRC_STATUS_BUDGET_A = 36 := by decide +kernel

/-- The evaluations of Example 07.1, as margins, and the detector behind them. -/
def rises (margins : List Nat) : Detector × List (Bool × Bool) :=
  margins.foldl (fun x m => let r := x.1.eval { thresh := 40, hold := 24, n := 3, m := 5, mask := 2 } 1 m; (r.1, x.2 ++ [r.2])) ({}, [])

/-- 07 Example 07.1: rise at evaluation 4, release at evaluation 8. -/
theorem test_detector : (rises [45, 10, 50, 42, 30, 20, 10, 5]).2 = [(false, false), (false, false), (false, false), (true, false),
    (false, false), (false, false), (false, false), (false, true)] := by decide +kernel

/-- 07 Example 07.2: TDIFF over 192 elements takes 196 cycles. -/
theorem test_feat_cycles : FeatDesc.cycles ⟨0x8000, 0x8400, 0, 192, 2, 4⟩ 0 = 196 := by decide

/-- 07 Table 07.2: MOVI in mode 2 sign-extends; SUB wraps. -/
theorem test_movi_sub : ((after (.movi 0) (code up 0 [0x0532FFFE])).slot 0).gReg 3 = 0xFFFFFFFE
    ∧ ((after (.sub 0) (code up 0 [0x07280001])).slot 0).gReg 2 = 0xFFFFFFFF := by decide +kernel

/-- 09 Example 09.1: the seventh failure backs off, the eighth is FAULT with event 0x0605. -/
theorem test_rail_fault : let s (n : Nat) := (ported 7 2).setAt F.SPT_PORTn_STATUS_FAILS 7 n
    (after (.railFault 7 .short) (s 6)).portState 7 = 4 ∧ (after (.railFault 7 .short) (s 7)).portState 7 = 5
      ∧ codes (after (.railFault 7 .short) (s 7)) = [0x0604, 0x0605] := by decide +kernel

/-- 2^-k in binary32. -/
def half (k : Nat) : Int := div32 (ofInt32 1) (2 ^ 149 * 2 ^ k)

/-- The accumulator of Example 11.1. -/
def acc11 : Int := add32 (accum [ofInt32 1000, ofInt32 (-250)] [half 7, half 6]) (mul32 (ofInt32 (2992 * -2)) (half 10))

/-- 11 Example 11.1: −6 to nearest, −5 toward zero. -/
theorem test_output_stage : (outStage ⟨false, false, false, 10, some (half 2).toNat⟩ (ofInt32 2) acc11).code = -6
    ∧ (outStage ⟨true, false, false, 10, some (half 2).toNat⟩ (ofInt32 2) acc11).code = -5 := by decide +kernel

/-- 10: a bit-serial block of 64 rows at level 3 and code 255 is exact. -/
theorem test_macro_exact : convert false (List.replicate 64 3) (List.replicate 64 255) = 64 * 3 * 255 := by decide +kernel

/-- 02 Example 02.2: the third record fails step 5, uses sequence 42, and the fourth passes after one refill. -/
theorem test_head_rate : let s := setAts (headed 7 4) [(F.GATE_HEADi_LIMITS_TOKENS, 7, 0)]
    s.gateStep ⟨rec1, 0, false, false, 4, false⟩ 7 = 5
      ∧ (after (.tokenRefill (.head 7)) s).gateStep ⟨rec1, 0, false, false, 4, false⟩ 7 = 7 := by decide +kernel

/-- 16 R463: IDCODE reads 0x1096_09AF. -/
theorem test_idcode : (after .idcode up).resp = leBytes 4 0x109609AF := by decide +kernel

/-- 13: the last word of a bay's line map at reset. -/
theorem test_lines_reset : (State.reset.reg R.BRN_BAYb_MAPw 7, State.reset.reg R.BRN_BAYb_MAPw 31) = (0xFF1E1D1C, 0xFF1E1D1C) := by decide +kernel

/-- The check values of CRC-32 and of CRC-16 with 0x1021 and 0xFFFF, over the digits 1 to 9. -/
theorem test_crcs : crc32 ((List.range 9).map fun k => BitVec.ofNat 8 (49 + k)) = 0xCBF43926
    ∧ crc16 ((List.range 9).map fun k => BitVec.ofNat 8 (49 + k)) = 0x29B1 := by decide +kernel

/-- FIPS 180-4: SHA-256 of "abc". -/
theorem test_sha256 : sha256 [0x61, 0x62, 0x63]
    = beBytes 32 0xba7816bf8f01cfea414140de5dae2223b00361a396177a9cb410ff61f20015ad := by decide +kernel

/-- The GCM specification's test cases 13 and 14: AES-256 over no data, and over 16 zero bytes. -/
theorem test_gcm : let z := fun n => List.replicate n (0 : Byte)
    gcmTag (z 32) (z 12) [] [] = beBytes 16 0x530f8afbc74536b9a963b4f1c4cb738b
      ∧ gcmData (z 32) (z 12) (z 16) = beBytes 16 0xcea7403d4d606b6e074ec5d3baf39d18
      ∧ gcmTag (z 32) (z 12) [] (beBytes 16 0xcea7403d4d606b6e074ec5d3baf39d18) = beBytes 16 0xd0d1c8a799996bf0265b98b5d48ab919 := by
  decide +kernel

/-- 14 Example 14.2: the diagonal overlap; row 0 column 0 of the destination holds source row 1 column 4. -/
theorem test_copy_overlap :
    let b := leBytes 4 (256 * 0) ++ leBytes 4 0x40010000 ++ leBytes 4 0x40010104 ++ leBytes 2 64 ++ leBytes 2 64 ++ leBytes 4 1
      ++ leBytes 4 256 ++ leBytes 4 0 ++ leBytes 4 256 ++ leBytes 4 0 ++ List.replicate 12 0
    let s := moving b
    let t := after (.copy 15) { s with mem := s.mem.store .loft 0x10104 [0xAB] }
    t.mem.read .loft 0x10104 1 = [0] ∧ t.mem.read .loft 0x10208 1 = [0xAB] := by decide +kernel

/-! Operands that WellFormed refuses -/

theorem test_refuses_start : (Instr.coldStart { env 12 with isen := [(0, ⟨true, List.replicate 16 0, List.replicate 64 0⟩), (0, ⟨true, List.replicate 16 0, List.replicate 64 0⟩)] }).wf = false
    ∧ (Instr.warmStart { env 12 with ports := [(3, [])] }).wf = false := by decide
theorem test_refuses_nvmRelease : (Instr.nvmRelease [(0x80FFFFF, [1, 2])]).wf = false := by decide
theorem test_refuses_isenCal : (Instr.isenCal 3 ⟨true, List.replicate 16 0, List.replicate 63 0⟩).wf = false := by decide
theorem test_refuses_period : ∀ c ∈ [Instr.phaseOpen 3, .senseFailed 3, .ocLimit 4, .lightLoadEnter, .lightLoadExit, .railThrottleStep],
    (c ⟨[0, 0, 0], [0, 0, 0, 0], 0⟩).wf = false ∧ (c ⟨[0, 0, 0, 0], [0, 0, 0], 0⟩).wf = false := by simp [Instr.wf, RailPeriod.wf]
theorem test_refuses_micCalEnd : (Instr.micCalEnd 15 ⟨0, 0, [(15, 1)]⟩).wf = false ∧ (Instr.micCalEnd 15 ⟨0, 1, [(15, 1), (15, 2)]⟩).wf = false := by
  decide
theorem test_refuses_streamFrame : (Instr.streamFrame 0 .hq48 (List.replicate 16 0)).wf = false := by decide
theorem test_refuses_probeDone : (Instr.probeDone 7 []).wf = false := by decide
theorem test_refuses_busTransferDone : (Instr.busTransferDone 0 true (List.replicate 513 0)).wf = false := by decide
theorem test_refuses_windowClose : (Instr.windowClose 95 16).wf = false := by decide
theorem test_refuses_columnCal : (Instr.columnCal 95 ⟨true, List.replicate 255 0⟩).wf = false := by decide
theorem test_refuses_ringUnlock : (Instr.ringUnlock 4224 255).wf = false := by decide
theorem test_refuses_darkLevelDone : (Instr.darkLevelDone 3 ⟨List.replicate 32 0, List.replicate 31 0⟩).wf = false
    ∧ (Instr.darkLevelDone 3 ⟨List.replicate 31 0, List.replicate 32 0⟩).wf = false := by decide
theorem test_refuses_lineSweepDone : (Instr.lineSweepDone 3 ⟨true, [⟨4224, 64, 0, 20⟩], List.replicate 32 0⟩).wf = false := by decide
theorem test_refuses_sweepDone : (Instr.sweepDone ⟨true, [⟨1, 64, 0, 20⟩, ⟨1, 64, 0, 20⟩], List.replicate 128 0⟩).wf = false := by decide
theorem test_refuses_relockDone : (Instr.relockDone [] (List.replicate 127 0)).wf = false := by decide
theorem test_refuses_dataFrame : (Instr.dataFrame 0 (frame 3 2 [])).wf = false := by decide
theorem test_refuses_doorbellFrame : (Instr.doorbellFrame 0 (frame 3 2 [1])).wf = false := by decide
theorem test_refuses_heartbeat : (Instr.heartbeat 0 (frame 3 2 [1])).wf = false := by decide
theorem test_refuses_membership : (Instr.membership 0 (frame 3 2 [1])).wf = false := by decide
theorem test_refuses_release : (Instr.release 0 (frame 3 2 [1])).wf = false := by decide
theorem test_refuses_refuse : (Instr.refuse 0 (frame 3 2 [1])).wf = false := by decide
theorem test_refuses_dbgUnlock : (Instr.dbgUnlock [1]).wf = false := by decide
theorem test_refuses_hostWindowWrite : (Instr.hostWindowWrite 0x10000 []).wf = false := by decide
theorem test_accepts_token : (Instr.dbgUnlock token5).wf = true ∧ (Instr.powerOn).wf = true := by decide +kernel
theorem test_refuses_programmed : (Instr.programmed 95 ⟨[(255, 3), (255, 1)], none⟩).wf = false := by decide

end Sys2Proof.Tests
end

/-! Scope (00_scope.md): the step and its queue, register writes and register reads (O1, O2, O6, O7). -/

namespace Sys2Proof.Machine

/-! ### The step and its queue -/

/-- Settles O1: both equations are the two branches of `step`. -/
theorem stepRunsFront : Obligations.StepRunsFront :=
  ⟨fun _ _ _ => rfl, fun s h => by rw [step, h]⟩

/-- A command that has taken effect on `s`, answering a next state with the queue of `s` (00 R13). -/
abbrev KeepsQueue (s : State) (o : Out) : Prop := ∃ t, o = .next t ∧ t.pending = s.pending

section
variable (s : State)

/-! The meanings that hand one operation to another as its continuation: each of the operations' frame lemmas takes the frame of
what it is handed. -/

theorem execLoad_keepsQueue (slot : Fin 16) : KeepsQueue s (execLoad slot s) :=
  ⟨_, rfl, State.instr_pending _ _ _ _ _ fun _ _ => State.atData_pending _ _ _ _ fun _ _ => by simp⟩

theorem execYardStore_keepsQueue (slot : Fin 16) : KeepsQueue s (execYardStore slot s) :=
  ⟨_, rfl, State.instr_pending _ _ _ _ _ fun _ _ => State.atData_pending _ _ _ _ fun _ _ => by simp⟩

theorem execNet_keepsQueue (slot : Fin 16) : KeepsQueue s (execNet slot s) := by
  refine ⟨_, rfl, State.instr_pending _ _ _ _ _ fun x w => ?_⟩
  split
  · simp
  · split
    · exact State.charge_pending _ _ _ _ fun y => by simp
    · simp

theorem execScriptStore_keepsQueue (port : Fin 8) : KeepsQueue s (execScriptStore port s) := by
  refine ⟨_, rfl, State.onStep_pending _ _ _ _ _ fun x r w => ?_⟩
  dsimp only
  split
  · exact State.reach_pending _ _ _ _ _ _ (fun _ => State.reach_pending _ _ _ _ _ _ (fun _ => by simp) fun _ => by simp)
      fun _ => by simp
  · simp

theorem execMatmul_keepsQueue (stall : Fin 96) : KeepsQueue s (execMatmul stall s) :=
  ⟨_, rfl, State.onDesc_pending _ _ _ _ _ fun _ _ _ => State.reachStall_pending _ _ _ _ fun _ =>
    State.reachStall_pending _ _ _ _ fun _ => State.penReady_pending _ _ _ _ fun _ => State.runMatmul_pending ..⟩

theorem execCimMatmul_keepsQueue (stall : Fin 96) : KeepsQueue s (execCimMatmul stall s) :=
  ⟨_, rfl, State.onDesc_pending _ _ _ _ _ fun _ _ _ => State.reachStall_pending _ _ _ _ fun _ =>
    State.penReady_pending _ _ _ _ fun _ => State.runCim_pending ..⟩

theorem execBackward_keepsQueue (stall : Fin 96) : KeepsQueue s (execBackward stall s) :=
  ⟨_, rfl, State.onDesc_pending _ _ _ _ _ fun _ _ _ => State.reachStall_pending _ _ _ _ fun _ =>
    State.penReady_pending _ _ _ _ fun _ => State.runBackward_pending ..⟩

theorem execUpdate_keepsQueue (stall : Fin 96) : KeepsQueue s (execUpdate stall s) :=
  ⟨_, rfl, State.onDesc_pending _ _ _ _ _ fun _ _ _ => State.reachStall_pending _ _ _ _ fun _ =>
    State.penReady_pending _ _ _ _ fun _ => State.runUpdate_pending ..⟩

theorem execEmit_keepsQueue (stall : Fin 96) : KeepsQueue s (execEmit stall s) := by
  refine ⟨_, rfl, State.onDesc_pending _ _ _ _ _ fun _ _ _ => State.reachStall_pending _ _ _ _ fun _ =>
    State.penReady_pending _ _ _ _ fun _ => ?_⟩
  dsimp only
  split
  · simp
  · split
    · simp
    · exact State.reachStall_pending _ _ _ _ fun _ => by simp

theorem execDataEntry_keepsQueue (ring : BitVec 11) : KeepsQueue s (execDataEntry ring s) := by
  refine ⟨_, rfl, ?_⟩
  dsimp only
  split
  · split
    · refine State.reach_pending _ _ _ _ _ _ (fun x => ?_) fun _ => by simp
      split
      · exact State.reach_pending _ _ _ _ _ _ (fun _ => by simp) fun _ => by simp
      · simp
    · rfl
  · rfl

theorem execRelease_keepsQueue (port : Fin 2) (f : LinkFrame) : KeepsQueue s (execRelease port f s) := by
  refine ⟨_, rfl, State.receive_pending _ _ _ _ _ fun x => ?_⟩
  split <;> simp

/-- Every command takes effect, and what it does is made of operations that leave the queue alone (`Laws/Queue.lean`). -/
theorem exec_keepsQueue (c : Instr) : KeepsQueue s (exec c s) := by
  cases c with
  -- The meanings that apply one composition of operations.
  | registerWrite | rcRead | spanCountRead | tick | stewardWdt | powerOn | resetN | coldStart | sealTimeout | warmStart
  | warmReq | nvmReq | nvmGrant | stateAreaWrite | calIntervalEnd | spanAlign | rateWindow | xt32Lost | xt32Stopped
  | stateRequest | voteWrite | firstAccessWake | wakeIn | sleepTimer | wakeResample | braceEnter | braceExit | dipLong
  | coreBrownout | brownoutDelay | aonBrownout | stormEnd | phaseOpen | senseFailed | ocLimit | lightLoadEnter
  | lightLoadExit | railThrottleStep | isenCal | vsenseLocal | softStartDone | softStartRetry | slotTimer | halt | wait
  | sample | movi | add | sub | mul | and | or | shift | cmp | br | loopn | feat | vote | wake | wakeQueueResume | req
  | record | mark | arm | clear | cycleMaxExceeded | wakeClr | logWrite | frameStart | linePacket | frameEnd
  | frameTimeout | penTtl | slotWipeDone | penWipe | settleEnd | streamFrame | logmelFrame | refractEnd | prerollBlock
  | unload | micCalStart | micCalEnd | probe | probeDone | probePeriod | railGood | railFault | railBackoffEnd
  | failCountClear | faultClr | faultResetTimer | scriptWrite | scriptRead | waitInt | waitIntTimeout | delay | delayEnd
  | loop | signalTally | signalLine | intActive | ibi | busStuck | intTest | camLedFault | camLedTest | nop | vecRequant
  | vecAdd | vecMul | vecMax | vecMaxpool | vecAvgpool | vecLut | vecSoftmax | eccCorrected | eccUncorrectable
  | programStart | commitIntervalEnd | columnCal | cimCalPeriod | ringUnlock | rotationStep | darkLevelDone
  | lineSweepDone | pilotDone | sweepDone | barnMatmul | barnLoad | barnHint | ringDoorbell | entryNop | tile | head
  | move | copy | fill | transpose | entryTallyAdd | entryTallySub | entryTallySet | port | waitNotify | doorbell
  | tlyAdd | tlySub | tlySet | heartbeatLoss | mbVote | mbState | mbPortClear | mbAttach | mbDetach | mbWarm
  | hostDoorbell | recAck | status | readRecord | readReg | outputDetached | pcieUp | dStateChange | laneLocked
  | laneLost | doorbellFrame | heartbeat | membership | refuse | credit | resendTimeout | channelSend | rootClockFault
  | tempSample | otpStage | keyInstall | eraseGroup | dbgUnlock | dbgAp | mailboxError | bankRestored | hostWindowWrite
  | micQuietCheckEnd | autoUnload | prerollUnloaded | prerollKeepEnd | muteOn | muteSwRelease | muteOff | micvddFault
  | tdmFraming | camActive | camEnAssert | camSettled | camInactive | combLocked | combLockLoss | hintExpiry
  | c0TokenRefill | notify | uartRecord | pcieDown | meshBreak | coreGlitch | aonGlitch | l3FillDone | zeroiseHoldEnd
  | extest | samplePreload | idcode | highz | clamp | bypass | dbgChal | tdmResync =>
    exact ⟨_, rfl, by simp⟩
  -- The meanings that branch on an operand or on what the state holds: each branch is one.
  | faultingAccess | calibrationRetry | nvmRelease | stateWriteDone | stateWriteRetry | coreRestore | pllUnlock
  | pllRelock | entryCommit | stateEntered | domainHoldEnd | domainReady | domainDropped | domainTimeout | bankUndervolt
  | waitEnd | waitTimeout | featDone | netDone | gateTake | tokenRefill | clockSwitch | patternEval | muteLedTest
  | busTransferDone | heldSignalApply | tileComplete | windowClose | descWatchdog | programmed | programTimeout | commit
  | commitDone | lineMoveDone | relockDone | bayWatchdog | moveDone | tileCut | dataFrame | ack | nak | zeroiseEraseDone
  | lcRequest | c0RunOver | uartCtsNLow =>
    exact ⟨_, rfl, by (repeat' split) <;> simp⟩
  | wakeQueueMove | mapLoadDone | jobDrained | mapFetch => exact ⟨_, rfl, by dsimp only; (repeat' split) <;> simp⟩
  -- The meanings that hand on a continuation.
  | load slot => exact execLoad_keepsQueue s slot
  | yardStore slot => exact execYardStore_keepsQueue s slot
  | net slot => exact execNet_keepsQueue s slot
  | scriptStore port => exact execScriptStore_keepsQueue s port
  | matmul stall => exact execMatmul_keepsQueue s stall
  | cimMatmul stall => exact execCimMatmul_keepsQueue s stall
  | backward stall => exact execBackward_keepsQueue s stall
  | update stall => exact execUpdate_keepsQueue s stall
  | emit stall => exact execEmit_keepsQueue s stall
  | dataEntry ring => exact execDataEntry_keepsQueue s ring
  | release port f => exact execRelease_keepsQueue s port f

end

/-- Settles O2, by cases on the command. -/
theorem execKeepsQueue : Obligations.ExecKeepsQueue := fun c s => exec_keepsQueue s c

/-! ### Register writes (00 R13) -/

/-- What a write of `v` leaves of a register that holds `old`: RW bits take the value, W1C bits written 1 clear (00 R13). -/
def RegDef.written (r : RegDef) (old v : Word) : Word := ((old &&& ~~~ r.rw) ||| (v &&& r.rw)) &&& ~~~ (v &&& r.w1c)

section
variable (s : State)

theorem State.onlyRegs_setReg (r : RegDef) (i : Nat) (w : Word) : OnlyRegs s (s.setReg r i w) [r.at i] :=
  fun _ _ h => s.reg_setReg_ne _ _ _ _ _ (by simpa using h)

theorem State.changesRegs_setReg (r : RegDef) (i : Nat) (w : Word) : ChangesRegs s (s.setReg r i w) [r.at i] :=
  ⟨rfl, s.onlyRegs_setReg r i w⟩

theorem ChangesRegs.trans {s t u : State} {l : List Nat} (h : ChangesRegs s t l) (k : ChangesRegs t u l) : ChangesRegs s u l := by
  obtain ⟨hst, hs⟩ := h
  obtain ⟨htu, ht⟩ := k
  exact ⟨by rw [htu, hst], fun q j hq => (ht q j hq).trans (hs q j hq)⟩

theorem exec_registerWrite (m : Master) (a v : Word) (s : State) :
    exec (.registerWrite m a v) s = execRegisterWrite m a v s := rfl

/-- A write by the Steward to an aligned register address writes the register, wherever the part is reached. -/
theorem exec_registerWrite_steward {s : State} {a : Word} (v : Word) (hs : s.reaches .steward = true) (hr : inRegs a.toNat = true)
    (ha : a.toNat % 4 = 0) : exec (.registerWrite .steward a v) s = .next (s.writeReg .steward a.toNat v) := by
  simp [exec_registerWrite, execRegisterWrite, isBar0, done, State.writeAt, hs, hr, ha, State.mayWrite, State.finishWrite, State.when]

/-- A write to a register without write-only bits, other than the vote registers: the word written, and the two registers with an
effect of their own (01 R45; 05 R165). -/
theorem State.writeReg_plain (m : Master) {a : Nat} (v : Word) {r : RegDef} {i : Nat} (h : regAt a = some (r, i)) (hwo : r.wo = 0)
    (h0 : r.base ≠ R.PWR_STW_VOTE0.base) (h1 : r.base ≠ R.PWR_STW_VOTE1.base) :
    s.writeReg m a v =
      ((s.setReg r i (r.written (s.reg r i) v)).when (r.base == R.STW_ACCESS_INFO.base && v.getLsbD 0)
        fun s => s.set F.STW_ACCESS_INFO_COUNT 0).when
        (r.base == R.PWR_SLEEP_TIMER.base && F.PWR_SLEEP_TIMER_MS.of v == 0) fun s =>
          { s with pwr := { s.pwr with timerArmed := false } } := by
  rw [State.writeReg, h, withReg, if_neg h0, if_neg h1, if_neg (not_not_intro hwo)]
  rfl

/-- VALID reads 0 in the word that a write of 1 to it leaves (01 R45). -/
theorem accessInfo_valid_written (old : Word) {v : Word} (hv : v.getLsbD 0 = true) :
    F.STW_ACCESS_INFO_VALID.of (R.STW_ACCESS_INFO.written old v) = 0 := by
  have bit : (R.STW_ACCESS_INFO.written old v).toNat.testBit 0 = false := by
    change (R.STW_ACCESS_INFO.written old v).getLsbD 0 = false
    simp [RegDef.written, R.STW_ACCESS_INFO, hv]
  simpa [Fld.of, bitsOf, F.STW_ACCESS_INFO_VALID, Nat.testBit_zero] using bit

/-- The word that a write of 0 to PWR_SLEEP_TIMER leaves is 0: all its bits are RW. -/
theorem sleepTimer_written (old : Word) {v : Word} (hv : F.PWR_SLEEP_TIMER_MS.of v = 0) :
    F.PWR_SLEEP_TIMER_MS.of (R.PWR_SLEEP_TIMER.written old v) = 0 := by
  have zero : v = 0 := BitVec.eq_of_toNat_eq (by
    have := v.isLt
    simp only [Fld.of, bitsOf, F.PWR_SLEEP_TIMER_MS] at hv
    simpa using by omega)
  subst zero
  have full : ~~~ R.PWR_SLEEP_TIMER.rw = 0 := by decide
  simp [RegDef.written, full, Fld.of, bitsOf]

end

/-- The write of a plain register. -/
theorem registerWrite_plain {s : State} {a : Word} (v : Word) {r : RegDef} {i : Nat} (hs : s.reaches .steward = true)
    (hr : inRegs a.toNat = true) (ha : a.toNat % 4 = 0) (h : regAt a.toNat = some (r, i)) (hwo : r.wo = 0)
    (h0 : r.base ≠ R.PWR_STW_VOTE0.base) (h1 : r.base ≠ R.PWR_STW_VOTE1.base) (hi : r.base ≠ R.STW_ACCESS_INFO.base)
    (ht : r.base = R.PWR_SLEEP_TIMER.base → F.PWR_SLEEP_TIMER_MS.of v ≠ 0) :
    exec (.registerWrite .steward a v) s = .next (s.setReg r i (r.written (s.reg r i) v)) := by
  have noTimer : (r.base == R.PWR_SLEEP_TIMER.base && F.PWR_SLEEP_TIMER_MS.of v == 0) = false := by
    simpa using ht
  rw [exec_registerWrite_steward v hs hr ha, s.writeReg_plain _ v h hwo h0 h1, noTimer]
  simp [State.when, hi]

/-- The write of 1 to STW_ACCESS_INFO.VALID. -/
theorem registerWrite_accessInfo {s : State} {v : Word} (hs : s.reaches .steward = true) (hv : v.getLsbD 0 = true) :
    exec (.registerWrite .steward (BitVec.ofNat 32 R.STW_ACCESS_INFO.base) v) s =
      .next ((s.setReg R.STW_ACCESS_INFO 0 (R.STW_ACCESS_INFO.written (s.reg R.STW_ACCESS_INFO 0) v)).set
        F.STW_ACCESS_INFO_COUNT 0) := by
  rw [exec_registerWrite_steward v hs (by decide) (by decide),
    s.writeReg_plain (r := R.STW_ACCESS_INFO) (i := 0) _ v (by decide) (by decide) (by decide) (by decide), hv]
  rfl

/-- The write of 0 to PWR_SLEEP_TIMER.MS. -/
theorem registerWrite_sleepTimer {s : State} {v : Word} (hs : s.reaches .steward = true) (hv : F.PWR_SLEEP_TIMER_MS.of v = 0) :
    exec (.registerWrite .steward (BitVec.ofNat 32 R.PWR_SLEEP_TIMER.base) v) s =
      .next { s.setReg R.PWR_SLEEP_TIMER 0 (R.PWR_SLEEP_TIMER.written (s.reg R.PWR_SLEEP_TIMER 0) v) with
        pwr := { s.pwr with timerArmed := false } } := by
  rw [exec_registerWrite_steward v hs (by decide) (by decide),
    s.writeReg_plain (r := R.PWR_SLEEP_TIMER) (i := 0) _ v (by decide) (by decide) (by decide) (by decide), hv]
  rfl

/-- Settles O6, by the three kinds of register its clauses name. -/
theorem registerWrite : Obligations.RegisterWrite := by
  refine ⟨?plain, ?accessInfo, ?sleepTimer⟩
  case plain =>
    intro s a v r i hs hr ha h hwo h0 h1 hi ht
    exact ⟨_, registerWrite_plain v hs hr ha h hwo h0 h1 hi ht, s.reg_setReg_same r i _, s.changesRegs_setReg r i _⟩
  case accessInfo =>
    intro s v hs hv
    refine ⟨_, registerWrite_accessInfo hs hv, ?_, State.get_set_same _ _ (by decide) 0,
      (s.changesRegs_setReg R.STW_ACCESS_INFO 0 _).trans (State.changesRegs_setReg _ R.STW_ACCESS_INFO 0 _)⟩
    rw [State.get_set_apart _ F.STW_ACCESS_INFO_COUNT F.STW_ACCESS_INFO_VALID rfl (by decide) (by decide)]
    exact (congrArg _ (s.reg_setReg_same R.STW_ACCESS_INFO 0 _)).trans (accessInfo_valid_written _ hv)
  case sleepTimer =>
    intro s v hs hv
    exact ⟨_, registerWrite_sleepTimer hs hv,
      (congrArg _ (s.reg_setReg_same R.PWR_SLEEP_TIMER 0 _)).trans (sleepTimer_written _ hv), rfl, rfl,
      s.onlyRegs_setReg R.PWR_SLEEP_TIMER 0 _⟩

/-! ### Register reads (00 R13) -/

/-- The state behind a read of a register whose RC bits clear. -/
def State.clearRc (s : State) (r : RegDef) (i : Nat) : State :=
  s.when (r.rc != 0) fun s => s.setReg r i (s.reg r i &&& ~~~ r.rc)

section
variable (s : State)

theorem State.clearRc_reg (r : RegDef) (i : Nat) : (s.clearRc r i).reg r i = s.reg r i &&& ~~~ r.rc := by
  unfold State.clearRc State.when
  split
  case isTrue => exact s.reg_setReg_same r i _
  case isFalse h =>
    have noRc : r.rc = 0#32 := by simpa using h
    rw [noRc, BitVec.not_zero, BitVec.and_allOnes]

theorem State.clearRc_changesRegs (r : RegDef) (i : Nat) : ChangesRegs s (s.clearRc r i) [r.at i] := by
  unfold State.clearRc State.when
  split
  case isTrue => exact s.changesRegs_setReg r i _
  case isFalse => exact ⟨rfl, fun _ _ _ => rfl⟩

/-- A register read other than of the span counter. -/
theorem State.readReg_plain (m : Master) {a : Nat} {r : RegDef} {i : Nat} (h : regAt a = some (r, i))
    (hlo : r.base ≠ R.SPN_COUNT_LO.base) (hhi : r.base ≠ R.SPN_COUNT_HI.base) :
    s.readReg m a = (s.clearRc r i, s.shown r i) := by
  rw [State.readReg, h, withReg, if_neg hlo, if_neg hhi]
  rfl

/-- Only a read of SPN_COUNT_LO waits for an alignment (04 R141). -/
theorem State.countStalls_plain {a : Nat} {r : RegDef} {i : Nat} (h : regAt a = some (r, i))
    (hlo : r.base ≠ R.SPN_COUNT_LO.base) : s.countStalls a = false := by
  rw [State.countStalls, h, withReg, beq_false_of_ne hlo, Bool.and_false]

end

theorem exec_rcRead (m : Master) (a : Word) (s : State) : exec (.rcRead m a) s = execRcRead m a s := rfl

theorem exec_rcRead_steward (s : State) (a : Word) : exec (.rcRead .steward a) s = .next (s.readAs .steward a.toNat) := by
  simp [exec_rcRead, execRcRead, isBar0, done]

/-- A read by the Steward of a register other than the span counter's. -/
theorem rcRead_plain {s : State} {a : Word} {r : RegDef} {i : Nat} (hs : s.reaches .steward = true) (hr : inRegs a.toNat = true)
    (ha : a.toNat % 4 = 0) (h : regAt a.toNat = some (r, i)) (hlo : r.base ≠ R.SPN_COUNT_LO.base)
    (hhi : r.base ≠ R.SPN_COUNT_HI.base) :
    exec (.rcRead .steward a) s = .next ((s.clearRc r i).answer (leBytes 4 (s.shown r i).toNat)) := by
  have read : s.readAs .steward a.toNat = (s.clearRc r i).answer (leBytes 4 (s.shown r i).toNat) := by
    simp [State.readAs, hs, hr, ha, State.mayRead, s.countStalls_plain h hlo, s.readReg_plain _ h hlo hhi, State.finishRead,
      State.when, masterCode]
  rw [exec_rcRead_steward, read]

/-- Settles O7: the answer is what the register shows before its RC bits clear. -/
theorem registerRead : Obligations.RegisterRead := by
  intro s a r i hs hr ha h hlo hhi
  obtain ⟨same, only⟩ := s.clearRc_changesRegs r i
  exact ⟨_, rcRead_plain hs hr ha h hlo hhi, rfl, s.clearRc_reg r i, congrArg (State.answer · _) same, only⟩

end Sys2Proof.Machine

/-! The two planes (01_two_planes.md): a faulting access (O9). -/

namespace Sys2Proof.Machine

/-! ### What an event leaves (07 R222) -/

section
variable {s t u : State} {l : List Nat}

theorem OnlyRegs.refl (s : State) (l : List Nat) : OnlyRegs s s l := fun _ _ _ => rfl

theorem OnlyRegs.trans (h : OnlyRegs s t l) (k : OnlyRegs t u l) : OnlyRegs s u l :=
  fun q j hq => (k q j hq).trans (h q j hq)

theorem ChangesLogged.trans (h : ChangesLogged s t l) (k : ChangesLogged t u l) : ChangesLogged s u l := by
  obtain ⟨hst, hs⟩ := h
  obtain ⟨htu, ht⟩ := k
  exact ⟨by rw [htu, hst], hs.trans ht⟩

theorem ChangesLogged.get_eq (h : ChangesLogged s t l) (f : Fld)
    (hf : f.reg.at 0 ∉ R.LOG_NEXT.at 0 :: R.LOG_STATUS.at 0 :: l) : t.get f = s.get f :=
  congrArg f.of (h.2 f.reg 0 hf)

end

section
variable (s : State) (l : List Nat)

theorem State.changesLogged_set (f : Fld) (v : Nat) (hf : f.reg.at 0 ∈ R.LOG_NEXT.at 0 :: R.LOG_STATUS.at 0 :: l) :
    ChangesLogged s (s.set f v) l :=
  ⟨rfl, fun _ _ hq => s.reg_setReg_ne _ _ _ _ _ fun same => hq (same ▸ hf)⟩

/-- An event that enters takes the next SEQ and a place in the intake, or is counted as suppressed; while the span clock stands its
source holds it. -/
theorem State.changesLogged_enter (code : Nat) (param : Word) : ChangesLogged s (s.enter code param) l := by
  have next (v : Nat) : ChangesLogged s (s.set F.LOG_NEXT_SEQ v) l := s.changesLogged_set l _ v (List.mem_cons_self ..)
  unfold State.enter
  dsimp only
  split
  · split
    · exact (next _).trans ⟨rfl, OnlyRegs.refl _ _⟩
    · exact (next _).trans (State.changesLogged_set _ l _ _ (List.mem_cons_of_mem _ (List.mem_cons_self ..)))
  · exact ⟨rfl, OnlyRegs.refl _ _⟩

/-- An event is without limit, or is dropped in a window already taken, or takes its window and enters. -/
theorem State.changesLogged_raise (code : Nat) (param : Word) : ChangesLogged s (s.raise code param) l := by
  unfold State.raise
  split
  · exact s.changesLogged_enter l code param
  · split
    · exact ⟨rfl, OnlyRegs.refl _ _⟩
    · exact ChangesLogged.trans ⟨rfl, OnlyRegs.refl _ _⟩ (State.changesLogged_enter _ l code param)

theorem State.changesLogged_ev (code p : Nat) : ChangesLogged s (s.ev code p) l := s.changesLogged_raise l code _

theorem State.get_ev (code p : Nat) (f : Fld) (hf : f.reg.at 0 ∉ [R.LOG_NEXT.at 0, R.LOG_STATUS.at 0]) :
    (s.ev code p).get f = s.get f := (s.changesLogged_ev [] code p).get_eq f hf

end

/-! ### What a counter's step leaves -/

section
variable (s : State)

theorem State.get_inc_ne (f g : Fld) (h : g.reg.at 0 ≠ f.reg.at 0) : (s.inc f).get g = s.get g := s.get_set_ne f g _ h

theorem State.get_inc_apart (f g : Fld) (hr : g.reg = f.reg) (h : f.Fits) (a : f.Apart g) : (s.inc f).get g = s.get g :=
  s.get_set_apart f g hr h a _

theorem State.get_inc_accessCount :
    (s.inc F.STW_ACCESS_INFO_COUNT).get F.STW_ACCESS_INFO_COUNT = min (s.get F.STW_ACCESS_INFO_COUNT + 1) 255 := by
  rw [s.get_inc_same F.STW_ACCESS_INFO_COUNT (by decide)]
  exact Nat.mod_eq_of_lt (Nat.lt_succ_of_le (Nat.min_le_right ..))

end

/-! ### The record of a faulting access (01 R45) -/

theorem masterCode_lt (m : Master) : masterCode m < 2 ^ F.STW_ACCESS_INFO_MASTER.width := by cases m <;> decide

theorem accCode_lt (size : AccSize) : accCode size < 2 ^ F.STW_ACCESS_INFO_SIZE.width := by cases size <;> decide

theorem b2n_lt_two (b : Bool) : b2n b < 2 := by cases b <;> decide

/-- The access written to STW_ACCESS_ADDR and STW_ACCESS_INFO, with VALID set and COUNT still 0. -/
def State.recordAccess (s : State) (m : Master) (a : Nat) (size : AccSize) (unmapped write : Bool) : State :=
  ((((((s.set F.STW_ACCESS_ADDR_ADDR a).set F.STW_ACCESS_INFO_MASTER (masterCode m)).set F.STW_ACCESS_INFO_UNMAPPED
    (b2n unmapped)).set F.STW_ACCESS_INFO_SIZE (accCode size)).set F.STW_ACCESS_INFO_WRITE (b2n write)).set
    F.STW_ACCESS_INFO_COUNT 0).set F.STW_ACCESS_INFO_VALID 1

/-- The state shows this access as the one faulting access since VALID was last clear. -/
structure State.ShowsAccess (t : State) (m : Master) (a : Nat) (size : AccSize) (unmapped write : Bool) : Prop where
  addr : t.get F.STW_ACCESS_ADDR_ADDR = a
  master : t.get F.STW_ACCESS_INFO_MASTER = masterCode m
  size : t.get F.STW_ACCESS_INFO_SIZE = accCode size
  write : t.get F.STW_ACCESS_INFO_WRITE = b2n write
  unmapped : t.get F.STW_ACCESS_INFO_UNMAPPED = b2n unmapped
  valid : t.get F.STW_ACCESS_INFO_VALID = 1
  count : t.get F.STW_ACCESS_INFO_COUNT = 1

section
variable {s : State} (m : Master) {a : Nat} (size : AccSize) (unmapped write : Bool)

/-- With VALID clear the access is recorded, counted and logged. -/
theorem State.faultAccess_of_not_valid (hc : s.coreOn = true) (hv : s.flag F.STW_ACCESS_INFO_VALID = false) :
    s.faultAccess m a size unmapped write =
      ((s.recordAccess m a size unmapped write).inc F.STW_ACCESS_INFO_COUNT).ev 0x0110 (masterCode m) := by
  simp [State.faultAccess, State.when, hc, hv, State.recordAccess]

/-- With VALID set the access is counted and logged alone. -/
theorem State.faultAccess_of_valid (hc : s.coreOn = true) (hv : s.flag F.STW_ACCESS_INFO_VALID = true) :
    s.faultAccess m a size unmapped write = (s.inc F.STW_ACCESS_INFO_COUNT).ev 0x0110 (masterCode m) := by
  simp [State.faultAccess, State.when, hc, hv]

theorem State.faultAccess_showsAccess (ha : a < 2 ^ 32) (hc : s.coreOn = true) (hv : s.flag F.STW_ACCESS_INFO_VALID = false) :
    (s.faultAccess m a size unmapped write).ShowsAccess m a size unmapped write := by
  rw [State.faultAccess_of_not_valid m size unmapped write hc hv]
  constructor <;>
    simp (disch := decide) only [State.get_ev, State.get_inc_ne, State.get_inc_apart, State.get_inc_accessCount,
      State.recordAccess, State.get_set_ne, State.get_set_apart, State.get_set_same]
  case addr => exact Nat.mod_eq_of_lt ha
  case master => exact Nat.mod_eq_of_lt (masterCode_lt m)
  case size => exact Nat.mod_eq_of_lt (accCode_lt size)
  case write => exact Nat.mod_eq_of_lt (b2n_lt_two write)
  case unmapped => exact Nat.mod_eq_of_lt (b2n_lt_two unmapped)
  case valid | count => rfl

theorem State.faultAccess_changesLogged (hc : s.coreOn = true) (hv : s.flag F.STW_ACCESS_INFO_VALID = false) :
    ChangesLogged s (s.faultAccess m a size unmapped write) [R.STW_ACCESS_ADDR.at 0, R.STW_ACCESS_INFO.at 0] := by
  have info (x : State) (f : Fld) (v : Nat) (hf : f.reg = R.STW_ACCESS_INFO) :
      ChangesLogged x (x.set f v) [R.STW_ACCESS_ADDR.at 0, R.STW_ACCESS_INFO.at 0] := x.changesLogged_set _ f v (by simp [hf])
  rw [State.faultAccess_of_not_valid m size unmapped write hc hv]
  refine .trans (.trans ?record (info _ F.STW_ACCESS_INFO_COUNT _ rfl)) (State.changesLogged_ev ..)
  exact (s.changesLogged_set _ F.STW_ACCESS_ADDR_ADDR a (by simp [F.STW_ACCESS_ADDR_ADDR])).trans (info _ _ _ rfl)
    |>.trans (info _ _ _ rfl) |>.trans (info _ _ _ rfl) |>.trans (info _ _ _ rfl) |>.trans (info _ _ _ rfl)
    |>.trans (info _ _ _ rfl)

end

/-! ### FAULTING_ACCESS (01 R38, R39, R45) -/

theorem exec_faultingAccess (m : Master) (target : AccTarget) (size : AccSize) (write : Bool) (s : State) :
    exec (.faultingAccess m target size write) s = execFaultingAccess m target size write s := rfl

/-- A faulting access as its master sees it: the record, and four zero bytes for a read. -/
def State.answerFault (s : State) (m : Master) (a : Nat) (size : AccSize) (unmapped write : Bool) : State :=
  (s.faultAccess m a size unmapped write).when (!write) fun s => s.answer (leBytes 4 0)

section
variable {s : State} {m : Master} {a : Word} {size : AccSize} {write : Bool}

theorem exec_faultingAccess_wrongWidth (hs : s.reaches m = true) (hw : wrongWidth a.toNat size = true) :
    exec (.faultingAccess m (.addr a) size write) s = .next (s.answerFault m a.toNat size false write) := by
  simp [exec_faultingAccess, execFaultingAccess, done, hs, hw, State.answerFault]

theorem exec_faultingAccess_writeOutsideRights (hs : s.reaches m = true) (hw : wrongWidth a.toNat size = false)
    (hr : inRegs a.toNat = true) (hm : s.mayWrite m a.toNat = false) :
    exec (.faultingAccess m (.addr a) size true) s = .next (s.answerFault m a.toNat size true true) := by
  simp [exec_faultingAccess, execFaultingAccess, done, hs, hw, hr, hm, State.answerFault]

theorem wrongWidth_of_ne_b32 (hr : inRegs a.toNat = true) (hz : size ≠ .b32) : wrongWidth a.toNat size = true := by
  simp [wrongWidth, hr, hz]

theorem wrongWidth_aligned_b32 (ha : a.toNat % 4 = 0) : wrongWidth a.toNat .b32 = false := by
  simp [wrongWidth, ha]

end

section
variable (s : State) (m : Master) (a : Nat) (size : AccSize) (unmapped write : Bool)

/-- The answer is all that is added to the record. -/
theorem State.answerFault_eq : s.answerFault m a size unmapped write =
    { s.faultAccess m a size unmapped write with resp := (s.answerFault m a size unmapped write).resp } := by
  cases write <;> rfl

theorem State.answerFault_resp (hw : write = false) : (s.answerFault m a size unmapped write).resp = leBytes 4 0 := by
  subst hw
  rfl

theorem State.answerFault_reg (q : RegDef) (j : Nat) :
    (s.answerFault m a size unmapped write).reg q j = (s.faultAccess m a size unmapped write).reg q j := by
  rw [State.answerFault_eq]
  rfl

theorem State.answerFault_get (f : Fld) :
    (s.answerFault m a size unmapped write).get f = (s.faultAccess m a size unmapped write).get f :=
  congrArg f.of (s.answerFault_reg m a size unmapped write f.reg 0)

@[simp] theorem State.answerFault_mem : (s.answerFault m a size unmapped write).mem = s.mem := by
  rw [State.answerFault_eq]
  exact s.faultAccess_mem ..

variable {s a}

theorem State.answerFault_showsAccess (ha : a < 2 ^ 32) (hc : s.coreOn = true) (hv : s.flag F.STW_ACCESS_INFO_VALID = false) :
    (s.answerFault m a size unmapped write).ShowsAccess m a size unmapped write := by
  obtain ⟨addr, master, width, dir, kind, valid, count⟩ := s.faultAccess_showsAccess m size unmapped write ha hc hv
  have same := s.answerFault_get m a size unmapped write
  exact ⟨(same _).trans addr, (same _).trans master, (same _).trans width, (same _).trans dir, (same _).trans kind,
    (same _).trans valid, (same _).trans count⟩

/-- With VALID clear a faulting access changes its two registers, the log and the answer alone. -/
theorem State.answerFault_frame (hc : s.coreOn = true) (hv : s.flag F.STW_ACCESS_INFO_VALID = false) :
    s.answerFault m a size unmapped write =
        { s with regs := (s.answerFault m a size unmapped write).regs, log := (s.answerFault m a size unmapped write).log
                 resp := (s.answerFault m a size unmapped write).resp } ∧
      OnlyRegs s (s.answerFault m a size unmapped write)
        [R.LOG_NEXT.at 0, R.LOG_STATUS.at 0, R.STW_ACCESS_ADDR.at 0, R.STW_ACCESS_INFO.at 0] := by
  obtain ⟨same, only⟩ := s.faultAccess_changesLogged m (a := a) size unmapped write hc hv
  constructor
  · have answered := congrArg (State.answer · (s.answerFault m a size unmapped write).resp) same
    cases write <;> exact (s.answerFault_eq ..).trans answered
  · intro q j hq
    exact (s.answerFault_reg ..).trans (only q j hq)

/-- With VALID set COUNT gains 1, up to 0xFF, and the recorded address stands. -/
theorem State.answerFault_of_valid (hc : s.coreOn = true) (hv : s.flag F.STW_ACCESS_INFO_VALID = true) :
    (s.answerFault m a size unmapped write).get F.STW_ACCESS_INFO_COUNT = min (s.get F.STW_ACCESS_INFO_COUNT + 1) 255 ∧
      (s.answerFault m a size unmapped write).get F.STW_ACCESS_ADDR_ADDR = s.get F.STW_ACCESS_ADDR_ADDR := by
  rw [State.answerFault_get, State.answerFault_get, State.faultAccess_of_valid m size unmapped write hc hv,
    State.get_ev _ _ _ _ (by decide), State.get_ev _ _ _ _ (by decide)]
  exact ⟨s.get_inc_accessCount, s.get_inc_ne _ _ (by decide)⟩

end

/-- Settles O9: by the record of a faulting access, with VALID clear and with VALID set, behind the two ways an access to the
register range is refused. -/
theorem faultingAccess : Obligations.FaultingAccess := by
  refine ⟨?wrongWidthFirst, ?wrongWidthAgain, ?hostWrite⟩
  case wrongWidthFirst =>
    intro s m a size write hc hs hr hz hv
    obtain ⟨addr, master, width, dir, kind, valid, count⟩ := s.answerFault_showsAccess m size false write a.isLt hc hv
    exact ⟨_, exec_faultingAccess_wrongWidth hs (wrongWidth_of_ne_b32 hr hz), addr, master, width, dir, kind, valid, count,
      s.answerFault_resp m _ size false write, s.answerFault_frame m size false write hc hv⟩
  case wrongWidthAgain =>
    intro s m a size write hc hs hr hz hv
    obtain ⟨count, addr⟩ := s.answerFault_of_valid m (a := a.toNat) size false write hc hv
    exact ⟨_, exec_faultingAccess_wrongWidth hs (wrongWidth_of_ne_b32 hr hz), count, addr, s.answerFault_resp m _ size false write,
      s.answerFault_mem ..⟩
  case hostWrite =>
    intro s a hc hs hr ha hv
    obtain ⟨addr, master, -, -, kind, valid, count⟩ := s.answerFault_showsAccess .host .b32 true true a.isLt hc hv
    exact ⟨_, exec_faultingAccess_writeOutsideRights hs (wrongWidth_aligned_b32 ha) hr rfl, addr, master, kind, valid, count,
      s.answerFault_mem ..⟩

end Sys2Proof.Machine
